-- ==== Sys2Proof/Word.lean ====
section
/-! DEFINITION. The words of the OF2410: bytes, 16-bit words, 32-bit words (R180), and the levels of a character on a
line (R157). -/

namespace Sys2Proof

/-- One byte of a frame, of a block or of an identity record. -/
abbrev Byte := BitVec 8

/-- One 16-bit word: the module data lines, a FILL pattern, a CRC-16, a generation. -/
abbrev Half := BitVec 16

/-- One 32-bit word: a condition-set word as a request carries it (R183). -/
abbrev Word := BitVec 32

/-- The levels of a line over the ten bit times of a character, in order of time from bit 0; mark is 1, space 0 (R157). -/
abbrev LineLevels := BitVec 10

end Sys2Proof
end

