-- ==== Sys2Proof/Config.lean ====
section
/-! DEFINITION. The capacities and durations that the manual fixes for the part (R165, R168, 00 organization). -/

namespace Sys2Proof.Config

/-- Live jobs per link (R5). -/
def liveMax : Nat := 8
/-- Outcomes kept per link (R7). -/
def historyMax : Nat := 8
/-- Windows (R78). -/
def windowCount : Nat := 8
/-- Module slots (05). -/
def slotCount : Nat := 4
/-- Block buffers (R32). -/
def bufferCount : Nat := 16
/-- Bytes of one block buffer (R32). -/
def bufferBytes : Nat := 2048
/-- Buffers one lane may hold (R32). -/
def laneCap : Nat := 8
/-- Credits outstanding per WRITE job (R40). -/
def creditMax : Nat := 4
/-- Intake places per link (R163). -/
def intakeMax : Nat := 4
/-- Reply places per link (R165). -/
def replyPlaces : Nat := 4
/-- Notice places per link (R150). -/
def noticePlaces : Nat := 12
/-- DATA places per link (R165). -/
def dataPlaces : Nat := 8
/-- The overflow count stays at this value (R151). -/
def overflowMax : Nat := 255
/-- Largest payload of a REQ frame, and of any non-data frame the part sends (R160, R178). -/
def requestPayloadMax : Nat := 512
/-- Largest payload of a DAT frame (R160). -/
def dataPayloadMax : Nat := 2050
/-- Segments per list (R2). -/
def segmentsMax : Nat := 16
/-- Blocks per segment (R2). -/
def segmentBlocksMax : Nat := 4096

/-- Settle time in ms (R102). -/
def settleMs : Nat := 100
/-- Ramp time in ms (R106). -/
def rampMs : Nat := 20
/-- Debounce time of WP and of the latch in ms (R122, R73). -/
def debounceMs : Nat := 10
/-- Gap time inside a frame, in bit times (R161). -/
def gapBits : Nat := 100
/-- Default data timeout in ms (R168). -/
def defaultDataTimeout : Nat := 1000
/-- The count of no-responses that faults a slot (R118). -/
def noResponseMax : Nat := 3
/-- Effective waits, response limit in µs and retries of an identity read (R108). -/
def identWaits : Nat := 7
def identLimit : Nat := 1000
def identRetries : Nat := 1
/-- Bytes of an identity record (R108). -/
def identBytes : Nat := 32
/-- The part revision code (R189). -/
def revision : Nat := 0x21
/-- The sync byte of a frame (R178). -/
def sync : Byte := 0xC3

end Sys2Proof.Config
end

