-- ==== Sys2Proof/Syntax.lean ====
section
/-! DEFINITION. The commands of the OF2410, one constructor per row of spec/opcode_table.json, and the types of their
operands. The table gives no operands: they are the model's (log entry 9). -/

namespace Sys2Proof

/-- The two host links. Each names its lane and its host as well (08). -/
inductive Link where
  | A
  | B
  deriving DecidableEq, Repr

/-- The other link. -/
def Link.other : Link → Link
  | .A => .B
  | .B => .A

/-- One of the four slots (05). -/
abbrev SlotId := Fin 4

/-- A segment of a job list: a logical address and a block count (01). -/
structure Segment where
  address : Nat
  blocks : Nat
  deriving DecidableEq, Repr

/-- The items of a WSET request as the host gives them (R81, R184). Coded items are the numbers on the line. -/
structure WsetArgs where
  index : Nat
  base : Nat
  sizePower : Nat
  slot : Nat
  offset : Nat
  rightsA : Option Nat
  rightsB : Option Nat
  waits : Option Nat
  limit : Option Nat
  retries : Option Nat
  deriving DecidableEq, Repr

/-- The items of a JSUB request as the host gives them (R2, R184). Coded items are the numbers on the line. -/
structure JsubArgs where
  tag : Nat
  kind : Nat
  blockSize : Nat
  flags : Option Nat
  pattern : Option Half
  primary : List Segment
  destination : List Segment
  deriving DecidableEq, Repr

/-- What a line receiver delivers to the framer: a byte, or an error in its place (R158). -/
inductive LineChar where
  | byte (b : Byte)
  | error
  deriving DecidableEq, Repr

/-- The response lines a module asserts: MACK, MREJ, or both together (R131). -/
inductive ResponseLines where
  | ack
  | reject
  | both
  deriving DecidableEq, Repr

/-- A response: the lines asserted, and whether it comes too late, in answer to a word which has ended without a response
(R132, R139, log entry 19). -/
structure Response where
  lines : ResponseLines
  late : Bool
  deriving DecidableEq, Repr

/-- The links at which the condition logic takes a latch report before the Job Scheduler does (R154, log entry 14). -/
structure ConditionsFirst where
  atA : Bool
  atB : Bool
  deriving DecidableEq, Repr

/-- The commands: one constructor per row of spec/opcode_table.json. -/
inductive Instr where
  /-- OPEN (R168). -/
  | openSession (l : Link) (dataTimeout holdLimit : Option Nat)
  /-- CLOSE (R169). -/
  | closeSession (l : Link)
  /-- RSTL (R171). -/
  | rstl (l : Link)
  /-- RSTP (R172). -/
  | rstp (l : Link)
  /-- NSUB (R147). -/
  | nsub (l : Link) (mask : Word)
  /-- NACK (R148). -/
  | nack (l : Link) (conditions : Word)
  /-- NGET (R149). -/
  | nget (l : Link)
  /-- WSET (R82). -/
  | wset (l : Link) (args : WsetArgs)
  /-- WREL (R86). -/
  | wrel (l : Link) (index : Nat)
  /-- WGET (R87). -/
  | wget (l : Link) (index : Nat)
  /-- SPWR with POWER on (R111). -/
  | spwrOn (l : Link) (slot : Nat) (force : Bool)
  /-- SPWR with POWER off (R112). -/
  | spwrOff (l : Link) (slot : Nat) (force : Bool)
  /-- SCFG (R120): `auto` is the coded value, 0 off and 1 on. -/
  | scfg (l : Link) (slot auto : Nat)
  /-- SCLR (R119). -/
  | sclr (l : Link) (slot : Nat)
  /-- SGET (R121). -/
  | sget (l : Link) (slot : Nat)
  /-- JSUB (R4). -/
  | jsub (l : Link) (args : JsubArgs)
  /-- JPAU (R64). -/
  | jpau (l : Link) (tag : Nat)
  /-- JRES (R65). -/
  | jres (l : Link) (tag : Nat)
  /-- JCAN (R66). -/
  | jcan (l : Link) (tag : Nat)
  /-- JGET (R9). -/
  | jget (l : Link) (tag : Nat)
  /-- JLST (R10). -/
  | jlst (l : Link)
  /-- UNKNOWN_REQUEST: a request whose code names none (R185). -/
  | unknownRequest (l : Link) (code : Byte)
  /-- REQ_FRAME_ARRIVES (R163). -/
  | reqFrameArrives (l : Link) (code : Byte) (payload : List Byte)
  /-- DAT_FRAME_ARRIVES (R42). -/
  | datFrameArrives (l : Link) (tag : Byte) (payload : List Byte)
  /-- FRAME_DISCARD (R160). -/
  | frameDiscard (l : Link)
  /-- GAP_TIMER_EXPIRY (R161). -/
  | gapTimerExpiry (l : Link)
  /-- BREAK_DETECTED (R159). -/
  | breakDetected (l : Link)
  /-- BREAK_ENDS (R159). -/
  | breakEnds (l : Link)
  /-- TRANSMISSION_END (R165). -/
  | transmissionEnd (l : Link)
  /-- POWER_ON_RESET, with the levels of the rate straps that it samples (R175, R157). -/
  | powerOnReset (rate1 rate0 : Bool)
  /-- PRES_ASSERT (R102). -/
  | presAssert (i : SlotId)
  /-- PRES_DEASSERT (R104). -/
  | presDeassert (i : SlotId)
  /-- SETTLE_TIMER_EXPIRY (R103). -/
  | settleTimerExpiry (i : SlotId)
  /-- RAMP_TIMER_EXPIRY (R106). -/
  | rampTimerExpiry (i : SlotId)
  /-- TRIP: TRIPs asserts, or (`asserted` false) is released (R117, R99, log entry 9). -/
  | trip (i : SlotId) (asserted : Bool)
  /-- WP_PIN_CHANGE: the level of WPs changes (R122). -/
  | wpPinChange (i : SlotId)
  /-- WP_DEBOUNCE_EXPIRY (R122). -/
  | wpDebounceExpiry (i : SlotId)
  /-- BAYLATCH_PIN_CHANGE: the level of BAYLATCH changes (R73). -/
  | baylatchPinChange
  /-- LATCH_DEBOUNCE_EXPIRY (R73). The operands are the orders the spec leaves open (R154, log entry 14): at which
  links the condition logic takes the report before the Job Scheduler does, and which link the Job Scheduler serves
  first. -/
  | latchDebounceExpiry (conditionsFirst : ConditionsFirst) (first : Link)
  /-- GRANT: the grant outstanding reaches its requester (R129). -/
  | grant
  /-- WORD_RESPONSE: a module asserts its response, with the levels of MD, MDP and MPERR (R131). -/
  | wordResponse (r : Response) (md : Half) (mdp mperr : Bool)
  /-- RESPONSE_WATCHDOG_EXPIRY (R132). -/
  | responseWatchdogExpiry
  /-- HOLD_TIMER_EXPIRY (R71). -/
  | holdTimerExpiry (l : Link)
  /-- DATA_TIMER_EXPIRY (R45). -/
  | dataTimerExpiry (l : Link)
  /-- CHARACTER_RECEIVED: the levels of the receive line over the ten bit times of a character (R157, R158). -/
  | characterReceived (l : Link) (levels : LineLevels)
  /-- NRST_ASSERT (R175). -/
  | nrstAssert
  /-- WAIT_TIME_END (R131). -/
  | waitTimeEnd
  /-- RESPONSE_LINES_RELEASED (R131). -/
  | responseLinesReleased
  deriving DecidableEq, Repr

end Sys2Proof
end

