-- ==== Sys2Proof/WellFormed.lean ====
section
/-! DEFINITION. Which commands can be written on the line: every integer item fits its value length (R181), a frame's
payload fits the framer's limit (R160), an unknown code names no request (R184), and a character begins with its start bit
(R157). The meanings do not ask for it: they answer for every operand. -/

namespace Sys2Proof

/-- A value of an item of `n` bytes (R180). -/
def fits (n v : Nat) : Bool := v < 256 ^ n

/-- An optional value of an item of `n` bytes. -/
def fitsOpt (n : Nat) : Option Nat → Bool
  | none => true
  | some v => fits n v

/-- A segment item: 4 bytes of address and 2 of count (R181). -/
def Segment.wellFormed (g : Segment) : Bool := fits 4 g.address && fits 2 g.blocks

def WsetArgs.wellFormed (a : WsetArgs) : Bool :=
  fits 1 a.index && fits 4 a.base && fits 1 a.sizePower && fits 1 a.slot && fits 4 a.offset &&
  fitsOpt 1 a.rightsA && fitsOpt 1 a.rightsB && fitsOpt 1 a.waits && fitsOpt 2 a.limit && fitsOpt 1 a.retries

/-- The most SEGMENT and DEST_SEGMENT items one JSUB frame can carry beside its required items (R184: up to 62). -/
def jsubSegmentsMax : Nat := 62

/-- The bytes of the payload that a JSUB with these arguments takes (R180, R181). -/
def JsubArgs.payloadBytes (a : JsubArgs) : Nat :=
  3 + 3 + 4 + (if a.flags.isSome then 3 else 0) + (if a.pattern.isSome then 4 else 0) +
  8 * (a.primary.length + a.destination.length)

def JsubArgs.wellFormed (a : JsubArgs) : Bool :=
  fits 1 a.tag && fits 1 a.kind && fits 2 a.blockSize && fitsOpt 1 a.flags &&
  a.primary.all Segment.wellFormed && a.destination.all Segment.wellFormed &&
  decide (a.payloadBytes ≤ Config.requestPayloadMax)

/-- The 20 request codes (R184). -/
def knownCodes : List Nat :=
  [0x10, 0x11, 0x12, 0x13, 0x20, 0x21, 0x22, 0x30, 0x31, 0x32, 0x40, 0x41, 0x42, 0x43,
   0x50, 0x51, 0x52, 0x53, 0x54, 0x55]

/-- The code names one of the 20 requests (R164 step 1). -/
def knownCode (c : Byte) : Bool := knownCodes.contains c.toNat

/-- A command that some host, board or module can give. -/
def Instr.wellFormed : Instr → Bool
  | .openSession _ d h => fitsOpt 2 d && fitsOpt 2 h
  | .wset _ a => a.wellFormed
  | .wrel _ n => fits 1 n
  | .wget _ n => fits 1 n
  | .spwrOn _ n _ => fits 1 n
  | .spwrOff _ n _ => fits 1 n
  | .scfg _ n v => fits 1 n && fits 1 v
  | .sclr _ n => fits 1 n
  | .sget _ n => fits 1 n
  | .jsub _ a => a.wellFormed
  | .jpau _ t => fits 1 t
  | .jres _ t => fits 1 t
  | .jcan _ t => fits 1 t
  | .jget _ t => fits 1 t
  | .unknownRequest _ c => !knownCode c
  | .reqFrameArrives _ _ p => decide (p.length ≤ Config.requestPayloadMax)
  | .datFrameArrives _ _ p => decide (p.length ≤ Config.dataPayloadMax)
  | .closeSession _ => true
  | .rstl _ => true
  | .rstp _ => true
  | .nsub _ _ => true
  | .nack _ _ => true
  | .nget _ => true
  | .jlst _ => true
  | .frameDiscard _ => true
  | .gapTimerExpiry _ => true
  | .breakDetected _ => true
  | .breakEnds _ => true
  | .transmissionEnd _ => true
  | .powerOnReset _ _ => true
  | .presAssert _ => true
  | .presDeassert _ => true
  | .settleTimerExpiry _ => true
  | .rampTimerExpiry _ => true
  | .trip _ _ => true
  | .wpPinChange _ => true
  | .wpDebounceExpiry _ => true
  | .baylatchPinChange => true
  | .latchDebounceExpiry _ _ => true
  | .grant => true
  | .wordResponse _ _ _ _ => true
  | .responseWatchdogExpiry => true
  | .holdTimerExpiry _ => true
  | .dataTimerExpiry _ => true
  | .characterReceived _ levels => !levels.getLsbD 0
  | .nrstAssert => true
  | .waitTimeEnd => true
  | .responseLinesReleased => true

end Sys2Proof
end

