-- ==== Sys2Proof/Decode.lean ====
section
/-! DEFINITION. The command that a word spells by the bits of spec/opcode_table.json. No row of the table gives bits, so
no word spells a command (log entry 24). The bytes of request frames are decoded where the part decodes them, at hand-off
(Machine/Operands.lean, R185). -/

namespace Sys2Proof

/-- The command spelled by a table word of `nbits` bits: none, since no row of the table gives bits. -/
def decodeTableWord (nbits w : Nat) : Option Instr :=
  match nbits, w with
  | _, _ => none

end Sys2Proof
end

