-- ==== Sys2Proof/Machine/State.lean ====
section
/-! DEFINITION. The state of the OF2410, as plain data, and its value after a power-on reset. INVENTORY.md, under
"State", names the rule and the reset value of each field. -/

namespace Sys2Proof.Machine

/-- What stops the part: nothing. The spec gives every row of the table an effect, and an event that cannot occur has
none (log entry 5), so no constructor stands here; safe, since no run is cut short. -/
inductive Fault
  deriving DecidableEq, Repr

/-- What the model refuses. `notModelled` is raised by `exec` alone, for a row that has no meaning yet; safe, since the
run stops there. -/
inductive Refusal where
  | notModelled (mnemonic : String)
  deriving DecidableEq, Repr

/-- A timer: stopped, or running since it was last started with the given full duration (log entry 6). -/
inductive Timer where
  | stopped
  | running (duration : Nat)
  deriving DecidableEq, Repr

/-- Bytes by offset, as cells in one canonical form (`Memory.wf`); an unlisted offset reads as 0 (log entry 2). -/
abbrev Memory := List Host.Cell

/-- The line rates (R157). -/
inductive LineRate where
  | mbit1
  | mbit2
  | mbit4
  | mbit8
  deriving DecidableEq, Repr

/-- The accepted latch state (R73). -/
inductive LatchState where
  | opened
  | closed
  deriving DecidableEq, Repr

/-! Codes (R182, R186) -/

/-- Reply codes (R186). -/
inductive ReplyCode where
  | ok
  | noSession
  | sessionOpen
  | badFormat
  | unknownRequest
  | badParam
  | queueFull
  | duplicateTag
  | unknownJob
  | notActive
  | notPaused
  | alreadyPaused
  | cancelling
  | ended
  | ownedByOther
  | notOwner
  | slotState
  | slotBusy
  deriving DecidableEq, Repr

/-- Reset causes (R176, R182). -/
inductive ResetCause where
  | powerOn
  | partResetA
  | partResetB
  | linkRequest
  | linkBreak
  deriving DecidableEq, Repr

/-- Access rights of a link through a window (R80). -/
inductive Rights where
  | none
  | read
  | readWrite
  deriving DecidableEq, Repr

/-- Slot states (R100, R101). -/
inductive SlotPhase where
  | empty
  | settling
  | present
  | queuedForPower
  | ramping
  | identifying
  | ready
  | draining
  | faulted
  deriving DecidableEq, Repr

/-- Fault kinds of a slot (R116). -/
inductive FaultKind where
  | overcurrent
  | identBad
  | identNoResponse
  | unresponsive
  deriving DecidableEq, Repr

/-- Module classes (R109). -/
inductive ModuleClass where
  | readWrite
  | readOnly
  deriving DecidableEq, Repr

/-- Job kinds (R1). -/
inductive JobKind where
  | read
  | write
  | copy
  | fill
  deriving DecidableEq, Repr

/-- States of a live job (01, 1.1). -/
inductive JobState where
  | queued
  | running
  | pausing
  | paused
  | cancelling
  deriving DecidableEq, Repr

/-- The job state a reply reports: that of a live job, or ENDED (R9, R182). -/
inductive JobStatus where
  | live (s : JobState)
  | ended
  deriving DecidableEq, Repr

/-- Outcomes (R8). -/
inductive JobOutcome where
  | done
  | doneWithErrors
  | failed
  | cancelled
  | holdExpired
  deriving DecidableEq, Repr

/-- The two lists of a job (R1). -/
inductive ListId where
  | primary
  | destination
  deriving DecidableEq, Repr

/-- Error kinds (R15, R17, R18, R21, R182). -/
inductive ErrorKind where
  | decodeMiss
  | decodeConflict
  | split
  | protection
  | slotNotReady
  | outOfModule
  | moduleLocked
  | noResponse
  | moduleReject
  | dataCheck
  | slotGone
  | slotFault
  | dataTimeout
  | dataSequence
  | dataUnsolicited
  deriving DecidableEq, Repr

/-- A set of the 25 conditions, bit by bit in the order of R183. -/
abbrev ConditionSet := BitVec 25

/-- Direction of a block transfer (R126). -/
inductive Direction where
  | read
  | write
  deriving DecidableEq, Repr

/-! Jobs (01) -/

/-- The error a job records first (R18, R21): kind, list, segment index, block index. -/
structure FirstError where
  kind : ErrorKind
  list : ListId
  segment : Nat
  block : Nat
  deriving DecidableEq, Repr

/-- A lane's copy of what the Window Map resolved for one list (R16, R95). -/
structure Binding where
  slot : SlotId
  address : Nat
  waits : Nat
  limit : Nat
  retries : Nat
  generation : Half
  deriving DecidableEq, Repr

/-- The position in one list: segment index, block index, blocks completed in that segment (R13). -/
structure Position where
  segment : Nat
  block : Nat
  done : Nat
  deriving DecidableEq, Repr

/-- The job record (01, 1.1). Its link is the one whose live list holds it. -/
structure Job where
  tag : Nat
  kind : JobKind
  blockSize : Nat
  stopOnError : Bool
  segmentNotices : Bool
  pattern : Option Half
  primary : List Segment
  destination : List Segment
  total : Nat
  state : JobState
  causeHost : Bool
  causeLatch : Bool
  nextBlock : Nat
  posPrimary : Position
  posDestination : Position
  bindPrimary : Option Binding
  bindDestination : Option Binding
  completed : Nat
  failed : Nat
  firstError : Option FirstError
  credits : Nat
  nextExpected : Nat
  holdTimer : Timer
  dataTimer : Timer
  deriving DecidableEq, Repr

/-- An entry of the outcome history (R7). -/
structure HistoryEntry where
  tag : Nat
  kind : JobKind
  outcome : JobOutcome
  completed : Nat
  failed : Nat
  firstError : Option FirstError
  deriving DecidableEq, Repr

/-- Lane states (R11). -/
inductive LaneState where
  | idle
  | busy
  | stopping
  deriving DecidableEq, Repr

/-- What a lane keeps beside its buffers, its request and its job: its state and the two counts of R40. -/
structure Lane where
  state : LaneState
  blocksCredited : Nat
  pendingCredits : Nat
  deriving DecidableEq, Repr

/-! Messages (07, 08, 09) -/

/-- A stored identity: the fields of R109 that SGET reports, as numbers and as the bytes read (R190). -/
structure Identity where
  moduleClass : ModuleClass
  capacityCode : Nat
  dataWidth : Nat
  minWaits : Nat
  serial : List Byte
  model : List Byte
  deriving DecidableEq, Repr

/-- The items the part sends (R181), each with its value. -/
inductive Item where
  | dataTimeout (ms : Nat)
  | holdLimit (seconds : Nat)
  | link (l : Link)
  | latch (a : LatchState)
  | capacity
  | slotSummary (i : SlotId) (p : SlotPhase)
  | cause (c : ResetCause)
  | revision
  | presence (pins : BitVec 4)
  | conditions (c : ConditionSet)
  | mask (c : ConditionSet)
  | overflowCount (n : Nat)
  | window (i : Nat)
  | owner (o : Option Link)
  | base (a : Nat)
  | sizePower (n : Nat)
  | slot (i : Nat)
  | moduleOffset (a : Nat)
  | rightsA (r : Rights)
  | rightsB (r : Rights)
  | waits (n : Nat)
  | responseLimit (us : Nat)
  | retries (n : Nat)
  | overlap (i : Nat)
  | autoBringup (on : Bool)
  | slotState (p : SlotPhase)
  | faultKind (k : FaultKind)
  | generation (g : Half)
  | wp (asserted : Bool)
  | noResponseCount (n : Nat)
  | queuePosition (n : Nat)
  | moduleClass (c : ModuleClass)
  | capacityCode (n : Nat)
  | dataWidth (n : Nat)
  | minWaits (n : Nat)
  | serial (bytes : List Byte)
  | model (bytes : List Byte)
  | jobTag (t : Nat)
  | kind (k : JobKind)
  | listPosition (n : Nat)
  | jobState (s : JobStatus)
  | pauseCauses (host latch : Bool)
  | totalBlocks (n : Nat)
  | nextBlock (n : Nat)
  | primaryPosition (segment block : Nat)
  | destPosition (segment block : Nat)
  | blocksCompleted (n : Nat)
  | failedSegments (n : Nat)
  | credits (n : Nat)
  | nextExpected (n : Nat)
  | firstError (e : FirstError)
  | outcome (o : JobOutcome)
  | liveEntry (tag : Nat) (s : JobState)
  | historyEntry (tag : Nat) (o : JobOutcome)
  | segmentIndex (n : Nat)
  | segmentCompleted (n : Nat)
  | segmentError (k : ErrorKind) (block : Nat)
  deriving DecidableEq, Repr

/-- The notices of the notice class, with what each carries (R150, R187). -/
inductive Notice where
  | condition (set : ConditionSet)
  | jobPaused (tag : Nat) (host latch : Bool) (next completed : Nat)
  | jobResumed (tag : Nat) (next completed : Nat)
  | segmentDone (tag index completed : Nat) (error : Option (ErrorKind × Nat))
  | jobEnded (tag : Nat) (outcome : JobOutcome) (completed failed : Nat) (firstError : Option FirstError)
  | overflow (count : Nat)
  deriving DecidableEq, Repr

/-- A buffer of the pool, by number (R32). -/
abbrev BufId := Fin 16

/-- An entry of a link's outbound queue (R165). A DATA entry refers to the OUTBOUND buffer that holds its block (R39). -/
inductive Entry where
  | reply (code : Byte) (result : ReplyCode) (items : List Item)
  | hello (cause : ResetCause) (latch : LatchState) (presence : BitVec 4)
  | credit (tag count : Nat)
  | notice (n : Notice)
  | data (tag sequence size : Nat) (buffer : BufId)
  deriving DecidableEq, Repr

/-- A REQ frame in an intake: its code byte and its payload (R163). -/
structure ReqFrame where
  code : Byte
  payload : List Byte
  deriving DecidableEq, Repr

/-- Session states (R167). -/
inductive Session where
  | closed
  | opened
  | resetPending
  deriving DecidableEq, Repr

/-- The framer: hunting, or in a frame with the bytes taken since its sync byte (R160). -/
inductive Framer where
  | hunt
  | inFrame (taken : List Byte)
  deriving DecidableEq, Repr

/-- What one link holds: its Link Interface (08, 07), and its lane, live list and history (01). -/
structure LinkState where
  session : Session
  dataTimeout : Option Nat
  holdLimit : Option Nat
  framer : Framer
  gapTimer : Timer
  breakDetected : Bool
  intake : List ReqFrame
  outbound : List Entry
  transmitting : Bool
  conditions : ConditionSet
  mask : ConditionSet
  overflow : Nat
  live : List Job
  history : List HistoryEntry
  lane : Lane
  deriving DecidableEq, Repr

/-! Buffers, windows, slots (02, 04, 05) -/

/-- The use of a held buffer, with the job tag and job block number where R35 records them. -/
inductive BufferUse where
  | staged
  | inTransfer (tag block : Nat)
  | outbound (tag block : Nat)
  | reserved
  | filled (tag block : Nat)
  | loaded (tag block : Nat)
  | pattern
  deriving DecidableEq, Repr

/-- The holder of a buffer (R32), with the lane's use of it (R35). -/
inductive Holder where
  | free
  | lane (l : Link) (u : BufferUse)
  deriving DecidableEq, Repr

/-- One block buffer (R32). -/
structure Buffer where
  holder : Holder
  bytes : Memory
  deriving DecidableEq, Repr

/-- The fields of an enabled window (R78). -/
structure Window where
  owner : Link
  base : Nat
  sizePower : Nat
  slot : SlotId
  offset : Nat
  rightsA : Rights
  rightsB : Rights
  waits : Nat
  limit : Nat
  retries : Nat
  deriving DecidableEq, Repr

/-- One slot: its record (R100), its timers (R102, R106, R122) and its input pins (R99). -/
structure Slot where
  state : SlotPhase
  faultKind : Option FaultKind
  generation : Half
  autoBringup : Bool
  wp : Bool
  identity : Option Identity
  noResponse : Nat
  settleTimer : Timer
  rampTimer : Timer
  wpDebounce : Timer
  presPin : Bool
  wpPin : Bool
  tripPin : Bool
  deriving DecidableEq, Repr

/-! The module bus (06) -/

/-- A lane's request at the arbiter (R127), with the block size that gives the word count (R130). -/
structure BusRequest where
  slot : SlotId
  address : Nat
  direction : Direction
  waits : Nat
  limit : Nat
  retries : Nat
  blockSize : Nat
  deriving DecidableEq, Repr

/-- Who asks for a block transfer (06). -/
inductive Requester where
  | lane (l : Link)
  | identify
  deriving DecidableEq, Repr

/-- A grant on its way to its requester. `withdrawn` says that the lane has withdrawn the request it answers (R127). -/
inductive Grant where
  | lane (l : Link) (r : BusRequest) (withdrawn : Bool)
  | identify (slot : SlotId)
  deriving DecidableEq, Repr

/-- The steps of a word cycle that last (R131): waiting for MACK and MREJ to be released (step 1), MSTB asserted with
the wait time of the given ns running (step 3), and waiting for the response (step 4). -/
inductive WordPhase where
  | release
  | waitTime (ns : Nat)
  | response
  deriving DecidableEq, Repr

/-- The transfer record (R126, R130), with the phase and the watchdog of its word (R131, R132). -/
structure Transfer where
  requester : Requester
  slot : SlotId
  direction : Direction
  dataWidth : Nat
  address : Nat
  wordCount : Nat
  waits : Nat
  limit : Nat
  retriesLeft : Nat
  wordIndex : Nat
  buffer : Option BufId
  phase : WordPhase
  watchdog : Timer
  deriving DecidableEq, Repr

/-- Bus states (R126). -/
inductive BusState where
  | free
  | granted (g : Grant)
  | inFlight (t : Transfer)
  deriving DecidableEq, Repr

/-- The bus, its arbiter (R127, R128) and the levels the modules drive (R131). `late` says that the levels standing are
those of a late response, which is not taken for any word (R132). -/
structure Bus where
  state : BusState
  requestA : Option BusRequest
  requestB : Option BusRequest
  requestIdentify : Option SlotId
  pointer : Link
  mack : Bool
  mrej : Bool
  md : Half
  mdp : Bool
  mperr : Bool
  late : Bool
  deriving DecidableEq, Repr

/-- The state of the part, and the queue of waiting commands. -/
structure State where
  pending : List Instr
  inReset : Bool
  rate : LineRate
  rate1 : Bool
  rate0 : Bool
  latchPin : Bool
  latch : LatchState
  latchDebounce : Timer
  latchHold : Bool
  linkA : LinkState
  linkB : LinkState
  buffers : Vector Buffer 16
  waitList : List Link
  windows : Vector (Option Window) 8
  slots : Vector Slot 4
  powerWait : List SlotId
  ramping : Option SlotId
  identQueue : List SlotId
  identStore : Memory
  bus : Bus
  deriving DecidableEq, Repr

/-! Reset values (R31, R32, R56, R98, R100, R125, R141, R155, R177) -/

/-- A lane after a reset (R31, R56). -/
def Lane.reset : Lane := ⟨.idle, 0, 0⟩

/-- A link after a reset, with nothing in its outbound queue (R155, R177). -/
def LinkState.reset : LinkState where
  session := .closed
  dataTimeout := none
  holdLimit := none
  framer := .hunt
  gapTimer := .stopped
  breakDetected := false
  intake := []
  outbound := []
  transmitting := false
  conditions := 0
  mask := 0
  overflow := 0
  live := []
  history := []
  lane := Lane.reset

/-- A slot with all its pins open, after a reset (R100, R125, log entry 1). -/
def Slot.reset : Slot where
  state := .empty
  faultKind := none
  generation := 0
  autoBringup := true
  wp := false
  identity := none
  noResponse := 0
  settleTimer := .stopped
  rampTimer := .stopped
  wpDebounce := .stopped
  presPin := false
  wpPin := false
  tripPin := false

/-- A FREE buffer with the contents the model gives it at power-on (R32, log entry 2). -/
def Buffer.reset : Buffer := ⟨.free, []⟩

/-- The bus after a reset (R141), with nothing driven by a module (log entry 3). -/
def Bus.reset : Bus where
  state := .free
  requestA := none
  requestB := none
  requestIdentify := none
  pointer := .A
  mack := false
  mrej := false
  md := 0
  mdp := false
  mperr := false
  late := false

/-- The part right after a power-on reset with every input pin open (R175, log entry 1): each link is sending its
HELLO with cause POWER_ON (R176, log entry 7). -/
def State.reset : State where
  pending := []
  inReset := false
  rate := .mbit8
  rate1 := true
  rate0 := true
  latchPin := true
  latch := .closed
  latchDebounce := .stopped
  latchHold := false
  linkA := { LinkState.reset with outbound := [.hello .powerOn .closed 0], transmitting := true }
  linkB := { LinkState.reset with outbound := [.hello .powerOn .closed 0], transmitting := true }
  buffers := Vector.replicate 16 Buffer.reset
  waitList := []
  windows := Vector.replicate 8 none
  slots := Vector.replicate 4 Slot.reset
  powerWait := []
  ramping := none
  identQueue := []
  identStore := []
  bus := Bus.reset

end Sys2Proof.Machine
end

