-- ==== Sys2Proof/Machine/Bytes.lean ====
section
/-! DEFINITION. The serial form of a character (R157, R158), byte order and CRC of the frames (R179, R180), and parity on
the module bus (R133). -/

namespace Sys2Proof.Machine

/-- The levels of the character that carries a byte: a start bit at space, the 8 data bits with the least significant bit
first, a stop bit at mark, and no parity bit (R157). -/
def serialOf (b : Byte) : LineLevels := 1#1 ++ b ++ 0#1

/-- What the receiver makes of the levels of ten bit times: nothing without a start bit, since a line at mark is idle
(DEDUCED, log entry 20); a byte; or a character error, where the stop bit is found at space (R157, R158). -/
def receiveCharacter (levels : LineLevels) : Option LineChar :=
  if levels.getLsbD 0 then none
  else if levels.getLsbD 9 then some (.byte (levels.extractLsb' 1 8))
  else some .error

/-- The bit time of a line rate, in ns (R157). -/
def LineRate.bitNs : LineRate → Nat
  | .mbit1 => 1000
  | .mbit2 => 500
  | .mbit4 => 250
  | .mbit8 => 125

/-- The number that a run of big-endian bytes gives (R180). -/
def beNat (bytes : List Byte) : Nat := bytes.foldl (fun n b => 256 * n + b.toNat) 0

/-- The `n` big-endian bytes of a number (R180). -/
def beBytes : Nat → Nat → List Byte
  | 0, _ => []
  | n + 1, v => beBytes n (v / 256) ++ [BitVec.ofNat 8 v]

/-- One shift of the CRC register (R179). -/
def crcShift (r : Half) : Half :=
  if r.msb then (r <<< 1) ^^^ 0x1021#16 else r <<< 1

/-- `n` shifts of the CRC register. -/
def crcShifts : Nat → Half → Half
  | 0, r => r
  | n + 1, r => crcShifts n (crcShift r)

/-- The CRC register after one more byte (R179). -/
def crcByte (r : Half) (b : Byte) : Half := crcShifts 8 (r ^^^ (b.setWidth 16 <<< 8))

/-- The CRC-16 over a run of bytes: the register starts at 0xFFFF (R179). -/
def crc16 (bytes : List Byte) : Half := bytes.foldl crcByte 0xFFFF#16

/-- Whether the number of asserted lines among the low `n` bits is odd. -/
def oddOnes : Nat → Half → Bool
  | 0, _ => false
  | n + 1, v => xor (v.getLsbD n) (oddOnes n v)

/-- Parity is good when the active data lanes and MDP together hold an odd number of asserted lines (R133). -/
def parityGood (dataWidth : Nat) (md : Half) (mdp : Bool) : Bool := xor (oddOnes dataWidth md) mdp

/-- The level of MDP that makes the parity of a write word good (R134). -/
def parityOf (dataWidth : Nat) (md : Half) : Bool := !oddOnes dataWidth md

end Sys2Proof.Machine
end

