-- ==== Sys2Proof/Machine/Memory.lean ====
section
/-! DEFINITION. The contents of a block buffer and of the identity store (R32, R133): cells in one canonical form. -/

namespace Sys2Proof.Machine

/-- The byte at an offset; an unlisted offset reads as 0 (log entry 2). -/
def Memory.read : Memory → Nat → Byte
  | [], _ => 0
  | c :: m, a => if c.1 = a then c.2 else Memory.read m a

/-- The memory with one byte written, in canonical form. -/
def Memory.write : Memory → Nat → Byte → Memory
  | [], a, v => if v = 0 then [] else [(a, v)]
  | c :: m, a, v =>
    if a < c.1 then (if v = 0 then c :: m else (a, v) :: c :: m)
    else if a = c.1 then (if v = 0 then m else (a, v) :: m)
    else c :: Memory.write m a v

/-- The cells of a run of bytes from an offset on. -/
def Memory.cells : Nat → List Byte → Memory
  | _, [] => []
  | a, v :: vs => if v = 0 then Memory.cells (a + 1) vs else (a, v) :: Memory.cells (a + 1) vs

/-- The memory with the bytes written from offset 0 on. -/
def Memory.load (bytes : List Byte) (m : Memory) : Memory :=
  Memory.cells 0 bytes ++ m.filter (fun c => bytes.length ≤ c.1)

/-- The first `n` bytes. -/
def Memory.bytes (m : Memory) (n : Nat) : List Byte := (List.range n).map m.read

/-- The canonical form: offsets strictly rising, and no cell that holds what an unlisted offset reads as. -/
def Memory.wf (m : Memory) : Bool :=
  decide (m.Pairwise (fun c d => c.1 < d.1)) && m.all (fun c => c.2 != 0)

end Sys2Proof.Machine
end

