-- ==== Sys2Proof/Machine/Messages.lean ====
section
/-! DEFINITION. The codes, items and frames that the part sends, byte by byte (R178 to R189). -/

namespace Sys2Proof.Machine

/-! Codes (R182, R186) -/

def linkCode : Link → Nat
  | .A => 1
  | .B => 2

def ownerCode : Option Link → Nat
  | none => 0
  | some l => linkCode l

def latchCode : LatchState → Nat
  | .closed => 0
  | .opened => 1

def rightsCode : Rights → Nat
  | .none => 0
  | .read => 1
  | .readWrite => 2

def slotPhaseCode : SlotPhase → Nat
  | .empty => 0
  | .settling => 1
  | .present => 2
  | .queuedForPower => 3
  | .ramping => 4
  | .identifying => 5
  | .ready => 6
  | .draining => 7
  | .faulted => 8

def faultKindCode : FaultKind → Nat
  | .overcurrent => 1
  | .identBad => 2
  | .identNoResponse => 3
  | .unresponsive => 4

def moduleClassCode : ModuleClass → Nat
  | .readWrite => 1
  | .readOnly => 2

def jobKindCode : JobKind → Nat
  | .read => 1
  | .write => 2
  | .copy => 3
  | .fill => 4

def jobStateCode : JobState → Nat
  | .queued => 1
  | .running => 2
  | .pausing => 3
  | .paused => 4
  | .cancelling => 5

def jobStatusCode : JobStatus → Nat
  | .live s => jobStateCode s
  | .ended => 6

def outcomeCode : JobOutcome → Nat
  | .done => 1
  | .doneWithErrors => 2
  | .failed => 3
  | .cancelled => 4
  | .holdExpired => 5

def listCode : ListId → Nat
  | .primary => 1
  | .destination => 2

def errorCode : ErrorKind → Nat
  | .decodeMiss => 0x01
  | .decodeConflict => 0x02
  | .split => 0x03
  | .protection => 0x04
  | .slotNotReady => 0x05
  | .outOfModule => 0x06
  | .moduleLocked => 0x07
  | .noResponse => 0x08
  | .moduleReject => 0x09
  | .dataCheck => 0x0A
  | .slotGone => 0x0B
  | .slotFault => 0x0C
  | .dataTimeout => 0x0D
  | .dataSequence => 0x0E
  | .dataUnsolicited => 0x0F

def resetCauseCode : ResetCause → Nat
  | .powerOn => 1
  | .partResetA => 2
  | .partResetB => 3
  | .linkRequest => 4
  | .linkBreak => 5

/-- Reply codes (R186). -/
def replyCodeCode : ReplyCode → Nat
  | .ok => 0x00
  | .noSession => 0x01
  | .sessionOpen => 0x02
  | .badFormat => 0x03
  | .unknownRequest => 0x04
  | .badParam => 0x05
  | .queueFull => 0x06
  | .duplicateTag => 0x07
  | .unknownJob => 0x08
  | .notActive => 0x09
  | .notPaused => 0x0A
  | .alreadyPaused => 0x0B
  | .cancelling => 0x0C
  | .ended => 0x0D
  | .ownedByOther => 0x0E
  | .notOwner => 0x0F
  | .slotState => 0x10
  | .slotBusy => 0x11

def boolCode : Bool → Nat
  | false => 0
  | true => 1

/-! Items (R180, R181) -/

/-- The value of the CAPACITY item (R181). -/
def capacityValue : List Byte :=
  beBytes 1 Config.liveMax ++ beBytes 1 Config.historyMax ++ beBytes 1 Config.windowCount ++ beBytes 1 Config.slotCount ++
  beBytes 1 Config.bufferCount ++ beBytes 2 Config.bufferBytes ++ beBytes 1 Config.laneCap ++ beBytes 1 Config.creditMax ++
  beBytes 1 Config.intakeMax ++ beBytes 1 Config.noticePlaces ++ beBytes 2 Config.requestPayloadMax

/-- The key of an item and its value bytes (R181). -/
def Item.keyValue : Item → Nat × List Byte
  | .dataTimeout ms => (0x02, beBytes 2 ms)
  | .holdLimit n => (0x03, beBytes 2 n)
  | .link l => (0x04, beBytes 1 (linkCode l))
  | .latch a => (0x05, beBytes 1 (latchCode a))
  | .capacity => (0x06, capacityValue)
  | .slotSummary i p => (0x07, beBytes 1 i.val ++ beBytes 1 (slotPhaseCode p))
  | .cause c => (0x08, beBytes 1 (resetCauseCode c))
  | .revision => (0x09, beBytes 1 Config.revision)
  | .presence p => (0x0A, beBytes 1 p.toNat)
  | .conditions c => (0x0C, beBytes 4 c.toNat)
  | .mask c => (0x0D, beBytes 4 c.toNat)
  | .overflowCount n => (0x0E, beBytes 1 n)
  | .window i => (0x10, beBytes 1 i)
  | .owner o => (0x11, beBytes 1 (ownerCode o))
  | .base a => (0x12, beBytes 4 a)
  | .sizePower n => (0x13, beBytes 1 n)
  | .slot i => (0x14, beBytes 1 i)
  | .moduleOffset a => (0x15, beBytes 4 a)
  | .rightsA r => (0x16, beBytes 1 (rightsCode r))
  | .rightsB r => (0x17, beBytes 1 (rightsCode r))
  | .waits n => (0x18, beBytes 1 n)
  | .responseLimit us => (0x19, beBytes 2 us)
  | .retries n => (0x1A, beBytes 1 n)
  | .overlap i => (0x1B, beBytes 1 i)
  | .autoBringup on => (0x22, beBytes 1 (boolCode on))
  | .slotState p => (0x23, beBytes 1 (slotPhaseCode p))
  | .faultKind k => (0x24, beBytes 1 (faultKindCode k))
  | .generation g => (0x25, beBytes 2 g.toNat)
  | .wp a => (0x26, beBytes 1 (boolCode a))
  | .noResponseCount n => (0x27, beBytes 1 n)
  | .queuePosition n => (0x28, beBytes 1 n)
  | .moduleClass c => (0x29, beBytes 1 (moduleClassCode c))
  | .capacityCode n => (0x2A, beBytes 1 n)
  | .dataWidth n => (0x2B, beBytes 1 n)
  | .minWaits n => (0x2C, beBytes 1 n)
  | .serial b => (0x2D, b)
  | .model b => (0x2E, b)
  | .jobTag t => (0x40, beBytes 1 t)
  | .kind k => (0x41, beBytes 1 (jobKindCode k))
  | .listPosition n => (0x47, beBytes 1 n)
  | .jobState s => (0x48, beBytes 1 (jobStatusCode s))
  | .pauseCauses h a => (0x49, beBytes 1 (boolCode h + 2 * boolCode a))
  | .totalBlocks n => (0x4A, beBytes 4 n)
  | .nextBlock n => (0x4B, beBytes 4 n)
  | .primaryPosition g b => (0x4C, beBytes 1 g ++ beBytes 2 b)
  | .destPosition g b => (0x4D, beBytes 1 g ++ beBytes 2 b)
  | .blocksCompleted n => (0x4E, beBytes 4 n)
  | .failedSegments n => (0x4F, beBytes 1 n)
  | .credits n => (0x50, beBytes 1 n)
  | .nextExpected n => (0x51, beBytes 2 n)
  | .firstError e =>
    (0x52, beBytes 1 (errorCode e.kind) ++ beBytes 1 (listCode e.list) ++ beBytes 1 e.segment ++ beBytes 2 e.block)
  | .outcome o => (0x53, beBytes 1 (outcomeCode o))
  | .liveEntry t s => (0x54, beBytes 1 t ++ beBytes 1 (jobStateCode s))
  | .historyEntry t o => (0x55, beBytes 1 t ++ beBytes 1 (outcomeCode o))
  | .segmentIndex n => (0x56, beBytes 1 n)
  | .segmentCompleted n => (0x57, beBytes 2 n)
  | .segmentError k b => (0x58, beBytes 1 (errorCode k) ++ beBytes 2 b)

/-- One item on the line: key, length, value (R180). -/
def itemBytes (key : Nat) (value : List Byte) : List Byte :=
  BitVec.ofNat 8 key :: BitVec.ofNat 8 value.length :: value

/-- The bytes of one item the part sends. -/
def Item.bytes (i : Item) : List Byte := itemBytes i.keyValue.1 i.keyValue.2

/-- The bytes of a run of items, back to back. -/
def itemsBytes (items : List Item) : List Byte := items.flatMap Item.bytes

/-! Notices (R187) -/

/-- The notice kind, carried in the tag byte (R187). -/
def Notice.kindCode : Notice → Nat
  | .condition _ => 0x01
  | .jobPaused _ _ _ _ _ => 0x03
  | .jobResumed _ _ _ => 0x04
  | .segmentDone _ _ _ _ => 0x05
  | .jobEnded _ _ _ _ _ => 0x06
  | .overflow _ => 0x07

/-- The items of a notice, in order (R187). -/
def Notice.items : Notice → List Item
  | .condition c => [.conditions c]
  | .jobPaused t h a n c => [.jobTag t, .pauseCauses h a, .nextBlock n, .blocksCompleted c]
  | .jobResumed t n c => [.jobTag t, .nextBlock n, .blocksCompleted c]
  | .segmentDone t i c e =>
    [.jobTag t, .segmentIndex i, .segmentCompleted c] ++ (e.map (fun p => Item.segmentError p.1 p.2)).toList
  | .jobEnded t o c f e =>
    [.jobTag t, .outcome o, .blocksCompleted c, .failedSegments f] ++ (e.map Item.firstError).toList
  | .overflow n => [.overflowCount n]

/-! Frames (R178) -/

/-- A whole frame: sync, kind, tag, payload length, payload, CRC-16 high byte first (R178). -/
def frameBytes (kind tag : Byte) (payload : List Byte) : List Byte :=
  let body := kind :: tag :: beBytes 2 payload.length ++ payload
  Config.sync :: body ++ beBytes 2 (crc16 body).toNat

/-- The frame kinds (R178). -/
def kindREQ : Byte := 0x01
def kindRPY : Byte := 0x02
def kindNTC : Byte := 0x03
def kindDAT : Byte := 0x04
def kindHEL : Byte := 0x05

/-- Kind, tag byte and payload of an outbound entry of link `l` (R186 to R189). -/
def entryFrame (s : State) (l : Link) : Entry → Byte × Byte × List Byte
  | .reply code result items =>
    (kindRPY, code, itemBytes 0x01 (beBytes 1 (replyCodeCode result)) ++ itemsBytes items)
  | .hello cause latch presence =>
    (kindHEL, BitVec.ofNat 8 (resetCauseCode cause),
      itemsBytes [.cause cause, .link l, .revision, .latch latch, .presence presence])
  | .credit tag count => (kindNTC, 0x02, itemsBytes [.jobTag tag, .credits count])
  | .notice n => (kindNTC, BitVec.ofNat 8 n.kindCode, itemsBytes n.items)
  | .data tag sequence size buffer =>
    (kindDAT, BitVec.ofNat 8 tag, beBytes 2 sequence ++ (s.buffers.get buffer).bytes.bytes size)

/-- The link's state, for reading. -/
def State.link (s : State) : Link → LinkState
  | .A => s.linkA
  | .B => s.linkB

/-- The frame that link `l` has on its transmit line, or none: the line is then at mark (R158, R166). -/
def lineFrame (s : State) (l : Link) : Option (List Byte) :=
  match (s.link l).transmitting, (s.link l).outbound with
  | true, e :: _ => let f := entryFrame s l e; some (frameBytes f.1 f.2.1 f.2.2)
  | _, _ => none

end Sys2Proof.Machine
end

