-- ==== Sys2Proof/Machine/Flags.lean ====
section
/-! DEFINITION. What one Link Interface does with its condition set, its outbound queue and its notices (07, 08). -/

namespace Sys2Proof.Machine

/-- The 25 conditions (R142). -/
inductive Condition where
  | inserted (i : SlotId)
  | removed (i : SlotId)
  | ready (i : SlotId)
  | fault (i : SlotId)
  | wpChanged (i : SlotId)
  | latchOpen
  | latchClosed
  | framing
  | intakeOverrun
  | strayData
  deriving DecidableEq, Repr

/-- The bit of a condition in a condition-set word (R183). -/
def Condition.bit : Condition → Nat
  | .inserted i => i.val
  | .removed i => 4 + i.val
  | .ready i => 8 + i.val
  | .fault i => 12 + i.val
  | .wpChanged i => 16 + i.val
  | .latchOpen => 20
  | .latchClosed => 21
  | .framing => 22
  | .intakeOverrun => 23
  | .strayData => 24

/-- The set that holds one condition. -/
def Condition.set (c : Condition) : ConditionSet := BitVec.twoPow 25 c.bit

/-- A request's word names a member outside the 25 conditions (R147, R148, R183). -/
def outsideConditions (w : Word) : Bool := w >>> 25 != 0

/-- The conditions a request's word names. -/
def conditionsOf (w : Word) : ConditionSet := w.setWidth 25

/-! Classes of the outbound queue (R165) -/

def Entry.isReply : Entry → Bool
  | .reply _ _ _ => true
  | .hello _ _ _ => true
  | .credit _ _ => false
  | .notice _ => false
  | .data _ _ _ _ => false

def Entry.isCredit : Entry → Bool
  | .credit _ _ => true
  | .reply _ _ _ => false
  | .hello _ _ _ => false
  | .notice _ => false
  | .data _ _ _ _ => false

def Entry.isNotice : Entry → Bool
  | .notice _ => true
  | .reply _ _ _ => false
  | .hello _ _ _ => false
  | .credit _ _ => false
  | .data _ _ _ _ => false

def Entry.isData : Entry → Bool
  | .data _ _ _ _ => true
  | .reply _ _ _ => false
  | .hello _ _ _ => false
  | .credit _ _ => false
  | .notice _ => false

/-- The buffer a DATA entry refers to (R39). -/
def Entry.buffer? : Entry → Option BufId
  | .data _ _ _ b => some b
  | .reply _ _ _ => none
  | .hello _ _ _ => none
  | .credit _ _ => none
  | .notice _ => none

/-- The OK reply to an RSTP, whose end of transmission may take the part reset (R172). -/
def Entry.isRstpReply : Entry → Bool
  | .reply code result _ => code == 0x13 && result == .ok
  | .hello _ _ _ => false
  | .credit _ _ => false
  | .notice _ => false
  | .data _ _ _ _ => false

/-- Places of one class in use (R165). -/
def LinkState.replies (x : LinkState) : Nat := x.outbound.countP Entry.isReply
def LinkState.creditEntries (x : LinkState) : Nat := x.outbound.countP Entry.isCredit
def LinkState.notices (x : LinkState) : Nat := x.outbound.countP Entry.isNotice
def LinkState.dataEntries (x : LinkState) : Nat := x.outbound.countP Entry.isData

/-- The entry in transmission, as a list of at most one (R166). -/
def LinkState.sending (x : LinkState) : List Entry := x.outbound.take (if x.transmitting then 1 else 0)

/-- The entries whose transmission has not begun, oldest first. -/
def LinkState.waiting (x : LinkState) : List Entry := x.outbound.drop (if x.transmitting then 1 else 0)

/-- An entry joins the tail of the outbound queue (R165). -/
def LinkState.push (e : Entry) (x : LinkState) : LinkState := { x with outbound := x.outbound ++ [e] }

/-- An idle transmitter begins the oldest entry (R166, log entry 7). -/
def LinkState.kick (x : LinkState) : LinkState := { x with transmitting := !x.outbound.isEmpty }

/-! Notice admission (R151) -/

/-- A notice of the notice class, other than OVERFLOW, is admitted, or dropped and counted (R151). -/
def LinkState.offer (n : Notice) (x : LinkState) : LinkState :=
  if x.notices < Config.noticePlaces then x.push (.notice n)
  else { x with overflow := min Config.overflowMax (x.overflow + 1) }

/-- A freed notice place is taken by an OVERFLOW when the count is above 0 (R152). -/
def LinkState.overflowNotice (x : LinkState) : LinkState :=
  if x.overflow = 0 then x else { x.push (.notice (.overflow x.overflow)) with overflow := 0 }

/-! Announcement and raising (R143, R144) -/

/-- The waiting entries with a set merged into the first CONDITION notice among them, if one waits (R144). -/
def mergeCondition (set : ConditionSet) : List Entry → Option (List Entry)
  | [] => none
  | .notice (.condition c) :: es => some (.notice (.condition (c ||| set)) :: es)
  | e :: es => (mergeCondition set es).map (e :: ·)

/-- Announced conditions merge into the waiting CONDITION notice or are offered in a new one (R144). -/
def LinkState.announce (set : ConditionSet) (x : LinkState) : LinkState :=
  match mergeCondition set x.waiting with
  | some es => { x with outbound := x.sending ++ es }
  | none => x.offer (.condition set)

/-- A raise: a clear condition of an OPEN session becomes raised, and is announced if subscribed (R143). -/
def LinkState.raise (c : Condition) (x : LinkState) : LinkState :=
  if x.session = .opened ∧ x.conditions &&& c.set = 0 then
    let y := { x with conditions := x.conditions ||| c.set }
    if x.mask &&& c.set = 0 then y else y.announce c.set
  else x

/-! The credit place (R41) -/

/-- The waiting entries with a count added to the CREDIT of this job among them, if one waits (R41). -/
def mergeCredit (tag count : Nat) : List Entry → Option (List Entry)
  | [] => none
  | .credit t n :: es =>
    if t = tag then some (.credit t (n + count) :: es) else (mergeCredit tag count es).map (.credit t n :: ·)
  | e :: es => (mergeCredit tag count es).map (e :: ·)

/-- New credits of the lane's WRITE job are announced by what the credit place holds (R41). -/
def LinkState.offerCredit (tag count : Nat) (x : LinkState) : LinkState :=
  match mergeCredit tag count x.waiting with
  | some es => { x with outbound := x.sending ++ es }
  | none =>
    if x.creditEntries = 0 then x.push (.credit tag count)
    else { x with lane := { x.lane with pendingCredits := x.lane.pendingCredits + count } }

/-- A CREDIT of the job leaves the queue if its transmission has not begun (R41, R54). -/
def LinkState.removeCredit (tag : Nat) (x : LinkState) : LinkState :=
  { x with outbound := x.sending ++ x.waiting.filter (fun e => match e with
      | .credit t _ => t != tag
      | .reply _ _ _ => true
      | .hello _ _ _ => true
      | .notice _ => true
      | .data _ _ _ _ => true) }

/-- The CREDIT's transmission has ended: pending credits take the place (R41). -/
def LinkState.pendingCredit (tag : Nat) (x : LinkState) : LinkState :=
  if x.lane.pendingCredits = 0 then x
  else { x.push (.credit tag x.lane.pendingCredits) with lane := { x.lane with pendingCredits := 0 } }

/-! Reset values of the condition logic (R155) -/

/-- Condition set, mask and overflow count at open, teardown and reset (R155). -/
def LinkState.clearConditions (x : LinkState) : LinkState := { x with conditions := 0, mask := 0, overflow := 0 }

end Sys2Proof.Machine
end

