-- ==== Sys2Proof/Machine/Ops.lean ====
section
/-! DEFINITION. The named operations over the state: links, jobs, buffers and credits, the arbiter, slots. -/

namespace Sys2Proof.Machine

/-! Links -/

def State.setLink (s : State) (l : Link) (x : LinkState) : State :=
  match l with
  | .A => { s with linkA := x }
  | .B => { s with linkB := x }

/-- One link's state changed by a function of it. -/
def State.onLink (s : State) (l : Link) (f : LinkState → LinkState) : State := s.setLink l (f (s.link l))

/-- Both links' states changed, each by the same function of it. -/
def State.onLinks (s : State) (f : LinkState → LinkState) : State := (s.onLink .A f).onLink .B f

/-- A condition raised in both links (R142). -/
def State.raiseBoth (s : State) (c : Condition) : State := s.onLinks (LinkState.raise c)

/-- The ends of the events of a step: idle transmitters begin (R166, log entry 7). -/
def State.kick (s : State) : State := s.onLinks LinkState.kick

/-- An event of the part: it has no effect while NRST holds the part in reset (R175, log entry 8). -/
def event (s : State) (f : State → State) : State := if s.inReset then s else (f s).kick

/-- A reply to a request enters its link's outbound queue (R164, R186). -/
def State.reply (s : State) (l : Link) (code : Nat) (r : ReplyCode) (items : List Item) : State :=
  s.onLink l (LinkState.push (.reply (BitVec.ofNat 8 code) r items))

/-- A notice is offered to link `l`'s notice admission (R25, R151). -/
def State.offer (s : State) (l : Link) (n : Notice) : State := s.onLink l (LinkState.offer n)

/-- Notices are offered in order (R25). -/
def State.offers (s : State) (l : Link) (ns : List Notice) : State := ns.foldl (fun t n => t.offer l n) s

/-! Active jobs (R5) -/

/-- The job of a link in an active state, if any: the head of its live list. -/
def LinkState.activeJob (x : LinkState) : Option Job :=
  match x.live with
  | [] => none
  | j :: _ => if j.state = .queued then none else some j

/-- The head job of the live list changed by a function of it. -/
def LinkState.onHead (x : LinkState) (f : Job → Job) : LinkState :=
  match x.live with
  | [] => x
  | j :: js => { x with live := f j :: js }

/-- The active job of a link. -/
def State.activeJob (s : State) (l : Link) : Option Job := (s.link l).activeJob

/-- The head job of a link changed by a function of it. -/
def State.onJob (s : State) (l : Link) (f : Job → Job) : State := s.onLink l (fun x => x.onHead f)

/-- The data timer runs while a WRITE job is RUNNING or PAUSING with credits outstanding (R45). -/
def Job.dataTimed (j : Job) : Bool :=
  j.kind = .write && (j.state = .running || j.state = .pausing) && 0 < j.credits

/-- The data timer as R45 leaves it, with the session's data timeout. -/
def Job.retime (timeout : Nat) (j : Job) : Job :=
  { j with dataTimer := if j.dataTimed then .running timeout else .stopped }

/-- The session's data timeout (R168). -/
def LinkState.timeout (x : LinkState) : Nat := x.dataTimeout.getD Config.defaultDataTimeout

/-- The head job changed, its data timer following (R45). -/
def State.onTimedJob (s : State) (l : Link) (f : Job → Job) : State :=
  s.onLink l (fun x => x.onHead (fun j => (f j).retime x.timeout))

/-! Buffers (R32 to R35) -/

/-- The numbers of the buffers, lowest first (log entry 13). -/
def bufferIds : List BufId := List.finRange 16

/-- The lane holds the buffer. -/
def State.holds (s : State) (l : Link) (b : BufId) : Bool :=
  match (s.buffers.get b).holder with
  | .free => false
  | .lane l' _ => l' = l

/-- The number of buffers a lane holds (R32). -/
def State.heldCount (s : State) (l : Link) : Nat := bufferIds.countP (s.holds l)

/-- The lane's use of the buffer, if the lane holds it (R35). -/
def State.useOf (s : State) (l : Link) (b : BufId) : Option BufferUse :=
  match (s.buffers.get b).holder with
  | .free => none
  | .lane l' u => if l' = l then some u else none

/-- The lowest-numbered buffer of a lane whose use meets a test. -/
def State.findUse (s : State) (l : Link) (p : BufferUse → Bool) : Option BufId :=
  bufferIds.find? (fun b => (s.useOf l b).any p)

/-- All buffers of a lane whose use meets a test. -/
def State.allUses (s : State) (l : Link) (p : BufferUse → Bool) : List BufId :=
  bufferIds.filter (fun b => (s.useOf l b).any p)

/-- The lowest-numbered FREE buffer (log entry 13). -/
def State.freeBuffer? (s : State) : Option BufId := bufferIds.find? (fun b => (s.buffers.get b).holder = .free)

def State.setHolder (s : State) (b : BufId) (h : Holder) : State :=
  { s with buffers := s.buffers.set b.val { s.buffers.get b with holder := h } b.isLt }

def State.setBytes (s : State) (b : BufId) (m : Memory) : State :=
  { s with buffers := s.buffers.set b.val { s.buffers.get b with bytes := m } b.isLt }

def BufferUse.isStaged : BufferUse → Bool
  | .staged => true
  | .inTransfer _ _ => false
  | .outbound _ _ => false
  | .reserved => false
  | .filled _ _ => false
  | .loaded _ _ => false
  | .pattern => false

def BufferUse.isInTransfer : BufferUse → Bool
  | .inTransfer _ _ => true
  | .staged => false
  | .outbound _ _ => false
  | .reserved => false
  | .filled _ _ => false
  | .loaded _ _ => false
  | .pattern => false

def BufferUse.isOutbound : BufferUse → Bool
  | .outbound _ _ => true
  | .staged => false
  | .inTransfer _ _ => false
  | .reserved => false
  | .filled _ _ => false
  | .loaded _ _ => false
  | .pattern => false

def BufferUse.isReserved : BufferUse → Bool
  | .reserved => true
  | .staged => false
  | .inTransfer _ _ => false
  | .outbound _ _ => false
  | .filled _ _ => false
  | .loaded _ _ => false
  | .pattern => false

def BufferUse.isLoaded : BufferUse → Bool
  | .loaded _ _ => true
  | .staged => false
  | .inTransfer _ _ => false
  | .outbound _ _ => false
  | .reserved => false
  | .filled _ _ => false
  | .pattern => false

def BufferUse.isPattern : BufferUse → Bool
  | .pattern => true
  | .staged => false
  | .inTransfer _ _ => false
  | .outbound _ _ => false
  | .reserved => false
  | .filled _ _ => false
  | .loaded _ _ => false

/-- A FILLED buffer whose block number meets a test. -/
def BufferUse.isFilledWith (p : Nat → Bool) : BufferUse → Bool
  | .filled _ k => p k
  | .staged => false
  | .inTransfer _ _ => false
  | .outbound _ _ => false
  | .reserved => false
  | .loaded _ _ => false
  | .pattern => false

/-- The number of credits the limits of R40 allow beside the buffers: the least of 4 − credits outstanding and
total blocks − blocks credited. -/
def LinkState.creditRoom (x : LinkState) (j : Job) : Nat :=
  min (Config.creditMax - j.credits) (j.total - x.lane.blocksCredited)

/-- What a RUNNING job needs a buffer for, by its kind (R38, R40, R46, R48). -/
def State.jobNeedsBuffer (s : State) (l : Link) (j : Job) : Bool :=
  match j.kind with
  | .read => j.nextBlock < j.total && (s.findUse l (fun u => u.isStaged || u.isInTransfer)).isNone
  | .copy => (s.findUse l (fun u => u.isStaged || u.isInTransfer || u.isLoaded)).isNone
  | .fill => (s.findUse l BufferUse.isPattern).isNone
  | .write => 0 < (s.link l).creditRoom j

/-- The lane needs a buffer and is below its cap (R33, R34). -/
def State.wantsBuffer (s : State) (l : Link) : Bool :=
  s.heldCount l < Config.laneCap &&
  match s.activeJob l with
  | none => false
  | some j => j.state = .running && s.jobNeedsBuffer l j

/-- The lane's entry leaves the buffer wait list (R34). -/
def State.withdrawWait (s : State) (l : Link) : State := { s with waitList := s.waitList.filter (fun m => m != l) }

/-- The lane joins the tail of the buffer wait list, unless it is already on it (R33). -/
def State.joinWait (s : State) (l : Link) : State :=
  if l ∈ s.waitList then s else { s with waitList := s.waitList ++ [l] }

/-- One credit of the active WRITE job, backed by a buffer just reserved to it, is granted and announced (R40, R41). -/
def State.grantCredit (s : State) (l : Link) : State :=
  match s.activeJob l with
  | none => s
  | some j =>
    let t := s.onTimedJob l (fun j => { j with credits := j.credits + 1 })
    t.onLink l (fun x =>
      ({ x with lane := { x.lane with blocksCredited := x.lane.blocksCredited + 1 } }).offerCredit j.tag 1)

/-- A WRITE lane that may grant no further credit leaves the buffer wait list (R40). -/
def State.dropIdleWait (s : State) (l : Link) : State :=
  match s.activeJob l with
  | none => s
  | some j => if j.kind = .write ∧ (s.link l).creditRoom j = 0 then s.withdrawWait l else s

/-- The bytes of a FILL block: the high byte of the pattern at even offsets, the low byte at odd ones (R48). -/
def patternBytes (p : Half) (n : Nat) : List Byte :=
  (List.range n).map (fun i => if i % 2 = 0 then (p >>> 8).setWidth 8 else p.setWidth 8)

/-- A buffer granted to a lane that needs it takes its use (R38, R40, R46, R48). -/
def State.assign (s : State) (l : Link) (b : BufId) : State :=
  match s.activeJob l with
  | none => s
  | some j =>
    match j.kind with
    | .read => s.setHolder b (.lane l .staged)
    | .copy => s.setHolder b (.lane l .staged)
    | .fill =>
      (s.setHolder b (.lane l .pattern)).setBytes b
        ((s.buffers.get b).bytes.load (patternBytes (j.pattern.getD 0) j.blockSize))
    | .write => (s.setHolder b (.lane l .reserved)).grantCredit l

/-- A FREE buffer is handed to the first lane of the wait list that needs it, or stays FREE (R34). -/
def giveBuffer : List Link → BufId → State → State
  | [], _, s => { s with waitList := [] }
  | l :: rest, b, s =>
    let t := { s with waitList := rest }
    if t.wantsBuffer l then
      let u := t.assign l b
      if u.wantsBuffer l then u.joinWait l else u
    else giveBuffer rest b t

/-- A lane frees a buffer (R34). -/
def State.freeBuf (s : State) (b : BufId) : State := giveBuffer s.waitList b (s.setHolder b .free)

/-- A lane frees several buffers, one after another. -/
def State.freeBufs (s : State) (bs : List BufId) : State := bs.foldl State.freeBuf s

/-- A lane below its cap that needs a buffer asks the pool for one (R33). -/
def State.askBuffer (s : State) (l : Link) : State :=
  match s.freeBuffer? with
  | some b => s.assign l b
  | none => s.joinWait l

/-- An emptied WRITE buffer backs one new credit, or is freed (R44). -/
def State.emptyWriteBuffer (s : State) (l : Link) (b : BufId) : State :=
  match s.activeJob l with
  | none => s.freeBuf b
  | some j =>
    if j.state = .running ∧ 0 < (s.link l).creditRoom j then
      ((s.setHolder b (.lane l .reserved)).grantCredit l).dropIdleWait l
    else s.freeBuf b

/-! The arbiter (R126 to R128) -/

def State.onBus (s : State) (f : Bus → Bus) : State := { s with bus := f s.bus }

def Bus.request (b : Bus) : Link → Option BusRequest
  | .A => b.requestA
  | .B => b.requestB

def Bus.setRequest (b : Bus) (l : Link) (r : Option BusRequest) : Bus :=
  match l with
  | .A => { b with requestA := r }
  | .B => { b with requestB := r }

/-- A lane is granted the bus: its request leaves the arbiter, and the pointer names the other lane (R128). -/
def Bus.grantLane (b : Bus) (l : Link) (r : BusRequest) : Bus :=
  { b.setRequest l none with state := .granted (.lane l r false), pointer := l.other }

/-- The arbiter decides when the bus is FREE and a request waits: the Identify Sequencer first, then by the round-robin
pointer when both lanes wait (R128). -/
def Bus.decide (b : Bus) : Bus :=
  match b.state with
  | .granted _ => b
  | .inFlight _ => b
  | .free =>
    match b.requestIdentify, b.request b.pointer, b.request b.pointer.other with
    | some i, _, _ => { b with state := .granted (.identify i), requestIdentify := none }
    | none, some r, _ => b.grantLane b.pointer r
    | none, none, some r => b.grantLane b.pointer.other r
    | none, none, none => b

/-- A request arrives at the arbiter, which decides at once if the bus is FREE (R128). -/
def Bus.ask (b : Bus) (l : Link) (r : BusRequest) : Bus := (b.setRequest l (some r)).decide

/-- A lane withdraws its request; a grant already made for it is marked, to be returned when it arrives (R127, R129). -/
def Bus.withdraw (b : Bus) (l : Link) : Bus :=
  let c := b.setRequest l none
  match c.state with
  | .granted (.lane m r _) => if m = l then { c with state := .granted (.lane m r true) } else c
  | .granted (.identify _) => c
  | .free => c
  | .inFlight _ => c

/-- A block transfer of the lane is in flight (R57). -/
def Bus.laneInFlight (b : Bus) (l : Link) : Bool :=
  match b.state with
  | .inFlight t => t.requester = .lane l
  | .free => false
  | .granted _ => false

/-- A grant for the lane is outstanding (R127). -/
def Bus.laneGranted (b : Bus) (l : Link) : Bool :=
  match b.state with
  | .granted (.lane m _ _) => m = l
  | .granted (.identify _) => false
  | .free => false
  | .inFlight _ => false

/-- A block transfer to the slot is in flight. -/
def Bus.slotInFlight (b : Bus) (i : SlotId) : Bool :=
  match b.state with
  | .inFlight t => t.slot = i
  | .free => false
  | .granted _ => false

/-- An identity read is in flight. -/
def Bus.identifyInFlight (b : Bus) : Bool :=
  match b.state with
  | .inFlight t => t.requester = .identify
  | .granted _ => false
  | .free => false

/-- A grant for the identity read of the slot is outstanding. -/
def Bus.identifyGranted (b : Bus) (i : SlotId) : Bool :=
  match b.state with
  | .granted (.identify k) => k = i
  | .granted (.lane _ _ _) => false
  | .free => false
  | .inFlight _ => false

/-- The Identify Sequencer requests the bus for the head of its queue while the head's read is neither requested nor
granted nor in flight (R107). A grant still outstanding for an earlier head does not keep it from asking: that grant is
returned when it arrives (R129), and the request for the new head then waits at the arbiter already (log entry 14). -/
def State.identJoin (s : State) : State :=
  match s.identQueue with
  | [] => s
  | i :: _ =>
    if s.bus.requestIdentify.isNone && !s.bus.identifyInFlight && !s.bus.identifyGranted i then
      s.onBus (fun b => { b with requestIdentify := some i })
    else s

/-- The Identify Sequencer makes its request, and the arbiter decides (R107, R128). -/
def State.identStep (s : State) : State := s.identJoin.onBus Bus.decide

/-- The lane withdraws its entry on the buffer wait list and its request at the arbiter (R61, R23). -/
def State.withdrawAll (s : State) (l : Link) : State := (s.withdrawWait l).onBus (fun b => b.withdraw l)

/-! Slots (R100) -/

def State.slot (s : State) (i : SlotId) : Slot := s.slots.get i

def State.onSlot (s : State) (i : SlotId) (f : Slot → Slot) : State :=
  { s with slots := s.slots.set i.val (f (s.slots.get i)) i.isLt }

/-- Slot power is on exactly in RAMPING, IDENTIFYING, READY and DRAINING (R101). -/
def SlotPhase.powered : SlotPhase → Bool
  | .ramping => true
  | .identifying => true
  | .ready => true
  | .draining => true
  | .empty => false
  | .settling => false
  | .present => false
  | .queuedForPower => false
  | .faulted => false

/-- A slot enters a state in which no timer runs, with its identity and fault kind removed: EMPTY or PRESENT, or
QUEUED_FOR_POWER or IDENTIFYING (R101). -/
def Slot.enter (p : SlotPhase) (x : Slot) : Slot :=
  { x with state := p, faultKind := none, identity := none, settleTimer := .stopped, rampTimer := .stopped }

/-- A slot enters FAULTED (R116). -/
def Slot.fail (k : FaultKind) (x : Slot) : Slot := { x.enter .faulted with faultKind := some k }

/-- A slot enters READY with an accepted identity: the count of no-responses is 0 and the generation advances (R109). -/
def Slot.accept (d : Identity) (x : Slot) : Slot :=
  { x.enter .ready with identity := some d, noResponse := 0, generation := x.generation + 1 }

end Sys2Proof.Machine
end

