-- ==== Sys2Proof/Machine/WindowMap.lean ====
section
/-! DEFINITION. The Window Map: ranges, overlaps and the decode of a segment extent (04). -/

namespace Sys2Proof.Machine

/-- The size of a window's range, 2^n bytes (R78). -/
def Window.size (w : Window) : Nat := 2 ^ w.sizePower

/-- The window's range intersects the extent [a, a + len) (R89). -/
def Window.intersects (w : Window) (a len : Nat) : Bool := w.base < a + len && a < w.base + w.size && 0 < len

/-- The window's range contains the extent (R89). -/
def Window.contains (w : Window) (a len : Nat) : Bool := w.base ≤ a && a + len ≤ w.base + w.size

/-- The right the window gives a link's jobs (R80). -/
def Window.rights (w : Window) : Link → Rights
  | .A => w.rightsA
  | .B => w.rightsB

/-- The right is enough for the direction (R80, R91). -/
def Rights.allows : Rights → Direction → Bool
  | .none, _ => false
  | .read, .read => true
  | .read, .write => false
  | .readWrite, _ => true

/-- The enabled windows, in the order of their indices (R78). -/
def State.enabledWindows (s : State) : List Window := s.windows.toList.filterMap id

/-- The indices of the enabled windows other than `i` whose ranges intersect that of `w`, in increasing order
(R84, R87). -/
def State.overlaps (s : State) (i : Nat) (w : Window) : List Nat :=
  (List.range Config.windowCount).filter (fun k => k != i &&
    match s.windows[k]? with
    | some (some v) => v.intersects w.base w.size
    | some none => false
    | none => false)

/-- The module in the slot is locked for writing (R94). -/
def Slot.locked (x : Slot) (d : Identity) : Bool := x.wp || d.moduleClass = .readOnly

/-- The checks of a decode after the first, in order (R91 to R94), and the binding (R95). -/
def Slot.bind (x : Slot) (w : Window) (l : Link) (dir : Direction) (a len : Nat) : Except ErrorKind Binding :=
  if !(w.rights l).allows dir then .error .protection
  else if x.state ≠ .ready then .error .slotNotReady
  else match x.identity with
    | none => .error .slotNotReady
    | some d =>
      let m := w.offset + (a - w.base)
      if 2 ^ d.capacityCode < m + len then .error .outOfModule
      else if dir = .write ∧ x.locked d then .error .moduleLocked
      else .ok ⟨w.slot, m, max w.waits d.minWaits, w.limit, w.retries, x.generation⟩

/-- The decode of a segment's whole extent (R88 to R95). -/
def State.decode (s : State) (l : Link) (dir : Direction) (a len : Nat) : Except ErrorKind Binding :=
  match s.enabledWindows.filter (fun w => w.intersects a len) with
  | [] => .error .decodeMiss
  | [w] => if w.contains a len then (s.slot w.slot).bind w l dir a len else .error .split
  | _ :: _ :: _ => .error .decodeConflict

/-- Every window of a link becomes free (R97). -/
def State.freeWindows (s : State) (l : Link) : State :=
  { s with windows := Vector.ofFn (fun i => match s.windows.get i with
      | none => none
      | some w => if w.owner = l then none else some w) }

end Sys2Proof.Machine
end

