-- ==== Sys2Proof/Machine/Lanes.lean ====
section
/-! DEFINITION. The Job Scheduler and its lanes: positions, segment start, block start, the error policy, the end of a
job, pause and resume, the taking of reports, and what a lane does on its own after an event (01, 02, 03). -/

namespace Sys2Proof.Machine

/-! Positions (R13) -/

/-- The position that stands `n` blocks after a block of the first segment given, and the segments left on the way,
each with its index and its blocks completed. -/
def advanceFrom : List Segment → Nat → Nat → Nat → Nat → Position × List (Nat × Nat)
  | [], seg, _, _, _ => (⟨seg, 0, 0⟩, [])
  | g :: gs, seg, block, done, n =>
    if n < g.blocks - block then (⟨seg, block + n, done⟩, [])
    else
      let r := advanceFrom gs (seg + 1) 0 0 (n - (g.blocks - block))
      (r.1, (seg, done) :: r.2)

/-- A list's position moved on by `n` blocks, and the segments left (R13, R20). -/
def Position.advance (segs : List Segment) (p : Position) (n : Nat) : Position × List (Nat × Nat) :=
  advanceFrom (segs.drop p.segment) p.segment p.block p.done n

/-- The segment and block index of a job block number in a list (R13). -/
def locateBlock (segs : List Segment) (k : Nat) : Nat × Nat :=
  let p := (Position.advance segs ⟨0, 0, 0⟩ k).1
  (p.segment, p.block)

/-- The number of blocks of a list (R1). -/
def totalBlocks (segs : List Segment) : Nat := (segs.map Segment.blocks).sum

def Job.segments (j : Job) : ListId → List Segment
  | .primary => j.primary
  | .destination => j.destination

def Job.position (j : Job) : ListId → Position
  | .primary => j.posPrimary
  | .destination => j.posDestination

def Job.binding (j : Job) : ListId → Option Binding
  | .primary => j.bindPrimary
  | .destination => j.bindDestination

def Job.setBinding (j : Job) (i : ListId) (b : Option Binding) : Job :=
  match i with
  | .primary => { j with bindPrimary := b }
  | .destination => { j with bindDestination := b }

/-- The direction in which a list of a job is accessed (R1). -/
def JobKind.direction : JobKind → ListId → Direction
  | .read, _ => .read
  | .write, _ => .write
  | .fill, _ => .write
  | .copy, .primary => .read
  | .copy, .destination => .write

/-- The list a transfer of the job moves a block of: the destination for the write of a COPY (R47). -/
def JobKind.listOf : JobKind → Direction → ListId
  | .read, _ => .primary
  | .write, _ => .primary
  | .fill, _ => .primary
  | .copy, .read => .primary
  | .copy, .write => .destination

/-- The segments a SEGMENT_DONE refers to: those of the destination list for a COPY (R27). -/
def JobKind.noticeList : JobKind → ListId
  | .copy => .destination
  | .read => .primary
  | .write => .primary
  | .fill => .primary

/-- The job's position moved on by `n` blocks in both lists: the bindings of lists whose segment is left are removed
(R13, R16, R20). -/
def Job.advance (j : Job) (n : Nat) : Job :=
  let p := j.posPrimary.advance j.primary n
  let d := j.posDestination.advance j.destination n
  { j with
    nextBlock := j.nextBlock + n
    posPrimary := p.1
    posDestination := if j.kind = .copy then d.1 else j.posDestination
    bindPrimary := if p.2.isEmpty then j.bindPrimary else none
    bindDestination := if d.2.isEmpty then j.bindDestination else none }

/-- The segments that SEGMENT_DONE refers to and that a move by `n` blocks leaves (R27). -/
def Job.segmentsLeft (j : Job) (n : Nat) : List (Nat × Nat) :=
  ((j.position j.kind.noticeList).advance (j.segments j.kind.noticeList) n).2

/-- SEGMENT_DONE notices of segments that ended without an error of their own (R27, R29). -/
def Job.doneNotices (j : Job) (left : List (Nat × Nat)) : List Notice :=
  if j.segmentNotices then left.map (fun p => Notice.segmentDone j.tag p.1 p.2 none) else []

/-- The block at the position is counted as completed, in the job and in the current segment of each list (R14). -/
def Job.countBlock (j : Job) : Job :=
  { j with
    completed := j.completed + 1
    posPrimary := { j.posPrimary with done := j.posPrimary.done + 1 }
    posDestination :=
      if j.kind = .copy then { j.posDestination with done := j.posDestination.done + 1 } else j.posDestination }

/-- An error becomes the first error if the job has none (R19). -/
def Job.noteError (j : Job) (e : ErrorKind) (i : ListId) (seg block : Nat) : Job :=
  match j.firstError with
  | some _ => j
  | none => { j with firstError := some ⟨e, i, seg, block⟩ }

/-! The end of a job (R23) -/

/-- The history with an entry added at its newest end, the oldest evicted if it held 8 (R7). -/
def addHistory (h : List HistoryEntry) (e : HistoryEntry) : List HistoryEntry :=
  (h ++ [e]).drop ((h.length + 1) - Config.historyMax)

/-- The history entry of a job that ends (R7, R24). -/
def Job.entry (j : Job) (o : JobOutcome) : HistoryEntry := ⟨j.tag, j.kind, o, j.completed, j.failed, j.firstError⟩

/-- The JOB_ENDED notice of a job that ends (R28). -/
def Job.endedNotice (j : Job) (o : JobOutcome) : Notice := .jobEnded j.tag o j.completed j.failed j.firstError

/-- The buffers that a lane frees when its job ends or leaves STOPPING: all but OUTBOUND ones, and, while a transfer of
the job is in flight, all but the IN_TRANSFER one (R54, R12). -/
def BufferUse.freedAtEnd (inFlight : Bool) (u : BufferUse) : Bool := !u.isOutbound && !(inFlight && u.isInTransfer)

/-- The active job of a link ends with an outcome (R23). A SEGMENT_DONE of the same event has been offered before. -/
def State.endJob (s : State) (l : Link) (o : JobOutcome) : State :=
  match s.activeJob l with
  | none => s
  | some j =>
    let inFlight := s.bus.laneInFlight l
    let t := (s.withdrawAll l).onLink l (fun x =>
      let y := ({ x with live := x.live.tail, history := addHistory x.history (j.entry o) }).offer (j.endedNotice o)
      let z := if j.kind = .write then y.removeCredit j.tag else y
      { z with lane := ⟨if inFlight then .stopping else .idle, 0, 0⟩ })
    t.freeBufs (t.allUses l (BufferUse.freedAtEnd inFlight))

/-! Segment errors (R18 to R20) and job-fatal errors (R21) -/

/-- A COPY buffer that was LOADED is STAGED again, its data discarded (R47, R53). -/
def State.unloadCopy (s : State) (l : Link) : State :=
  match s.findUse l BufferUse.isLoaded with
  | none => s
  | some b => s.setHolder b (.lane l .staged)

/-- The buffers after an abandonment that leaves the job live: a COPY's buffer is STAGED, and FILLED buffers of a WRITE
below the new position are emptied (R53), the lowest-numbered first (log entry 13). -/
def State.discardSkipped (s : State) (l : Link) (j : Job) : State :=
  match j.kind with
  | .read => s
  | .fill => s
  | .copy => s.unloadCopy l
  | .write =>
    (s.allUses l (BufferUse.isFilledWith (fun k => decide (k < j.nextBlock)))).foldl (fun t b => t.emptyWriteBuffer l b) s

/-- The job after the abandonment of the segment at the position of list `i` by the error `e` (R19 steps 1 to 4, R20). -/
def Job.abandon (j : Job) (i : ListId) (e : ErrorKind) (skip : Nat) : Job :=
  let p := j.position i
  ((({ j with failed := j.failed + 1 }).noteError e i p.segment p.block).setBinding i none).advance skip

/-- The notices of an abandonment (R19 step 5, R20, R27, R29). -/
def Job.abandonNotices (j : Job) (i : ListId) (e : ErrorKind) (skip : Nat) : List Notice :=
  if i = j.kind.noticeList then
    let p := j.position i
    if j.segmentNotices then [.segmentDone j.tag p.segment p.done (some (e, p.block))] else []
  else j.doneNotices (j.segmentsLeft skip)

/-- The blocks of the current segment of a list, from its current block to its end (R19 step 2). -/
def Job.restOfSegment (j : Job) (i : ListId) : Nat :=
  match (j.segments i)[(j.position i).segment]? with
  | none => 0
  | some g => g.blocks - (j.position i).block

/-- A segment error with STOP_ON_ERROR clear: the segment is abandoned (R19, R20). For a WRITE neither R19 nor R53 says
whether SEGMENT_DONE is offered before or after the skipped FILLED buffers are emptied, and the credits announced that they
back: SEGMENT_DONE is first by the model's choice (log entry 14). -/
def State.abandonSegment (s : State) (l : Link) (j : Job) (i : ListId) (e : ErrorKind) : State :=
  let skip := j.restOfSegment i
  let k := j.abandon i e skip
  let t := (s.onJob l (fun _ => k)).offers l (j.abandonNotices i e skip)
  if k.total ≤ k.nextBlock then t.endJob l .doneWithErrors else t.discardSkipped l k

/-- A segment error of list `i` of the active job, taken by its error policy (R18). -/
def State.segmentError (s : State) (l : Link) (i : ListId) (e : ErrorKind) : State :=
  match s.activeJob l with
  | none => s
  | some j =>
    if j.stopOnError then
      let p := j.position i
      (s.onJob l (fun j => { j with failed := 1, firstError := some ⟨e, i, p.segment, p.block⟩ })).endJob l .failed
    else s.abandonSegment l j i e

/-- A job-fatal error of the active WRITE job (R21). -/
def State.fatalError (s : State) (l : Link) (e : ErrorKind) : State :=
  match s.activeJob l with
  | none => s
  | some j =>
    let p := locateBlock j.primary j.nextExpected
    (s.onJob l (fun j => j.noteError e .primary p.1 p.2)).endJob l .failed

/-! Completion (R14, R22) -/

/-- The block at the position is completed: counts, position, SEGMENT_DONE notices (R14, R27). -/
def State.completeBlock (s : State) (l : Link) (j : Job) : State :=
  let k := j.countBlock
  (s.onJob l (fun _ => k.advance 1)).offers l (k.doneNotices (k.segmentsLeft 1))

/-- A job whose position has passed its last block ends DONE, or DONE_WITH_ERRORS with a segment abandoned; otherwise
the lane goes on (R22). -/
def State.endIfPast (s : State) (l : Link) (go : State → State) : State :=
  match s.activeJob l with
  | none => s
  | some j =>
    if j.total ≤ j.nextBlock then s.endJob l (if j.failed = 0 then .done else .doneWithErrors) else go s

/-! Pause and resume (R61, R62) -/

/-- The hold timer as it starts: with the session's hold limit, unless that is 0 (R70). -/
def holdStart (limit : Option Nat) : Timer :=
  match limit with
  | none => .stopped
  | some 0 => .stopped
  | some (n + 1) => .running (n + 1)

/-- The active job enters PAUSED (R61, R72). -/
def State.enterPaused (s : State) (l : Link) : State :=
  match s.activeJob l with
  | none => s
  | some j =>
    let hold := if j.causeHost then holdStart (s.link l).holdLimit else .stopped
    ((s.withdrawAll l).onTimedJob l (fun j => { j with state := .paused, holdTimer := hold })).offer l
      (.jobPaused j.tag j.causeHost j.causeLatch j.nextBlock j.completed)

/-- A RUNNING job that has gained a cause enters PAUSED at a block boundary, and PAUSING otherwise (R58, R64, R74). -/
def State.pauseRunning (s : State) (l : Link) : State :=
  if s.bus.laneInFlight l then
    (s.withdrawWait l).onTimedJob l (fun j => { j with state := .pausing })
  else s.enterPaused l

/-- A PAUSING or PAUSED job that has lost its last cause goes to RUNNING (R62). -/
def State.resumeJob (s : State) (l : Link) : State :=
  match s.activeJob l with
  | none => s
  | some j =>
    let t := s.onTimedJob l (fun j => { j with state := .running, holdTimer := .stopped })
    if j.state = .paused then t.offer l (.jobResumed j.tag j.nextBlock j.completed) else t

/-! Reports (R38, R44, R47, R49, R59, R60, R12) -/

/-- What the Module Bus Controller reports to a lane: success, or a block error (R137, R139). -/
inductive Report where
  | success
  | error (e : ErrorKind)
  deriving DecidableEq, Repr

/-- The buffer of the lane's transfer goes to a new use. -/
def State.useTransfer (s : State) (l : Link) (u : BufferUse) : State :=
  match s.findUse l BufferUse.isInTransfer with
  | none => s
  | some b => s.setHolder b (.lane l u)

/-- A read block becomes OUTBOUND and its DATA entry joins the outbound queue (R38). -/
def State.queueData (s : State) (l : Link) (j : Job) : State :=
  match s.findUse l BufferUse.isInTransfer with
  | none => s
  | some b =>
    (s.setHolder b (.lane l (.outbound j.tag j.nextBlock))).onLink l
      (LinkState.push (.data j.tag j.nextBlock j.blockSize b))

/-- The lane empties the buffer of its transfer (R44). -/
def State.emptyTransfer (s : State) (l : Link) : State :=
  match s.findUse l BufferUse.isInTransfer with
  | none => s
  | some b => s.emptyWriteBuffer l b

/-- The report of a RUNNING or PAUSING job's transfer, by the job's kind (R38, R44, R47, R49). For a WRITE, R44 names the
emptying of the buffer behind the completion of its block and ahead of the error policy, and that order is taken: the CREDIT
of the emptied buffer follows the SEGMENT_DONE of a completed block and precedes that of a failed one (log entry 14). -/
def State.applyReport (s : State) (l : Link) (j : Job) (dir : Direction) : Report → State
  | .success =>
    match j.kind with
    | .read => ((s.queueData l j).completeBlock l j).endIfPast l id
    | .write => (s.completeBlock l j).endIfPast l (fun t => t.emptyTransfer l)
    | .fill => (s.completeBlock l j).endIfPast l id
    | .copy =>
      match dir with
      | .read => s.useTransfer l (.loaded j.tag j.nextBlock)
      | .write => ((s.useTransfer l .staged).completeBlock l j).endIfPast l id
  | .error e =>
    match j.kind with
    | .read => (s.useTransfer l .staged).segmentError l .primary e
    | .write => (s.emptyTransfer l).segmentError l .primary e
    | .fill => s.segmentError l .primary e
    | .copy => (s.useTransfer l .staged).segmentError l (JobKind.listOf .copy dir) e

/-- The report of a CANCELLING job's transfer: its effect before the job ends CANCELLED (R60). -/
def State.applyCancelReport (s : State) (l : Link) (j : Job) (dir : Direction) : Report → State
  | .success =>
    match j.kind with
    | .read => (s.queueData l j).onJob l (fun j => j.countBlock.advance 1)
    | .write => s.onJob l (fun j => j.countBlock.advance 1)
    | .fill => s.onJob l (fun j => j.countBlock.advance 1)
    | .copy =>
      match dir with
      | .read => s.useTransfer l (.loaded j.tag j.nextBlock)
      | .write => s.onJob l (fun j => j.countBlock.advance 1)
  | .error e =>
    let i := j.kind.listOf dir
    s.onJob l (fun j => j.noteError e i (j.position i).segment (j.position i).block)

/-- A job that is still PAUSING after its report enters PAUSED (R59). -/
def State.settlePausing (s : State) (l : Link) : State :=
  match s.activeJob l with
  | none => s
  | some j => if j.state = .pausing then s.enterPaused l else s

/-- A STOPPING lane discards the report, frees the ended job's buffers and goes to IDLE (R12). -/
def State.stoppingReport (s : State) (l : Link) : State :=
  let t := s.onLink l (fun x => { x with lane := { x.lane with state := .idle } })
  t.freeBufs (t.allUses l (BufferUse.freedAtEnd false))

/-- The lane takes the report of its transfer, which is no longer in flight (R137 step 4). -/
def State.takeReport (s : State) (l : Link) (dir : Direction) (r : Report) : State :=
  match (s.link l).lane.state, s.activeJob l with
  | .stopping, _ => s.stoppingReport l
  | .busy, some j =>
    if j.state = .cancelling then (s.applyCancelReport l j dir r).endJob l .cancelled
    else (s.applyReport l j dir r).settlePausing l
  | .busy, none => s
  | .idle, _ => s

/-! What a lane does on its own (R11, R33, R37) -/

/-- The start check succeeds: the head job becomes RUNNING and the lane BUSY (R11). -/
def State.startJob (s : State) (l : Link) : State :=
  s.onLink l (fun x => { x.onHead (fun j => { j with state := .running }) with lane := ⟨.busy, 0, 0⟩ })

/-- The block-start check of a slot record against a binding (R17). -/
def Slot.blockCheck (x : Slot) (b : Binding) : Option ErrorKind :=
  if x.generation ≠ b.generation then some .slotGone
  else if x.state ≠ .ready then some .slotNotReady
  else none

/-- The list whose block the lane would start next, when the block's data is ready (R37). -/
def State.readyList (s : State) (l : Link) (j : Job) : Option ListId :=
  match j.kind with
  | .read => if (s.findUse l BufferUse.isStaged).isSome then some .primary else none
  | .write => if (s.findUse l (BufferUse.isFilledWith (fun k => k == j.nextBlock))).isSome then some .primary else none
  | .fill => if (s.findUse l BufferUse.isPattern).isSome then some .primary else none
  | .copy =>
    if (s.findUse l BufferUse.isStaged).isSome then some .primary
    else if (s.findUse l BufferUse.isLoaded).isSome then some .destination
    else none

/-- The lane's request for the block at the position of a bound list (R37 step 3, R16). -/
def Job.busRequest (j : Job) (i : ListId) (b : Binding) : BusRequest where
  slot := b.slot
  address := b.address + (j.position i).block * j.blockSize
  direction := j.kind.direction i
  waits := b.waits
  limit := b.limit
  retries := b.retries
  blockSize := j.blockSize

/-- Block start against a binding: a request to the arbiter, or a segment error (R37 steps 2 and 3). -/
def State.startBlock (s : State) (l : Link) (j : Job) (i : ListId) (b : Binding) : State :=
  match (s.slot b.slot).blockCheck b with
  | some e => s.segmentError l i e
  | none => s.onBus (fun bus => bus.ask l (j.busRequest i b))

/-- The lane starts the block at the position of a list, with segment start where the list holds no binding
(R37 step 1, R15). -/
def State.startTransfer (s : State) (l : Link) (j : Job) (i : ListId) : State :=
  match j.binding i with
  | some b => s.startBlock l j i b
  | none =>
    match (j.segments i)[(j.position i).segment]? with
    | none => s
    | some g =>
      match s.decode l (j.kind.direction i) g.address (g.blocks * j.blockSize) with
      | .error e => s.segmentError l i e
      | .ok b => (s.onJob l (fun j => j.setBinding i (some b))).startBlock l j i b

/-- The lane has neither a transfer in flight, nor a request at the arbiter, nor a grant to answer (R37, R127). While a
grant that it has withdrawn is outstanding, R127 bars a new request alone; that the segment start and the block-start check
before the request wait for the return of that grant too is the model's choice (log entry 14). -/
def State.laneFree (s : State) (l : Link) : Bool :=
  !s.bus.laneInFlight l && (s.bus.request l).isNone && !s.bus.laneGranted l

/-- The start check of a lane (R11). -/
def State.startCheck (s : State) (l : Link) : Bool :=
  (s.link l).lane.state = .idle && !s.latchHold &&
  match (s.link l).live with
  | [] => false
  | j :: _ => j.state = .queued

/-- One thing that the lane does on its own, if there is one: it starts its head job, asks for a buffer, or starts a
block (R11, R33, R37). Where one event lets it do both, it asks for its buffers and grants its credits before it starts
the block at the position: R43 and R44 give no order of the two, and the choice is the model's (log entry 14). A segment
start that fails then queues its SEGMENT_DONE behind the CREDIT. -/
def State.laneStep (s : State) (l : Link) : Option State :=
  if s.startCheck l then some (s.startJob l)
  else
    match (s.link l).lane.state, s.activeJob l with
    | .busy, some j =>
      if j.state ≠ .running then none
      else if s.wantsBuffer l && l ∉ s.waitList then some (s.askBuffer l)
      else if s.laneFree l && decide (j.nextBlock < j.total) then (s.readyList l j).map (s.startTransfer l j)
      else none
    | .busy, none => none
    | .idle, _ => none
    | .stopping, _ => none

/-- The lanes go on until neither has anything to do; the lane of `l` is served first (log entries 14 and 17). -/
def settleFrom (l : Link) : Nat → State → State
  | 0, s => s
  | n + 1, s =>
    match s.laneStep l with
    | some t => settleFrom l n t
    | none =>
      match s.laneStep l.other with
      | some t => settleFrom l n t
      | none => s

/-- More steps than the lanes can take in one event: at most 8 jobs on each of two lanes, each with at most one start,
5 buffers, 32 abandonments and 2 requests (log entry 17). -/
def settleFuel : Nat := 1000

/-- What the lanes do on their own after an event at the lane of `l`, which is served first (log entry 14). -/
def State.settle (s : State) (l : Link) : State := settleFrom l settleFuel s

end Sys2Proof.Machine
end

