-- ==== Sys2Proof/Machine/Transfers.lean ====
section
/-! DEFINITION. The Module Bus Controller: grants, word cycles, attempts, the end and the abandonment of a block
transfer; and the Identify Sequencer's report (06, 05). -/

namespace Sys2Proof.Machine

/-- How a block transfer ends (R135). -/
inductive TransferOutcome where
  | success
  | noResponse
  | moduleReject
  | dataCheck
  deriving DecidableEq, Repr

/-- The report a lane takes of an outcome (R137). -/
def TransferOutcome.report : TransferOutcome → Report
  | .success => .success
  | .noResponse => .error .noResponse
  | .moduleReject => .error .moduleReject
  | .dataCheck => .error .dataCheck

/-! Word cycles (R131) -/

/-- The wait time of a word, in ns (R131 step 3). -/
def Transfer.waitNs (t : Transfer) : Nat := 40 + t.waits * 40

/-- The start of a word: its watchdog starts, and MSTB is asserted at once unless MACK or MREJ is still asserted
(R131 steps 1 and 2, R132). -/
def Transfer.beginWord (b : Bus) (t : Transfer) : Transfer :=
  { t with
    phase := if b.mack || b.mrej then .release else .waitTime t.waitNs
    watchdog := .running t.limit }

/-- The start of an attempt at word 0 (R130, R135). -/
def Transfer.beginAttempt (b : Bus) (t : Transfer) : Transfer := ({ t with wordIndex := 0 }).beginWord b

def State.setBusState (s : State) (x : BusState) : State := s.onBus (fun b => { b with state := x })

/-- A transfer goes on as the transfer in flight. -/
def State.goOn (s : State) (t : Transfer) : State := s.setBusState (.inFlight t)

/-- The offset in the block of the first byte of the word (R36, R130). -/
def Transfer.offset (t : Transfer) : Nat := t.wordIndex * (t.dataWidth / 8)

/-- The bytes of a read word, in module address order (R36, R133). -/
def wordBytes (dataWidth : Nat) (md : Half) : List Byte :=
  if dataWidth = 16 then [(md >>> 8).setWidth 8, md.setWidth 8] else [md.setWidth 8]

/-- Bytes written one after another from an offset on. -/
def Memory.writes (m : Memory) (a : Nat) : List Byte → Memory
  | [] => m
  | v :: vs => (m.write a v).writes (a + 1) vs

/-- A read word is stored: in the requester's buffer, or in the Identify Sequencer's store (R133). -/
def State.storeWord (s : State) (t : Transfer) : State :=
  let bytes := wordBytes t.dataWidth s.bus.md
  match t.requester, t.buffer with
  | .identify, _ => { s with identStore := s.identStore.writes t.offset bytes }
  | .lane _, some b => s.setBytes b ((s.buffers.get b).bytes.writes t.offset bytes)
  | .lane _, none => s

/-! The identity record (R109, R190) -/

def moduleClassOf (n : Nat) : Option ModuleClass :=
  if n = 1 then some .readWrite else if n = 2 then some .readOnly else none

/-- The identity a 32-byte record gives, or none if a check fails (R109, R190). -/
def parseIdentity (m : Memory) : Option Identity :=
  let b := fun i => (m.read i).toNat
  match moduleClassOf (b 3) with
  | none => none
  | some c =>
    if b 0 = 0xB7 ∧ b 1 = 0x3C ∧ b 2 = 1 ∧ 12 ≤ b 4 ∧ b 4 ≤ 28 ∧ (b 5 = 8 ∨ b 5 = 16) ∧ b 6 ≤ 7 ∧
        ((List.range Config.identBytes).map b).sum % 256 = 0 then
      some ⟨c, b 4, b 5, b 6, (List.range 8).map (fun i => m.read (7 + i)), (List.range 16).map (fun i => m.read (15 + i))⟩
    else none

/-- The Slot Manager faults a slot, and FAULT[s] is raised in both links (R116). -/
def State.faultSlot (s : State) (i : SlotId) (k : FaultKind) : State :=
  (s.onSlot i (Slot.fail k)).raiseBoth (.fault i)

/-- The Identify Sequencer takes the report of an identity read: READY or FAULTED, and the slot leaves the queue (R109). -/
def State.identReport (s : State) (i : SlotId) (o : TransferOutcome) : State :=
  let t := { s with identQueue := s.identQueue.filter (fun k => k != i) }
  match o with
  | .noResponse => t.faultSlot i .identNoResponse
  | .moduleReject => t.faultSlot i .identBad
  | .dataCheck => t.faultSlot i .identBad
  | .success =>
    match parseIdentity s.identStore with
    | none => t.faultSlot i .identBad
    | some d => (t.onSlot i (Slot.accept d)).raiseBoth (.ready i)

/-! The end of a transfer (R135 to R138) -/

/-- The consecutive no-response count after a job block transfer (R136). -/
def TransferOutcome.count (o : TransferOutcome) (n : Nat) : Nat :=
  match o with
  | .success => 0
  | .noResponse => n + 1
  | .moduleReject => n
  | .dataCheck => n

/-- The Slot Manager takes the end of a job block transfer: the count, the fault UNRESPONSIVE, the end of DRAINING
(R136, R137 steps 2 and 3, R115, R118). -/
def State.slotEnd (s : State) (i : SlotId) (o : TransferOutcome) : State :=
  let n := o.count (s.slot i).noResponse
  let t := s.onSlot i (fun x => { x with noResponse := n })
  let live := (s.slot i).state = .ready ∨ (s.slot i).state = .draining
  if o = .noResponse ∧ n = Config.noResponseMax ∧ live then t.faultSlot i .unresponsive
  else if (s.slot i).state = .draining then t.onSlot i (Slot.enter .present)
  else t

/-- The transfer in flight ends with an outcome, which is handed on before the arbiter decides (R137, R138). -/
def State.endTransfer (s : State) (t : Transfer) (o : TransferOutcome) : State :=
  let u := s.setBusState .free
  match t.requester with
  | .lane l => (((u.slotEnd t.slot o).takeReport l t.direction o.report).onBus Bus.decide).settle l
  | .identify => (u.identReport t.slot o).identStep

/-- An attempt has ended with a fault that a retry may mend: a new attempt, or the end of the transfer (R135). -/
def State.retryOrEnd (s : State) (t : Transfer) (o : TransferOutcome) : State :=
  match t.retriesLeft with
  | 0 => s.endTransfer t o
  | n + 1 => s.goOn (({ t with retriesLeft := n }).beginAttempt s.bus)

/-- A word has been acknowledged: the next word starts, or the transfer ends with success (R131, R135). -/
def State.nextWord (s : State) (t : Transfer) : State :=
  if t.wordIndex + 1 < t.wordCount then s.goOn (({ t with wordIndex := t.wordIndex + 1 }).beginWord s.bus)
  else s.endTransfer t .success

/-- The response of a word is taken, with the levels the module drives (R131 step 4, R133, R134). -/
def State.takeResponse (s : State) (t : Transfer) : State :=
  if s.bus.mrej then s.endTransfer t .moduleReject
  else
    match t.direction with
    | .read =>
      if parityGood t.dataWidth s.bus.md s.bus.mdp then (s.storeWord t).nextWord t else s.retryOrEnd t .dataCheck
    | .write => if s.bus.mperr then s.retryOrEnd t .dataCheck else s.nextWord t

/-! Grants (R129, R37 step 4) -/

/-- The identity read of a slot (R108, R130). -/
def identTransfer (i : SlotId) : Transfer where
  requester := .identify
  slot := i
  direction := .read
  dataWidth := 8
  address := 0
  wordCount := Config.identBytes
  waits := Config.identWaits
  limit := Config.identLimit
  retriesLeft := Config.identRetries
  wordIndex := 0
  buffer := none
  phase := .release
  watchdog := .stopped

/-- The data width of the module in a slot; a READY slot holds an identity (R92, log entry 23). -/
def Slot.dataWidth (x : Slot) : Nat :=
  match x.identity with
  | none => 8
  | some d => d.dataWidth

/-- The transfer of a lane's request (R130). -/
def BusRequest.transfer (r : BusRequest) (l : Link) (dataWidth : Nat) (b : Option BufId) : Transfer where
  requester := .lane l
  slot := r.slot
  direction := r.direction
  dataWidth := dataWidth
  address := r.address
  wordCount := r.blockSize / (dataWidth / 8)
  waits := r.waits
  limit := r.limit
  retriesLeft := r.retries
  wordIndex := 0
  buffer := b
  phase := .release
  watchdog := .stopped

/-- The buffer that the transfer of a block uses (R37): the one whose readiness let the lane ask. -/
def State.transferBuffer (s : State) (l : Link) (j : Job) (i : ListId) : Option BufId :=
  match j.kind, i with
  | .read, _ => s.findUse l BufferUse.isStaged
  | .write, _ => s.findUse l (BufferUse.isFilledWith (fun k => k == j.nextBlock))
  | .fill, _ => s.findUse l BufferUse.isPattern
  | .copy, .primary => s.findUse l BufferUse.isStaged
  | .copy, .destination => s.findUse l BufferUse.isLoaded

/-- The requester returns the grant unused: no word cycle, and the arbiter decides again (R129). -/
def State.returnGrant (s : State) : State := (s.setBusState .free).onBus Bus.decide

/-- The lane takes the grant: its buffer becomes IN_TRANSFER, except a PATTERN buffer, and the first attempt begins
(R37 step 4, R130). -/
def State.beginTransfer (s : State) (l : Link) (j : Job) (r : BusRequest) : State :=
  let b := s.transferBuffer l j (j.kind.listOf r.direction)
  let t : State :=
    match b with
    | none => s
    | some k => if j.kind = JobKind.fill then s else s.setHolder k (.lane l (.inTransfer j.tag j.nextBlock))
  t.goOn ((r.transfer l (s.slot r.slot).dataWidth b).beginAttempt s.bus)

/-- A grant reaches a lane, which reads the record of the slot that the request names (R129, R37 step 4). -/
def State.laneGrant (s : State) (l : Link) (r : BusRequest) (withdrawn : Bool) : State :=
  match withdrawn, s.activeJob l with
  | false, some j =>
    let i := j.kind.listOf r.direction
    match j.state, j.binding i with
    | .running, some b =>
      match (s.slot r.slot).blockCheck b with
      | none => s.beginTransfer l j r
      | some e => (s.returnGrant.segmentError l i e).settle l
    | _, _ => s.returnGrant.settle l
  | _, _ => s.returnGrant.settle l

/-- A grant reaches the Identify Sequencer (R129, R108). A grant that is returned leaves the bus FREE, and the arbiter
decides with the request for the new head among those waiting (R107, log entry 14). -/
def State.identGrant (s : State) (i : SlotId) : State :=
  if s.identQueue.head? = some i ∧ (s.slot i).state = .identifying then
    s.goOn ((identTransfer i).beginAttempt s.bus)
  else (s.setBusState .free).identStep

/-! Abandonment (R139) -/

/-- A slot leaves a powered state by removal, TRIP or power-off: the transfer to it that is in flight, if any, is
abandoned, and a lane receives the error given (R124, R139). The Identify Sequencer goes on with its new head. -/
def State.abandonTransfer (s : State) (i : SlotId) (e : ErrorKind) : State :=
  match s.bus.state with
  | .inFlight t =>
    if t.slot = i then
      let u := s.setBusState .free
      match t.requester with
      | .lane l => ((u.takeReport l t.direction (.error e)).identStep.onBus Bus.decide).settle l
      | .identify => u.identStep.onBus Bus.decide
    else s.identStep
  | .free => s.identStep
  | .granted _ => s.identStep

end Sys2Proof.Machine
end

