-- ==== Sys2Proof/Machine/Sequencers.lean ====
section
/-! DEFINITION. The Slot Manager's sequencers: the power wait list, the Ramp Sequencer, a slot's leaving of both queues,
and whether a slot is in use (05). -/

namespace Sys2Proof.Machine

/-- The Ramp Sequencer, holding no slot, takes the head of the power wait list to RAMPING. A slot whose TRIPs is already
asserted is tripped at once, and the next one follows. The slots so tripped are given beside the state (R106, R99). -/
def rampFrom : List SlotId → State → State × List SlotId
  | [], s => ({ s with powerWait := [] }, [])
  | i :: rest, s =>
    let t := { s with powerWait := rest }
    if (s.slot i).tripPin then
      let r := rampFrom rest (t.onSlot i (Slot.fail .overcurrent))
      (r.1, i :: r.2)
    else
      (({ t with ramping := some i }).onSlot i (fun x =>
        { x.enter .ramping with rampTimer := .running Config.rampMs }), [])

/-- The Ramp Sequencer's check (R106). -/
def State.rampCheck (s : State) : State × List SlotId :=
  match s.ramping with
  | some _ => (s, [])
  | none => rampFrom s.powerWait s

/-- FAULT[s] raised in both links for each slot given (R116). -/
def State.raiseFaults (s : State) (is : List SlotId) : State := is.foldl (fun t i => t.raiseBoth (.fault i)) s

/-- The Ramp Sequencer's check, with the conditions of slots tripped at the start of their ramp. -/
def State.rampStep (s : State) : State := let r := s.rampCheck; r.1.raiseFaults r.2

/-- A slot leaves the power wait list, the Ramp Sequencer and the identify queue, with its request (R104, R107, R127). -/
def State.leaveSequencers (s : State) (i : SlotId) : State :=
  { s with
    powerWait := s.powerWait.filter (fun k => k != i)
    ramping := if s.ramping = some i then none else s.ramping
    identQueue := s.identQueue.filter (fun k => k != i)
    bus := { s.bus with requestIdentify := if s.bus.requestIdentify = some i then none else s.bus.requestIdentify } }

/-- A slot enters QUEUED_FOR_POWER at the tail of the power wait list (R105). -/
def State.queueForPower (s : State) (i : SlotId) : State :=
  let t := s.onSlot i (Slot.enter .queuedForPower)
  { t with powerWait := t.powerWait ++ [i] }

/-- A binding names the slot with its current generation. -/
def Slot.boundBy (x : Slot) (i : SlotId) (b : Option Binding) : Bool :=
  match b with
  | none => false
  | some b => b.slot = i && b.generation = x.generation

/-- The active job of a link holds a binding to the slot with its current generation (R113). -/
def State.boundByLink (s : State) (i : SlotId) (l : Link) : Bool :=
  match s.activeJob l with
  | none => false
  | some j => (s.slot i).boundBy i j.bindPrimary || (s.slot i).boundBy i j.bindDestination

/-- A block transfer of a lane to the slot is in flight (R113). -/
def State.jobTransferTo (s : State) (i : SlotId) : Bool := s.bus.slotInFlight i && !s.bus.identifyInFlight

/-- The slot is in use (R113). -/
def State.slotInUse (s : State) (i : SlotId) : Bool :=
  s.jobTransferTo i || s.boundByLink i .A || s.boundByLink i .B

end Sys2Proof.Machine
end

