-- ==== Sys2Proof/Machine/Resets.lean ====
section
/-! DEFINITION. Teardown, link reset, part reset and power-on reset (R170 to R177). -/

namespace Sys2Proof.Machine

/-! HELLO (R176) -/

/-- The PRESs pins, bit s for slot s (R176, R181). -/
def State.presence (s : State) : BitVec 4 :=
  BitVec.ofBool (s.slot 3).presPin ++ BitVec.ofBool (s.slot 2).presPin ++ BitVec.ofBool (s.slot 1).presPin ++
    BitVec.ofBool (s.slot 0).presPin

/-- A HELLO joins a link's outbound queue (R176). -/
def State.hello (s : State) (l : Link) (c : ResetCause) : State :=
  s.onLink l (LinkState.push (.hello c s.latch s.presence))

/-! Teardown (R170) -/

/-- The outbound queue emptied except the entry in transmission, and the intake emptied (R163, R166). -/
def LinkState.emptyQueues (x : LinkState) : LinkState := { x with outbound := x.sending, intake := [] }

/-- The buffers of the DATA entries that an emptying of the outbound queue removes (R55). -/
def LinkState.removedBuffers (x : LinkState) : List BufId := x.waiting.filterMap Entry.buffer?

/-- The intake and the outbound queue of a link are emptied, and the buffers of removed DATA entries freed (R166, R55). -/
def State.emptyQueues (s : State) (l : Link) : State :=
  (s.onLink l LinkState.emptyQueues).freeBufs (s.link l).removedBuffers

/-- The lane's state after a teardown (R11, R30). -/
def LaneState.afterTeardown (inFlight : Bool) : LaneState → LaneState
  | .stopping => .stopping
  | .busy => if inFlight then .stopping else .idle
  | .idle => .idle

/-- The session's own part of a teardown at its link (R170). -/
def LinkState.closeSession (inFlight : Bool) (x : LinkState) : LinkState :=
  { x.emptyQueues.clearConditions with
    session := .closed
    dataTimeout := none
    holdLimit := none
    live := []
    history := []
    lane := ⟨x.lane.state.afterTeardown inFlight, 0, 0⟩ }

/-- Teardown of a link's session, as one event at every block (R170, R30, R55, R97, R155). -/
def State.teardown (s : State) (l : Link) : State :=
  let removed := (s.link l).removedBuffers
  let t := ((s.withdrawAll l).onLink l (LinkState.closeSession (s.bus.laneInFlight l))).freeWindows l
  let kept := t.freeBufs removed
  if (t.link l).lane.state = .idle then kept.freeBufs (kept.allUses l (BufferUse.freedAtEnd false)) else kept

/-- A link reset (R171). -/
def State.linkReset (s : State) (l : Link) (c : ResetCause) : State :=
  let t := if (s.link l).session = .closed then s.emptyQueues l else s.teardown l
  ((t.onLink l (fun x => { x with framer := .hunt, gapTimer := .stopped })).hello l c).settle l.other

/-! Reset of every block (R173, R175) -/

/-- A slot at its reset value, its input pins as they stand (R100, R125). -/
def Slot.held (x : Slot) : Slot := { Slot.reset with presPin := x.presPin, wpPin := x.wpPin, tripPin := x.tripPin }

/-- A slot after its pins have been sampled at a reset (R125, R122). -/
def Slot.sampled (x : Slot) : Slot :=
  let y := { x.held with wp := x.wpPin }
  if x.presPin then { y with state := .settling, settleTimer := .running Config.settleMs } else y

/-- The latch state that a pin level gives (R73). -/
def latchOf (pin : Bool) : LatchState := if pin then .closed else .opened

/-- The bus at its reset value, the levels that the modules drive as they stand (R141). -/
def Bus.held (b : Bus) : Bus :=
  { Bus.reset with mack := b.mack, mrej := b.mrej, md := b.md, mdp := b.mdp, mperr := b.mperr, late := b.late }

/-- A link after a part reset: reset values, and the entry in transmission kept (R173, R177). -/
def LinkState.partReset (x : LinkState) : LinkState :=
  { LinkState.reset with outbound := x.sending, transmitting := !x.sending.isEmpty }

/-- The pool after a reset: all FREE, but for the buffer of a DATA entry in transmission on either link (R32, R56). -/
def State.poolReset (s : State) : State :=
  let kept := (s.linkA.sending ++ s.linkB.sending).filterMap Entry.buffer?
  { s with
    buffers := Vector.ofFn (fun i => if i ∈ kept then s.buffers.get i else ⟨.free, (s.buffers.get i).bytes⟩)
    waitList := [] }

/-- Every block but the links and the pool takes its reset values, the pins sampled (R31, R77, R98, R125, R141). -/
def State.blocksReset (s : State) : State :=
  { s with
    latch := latchOf s.latchPin
    latchDebounce := .stopped
    latchHold := !s.latchPin
    windows := Vector.ofFn (fun _ => none)
    slots := Vector.ofFn (fun i => (s.slots.get i).sampled)
    powerWait := []
    ramping := none
    identQueue := []
    bus := s.bus.held }

/-- The part reset: every block at once, then a HELLO with the cause on both links (R173). -/
def State.partReset (s : State) (c : ResetCause) : State :=
  let t := (s.poolReset.blocksReset).onLinks LinkState.partReset
  (t.hello .A c).hello .B c

/-- The line rate that the straps give (R157). -/
def rateOf (rate1 rate0 : Bool) : LineRate :=
  match rate1, rate0 with
  | false, false => .mbit1
  | false, true => .mbit2
  | true, false => .mbit4
  | true, true => .mbit8

/-- The power-on reset as NRST is released: nothing is left of either outbound queue (R175). -/
def State.powerOn (s : State) (rate1 rate0 : Bool) : State :=
  let t := { s with linkA := LinkState.reset, linkB := LinkState.reset }
  let u := { t.poolReset.blocksReset with inReset := false, rate := rateOf rate1 rate0, rate1 := rate1, rate0 := rate0 }
  (u.hello .A .powerOn).hello .B .powerOn

/-- What the part holds while NRST is low: reset values with nothing sampled and nothing to send (R175, log entry 8). -/
def State.nrstHeld (s : State) : State :=
  let t := { s with linkA := LinkState.reset, linkB := LinkState.reset }
  { t.poolReset.blocksReset with
    inReset := true
    latch := s.latch
    latchHold := s.latchHold
    slots := Vector.ofFn (fun i => (s.slots.get i).held) }

end Sys2Proof.Machine
end

