-- ==== Sys2Proof/Machine/Operands.lean ====
section
/-! DEFINITION. The operands of requests: the items of a payload, the format checks (R185), the parameter checks of the
owners (R2, R81, R168, R182), and the payload that carries a request (R184). -/

namespace Sys2Proof.Machine

/-- A well-formed request, its coded values as the numbers on the line (R164, R182, R184). -/
inductive Request where
  | openSession (dataTimeout holdLimit : Option Nat)
  | closeSession
  | rstl
  | rstp
  | nsub (mask : Word)
  | nack (conditions : Word)
  | nget
  | wset (a : WsetArgs)
  | wrel (index : Nat)
  | wget (index : Nat)
  | spwr (slot power : Nat) (force : Bool)
  | scfg (slot auto : Nat)
  | sclr (slot : Nat)
  | sget (slot : Nat)
  | jsub (a : JsubArgs)
  | jpau (tag : Nat)
  | jres (tag : Nat)
  | jcan (tag : Nat)
  | jget (tag : Nat)
  | jlst
  deriving DecidableEq, Repr

/-- The request codes (R184). -/
def Request.code : Request → Nat
  | .openSession _ _ => 0x10
  | .closeSession => 0x11
  | .rstl => 0x12
  | .rstp => 0x13
  | .nsub _ => 0x20
  | .nack _ => 0x21
  | .nget => 0x22
  | .wset _ => 0x30
  | .wrel _ => 0x31
  | .wget _ => 0x32
  | .spwr _ _ _ => 0x40
  | .scfg _ _ => 0x41
  | .sclr _ => 0x42
  | .sget _ => 0x43
  | .jsub _ => 0x50
  | .jpau _ => 0x51
  | .jres _ => 0x52
  | .jcan _ => 0x53
  | .jget _ => 0x54
  | .jlst => 0x55

/-- The request is taken without a session: OPEN or RSTL (R164 step 2). -/
def takenClosed (code : Nat) : Bool := code == 0x10 || code == 0x12

/-! Items of a request (R180, R181) -/

/-- An item as it stands in a payload: key and value bytes. -/
structure RawItem where
  key : Nat
  value : List Byte
  deriving DecidableEq, Repr

/-- The items of a payload, read from its first byte; none if an item runs past the end (R185). The first argument bounds
the number of items. -/
def readItems : Nat → List Byte → Option (List RawItem)
  | _, [] => some []
  | 0, _ :: _ => none
  | _ + 1, [_] => none
  | n + 1, k :: len :: rest =>
    if len.toNat ≤ rest.length then
      (readItems n (rest.drop len.toNat)).map (fun items => ⟨k.toNat, rest.take len.toNat⟩ :: items)
    else none

/-- The fixed value length of a key that a request may carry (R181, R184). -/
def keyLength (key : Nat) : Option Nat :=
  match key with
  | 0x02 => some 2
  | 0x03 => some 2
  | 0x0C => some 4
  | 0x0D => some 4
  | 0x10 => some 1
  | 0x12 => some 4
  | 0x13 => some 1
  | 0x14 => some 1
  | 0x15 => some 4
  | 0x16 => some 1
  | 0x17 => some 1
  | 0x18 => some 1
  | 0x19 => some 2
  | 0x1A => some 1
  | 0x20 => some 1
  | 0x21 => some 0
  | 0x22 => some 1
  | 0x40 => some 1
  | 0x41 => some 1
  | 0x42 => some 2
  | 0x43 => some 1
  | 0x44 => some 2
  | 0x45 => some 6
  | 0x46 => some 6
  | _ => none

/-- The keys that are lists (R181). -/
def listKey (key : Nat) : Bool := key == 0x45 || key == 0x46

/-- The required and the optional keys of a request code (R184). -/
def requestKeys (code : Nat) : List Nat × List Nat :=
  match code with
  | 0x10 => ([], [0x02, 0x03])
  | 0x20 => ([0x0D], [])
  | 0x21 => ([0x0C], [])
  | 0x30 => ([0x10, 0x12, 0x13, 0x14, 0x15], [0x16, 0x17, 0x18, 0x19, 0x1A])
  | 0x31 => ([0x10], [])
  | 0x32 => ([0x10], [])
  | 0x40 => ([0x14, 0x20], [0x21])
  | 0x41 => ([0x14, 0x22], [])
  | 0x42 => ([0x14], [])
  | 0x43 => ([0x14], [])
  | 0x50 => ([0x40, 0x41, 0x42], [0x43, 0x44, 0x45, 0x46])
  | 0x51 => ([0x40], [])
  | 0x52 => ([0x40], [])
  | 0x53 => ([0x40], [])
  | 0x54 => ([0x40], [])
  | _ => ([], [])

/-- The number of items with a key. -/
def countKey (items : List RawItem) (key : Nat) : Nat := items.countP (fun i => i.key == key)

/-- The items pass the format checks of R185 that come after the reading of the items. -/
def formatOk (code : Nat) (items : List RawItem) : Bool :=
  let keys := requestKeys code
  items.all (fun i => (keys.1.contains i.key || keys.2.contains i.key) && keyLength i.key == some i.value.length &&
    (listKey i.key || countKey items i.key == 1)) &&
  keys.1.all (fun k => countKey items k != 0)

/-- The value of the item with a key, if it is present. -/
def itemValue (items : List RawItem) (key : Nat) : Option Nat :=
  (items.find? (fun i => i.key == key)).map (fun i => beNat i.value)

/-- The value of a required item. -/
def itemGet (items : List RawItem) (key : Nat) : Nat := (itemValue items key).getD 0

/-- The segments of a list key, in their order (R181). -/
def itemSegments (items : List RawItem) (key : Nat) : List Segment :=
  (items.filter (fun i => i.key == key)).map (fun i => ⟨beNat (i.value.take 4), beNat (i.value.drop 4)⟩)

/-- The request of a known code with items that pass the format checks (R184). -/
def requestOf (code : Nat) (items : List RawItem) : Option Request :=
  match code with
  | 0x10 => some (.openSession (itemValue items 0x02) (itemValue items 0x03))
  | 0x11 => some .closeSession
  | 0x12 => some .rstl
  | 0x13 => some .rstp
  | 0x20 => some (.nsub (BitVec.ofNat 32 (itemGet items 0x0D)))
  | 0x21 => some (.nack (BitVec.ofNat 32 (itemGet items 0x0C)))
  | 0x22 => some .nget
  | 0x30 => some (.wset ⟨itemGet items 0x10, itemGet items 0x12, itemGet items 0x13, itemGet items 0x14,
      itemGet items 0x15, itemValue items 0x16, itemValue items 0x17, itemValue items 0x18, itemValue items 0x19,
      itemValue items 0x1A⟩)
  | 0x31 => some (.wrel (itemGet items 0x10))
  | 0x32 => some (.wget (itemGet items 0x10))
  | 0x40 => some (.spwr (itemGet items 0x14) (itemGet items 0x20) (countKey items 0x21 != 0))
  | 0x41 => some (.scfg (itemGet items 0x14) (itemGet items 0x22))
  | 0x42 => some (.sclr (itemGet items 0x14))
  | 0x43 => some (.sget (itemGet items 0x14))
  | 0x50 => some (.jsub ⟨itemGet items 0x40, itemGet items 0x41, itemGet items 0x42, itemValue items 0x43,
      (itemValue items 0x44).map (BitVec.ofNat 16), itemSegments items 0x45, itemSegments items 0x46⟩)
  | 0x51 => some (.jpau (itemGet items 0x40))
  | 0x52 => some (.jres (itemGet items 0x40))
  | 0x53 => some (.jcan (itemGet items 0x40))
  | 0x54 => some (.jget (itemGet items 0x40))
  | 0x55 => some .jlst
  | _ => none

/-- Step 3 of hand-off: the request that a payload gives, or none for BAD_FORMAT (R164, R185). -/
def parseRequest (code : Nat) (payload : List Byte) : Option Request :=
  match readItems payload.length payload with
  | none => none
  | some items => if formatOk code items then requestOf code items else none

/-! The payload that carries a request, as a host builds it (R180, R181, R184, 9.9) -/

def natItem (key n v : Nat) : RawItem := ⟨key, beBytes n v⟩

def optItem (key n : Nat) : Option Nat → List RawItem
  | none => []
  | some v => [natItem key n v]

def segmentItem (key : Nat) (g : Segment) : RawItem := ⟨key, beBytes 4 g.address ++ beBytes 2 g.blocks⟩

/-- The items of a request, in the order of R184. -/
def Request.items : Request → List RawItem
  | .openSession d h => optItem 0x02 2 d ++ optItem 0x03 2 h
  | .closeSession => []
  | .rstl => []
  | .rstp => []
  | .nsub m => [natItem 0x0D 4 m.toNat]
  | .nack m => [natItem 0x0C 4 m.toNat]
  | .nget => []
  | .wset a =>
    [natItem 0x10 1 a.index, natItem 0x12 4 a.base, natItem 0x13 1 a.sizePower, natItem 0x14 1 a.slot,
      natItem 0x15 4 a.offset] ++ optItem 0x16 1 a.rightsA ++ optItem 0x17 1 a.rightsB ++ optItem 0x18 1 a.waits ++
      optItem 0x19 2 a.limit ++ optItem 0x1A 1 a.retries
  | .wrel n => [natItem 0x10 1 n]
  | .wget n => [natItem 0x10 1 n]
  | .spwr n p f => [natItem 0x14 1 n, natItem 0x20 1 p] ++ (if f then [⟨0x21, []⟩] else [])
  | .scfg n v => [natItem 0x14 1 n, natItem 0x22 1 v]
  | .sclr n => [natItem 0x14 1 n]
  | .sget n => [natItem 0x14 1 n]
  | .jsub a =>
    [natItem 0x40 1 a.tag, natItem 0x41 1 a.kind, natItem 0x42 2 a.blockSize] ++ optItem 0x43 1 a.flags ++
      optItem 0x44 2 (a.pattern.map BitVec.toNat) ++ a.primary.map (segmentItem 0x45) ++
      a.destination.map (segmentItem 0x46)
  | .jpau t => [natItem 0x40 1 t]
  | .jres t => [natItem 0x40 1 t]
  | .jcan t => [natItem 0x40 1 t]
  | .jget t => [natItem 0x40 1 t]
  | .jlst => []

/-- The payload of a request frame (R180). -/
def Request.payload (r : Request) : List Byte := r.items.flatMap (fun i => itemBytes i.key i.value)

/-- Every value of the request fits its item, and the payload fits a REQ frame (R160, R181). -/
def Request.wellFormed : Request → Bool
  | .openSession d h => fitsOpt 2 d && fitsOpt 2 h
  | .closeSession => true
  | .rstl => true
  | .rstp => true
  | .nsub _ => true
  | .nack _ => true
  | .nget => true
  | .wset a => a.wellFormed
  | .wrel n => fits 1 n
  | .wget n => fits 1 n
  | .spwr n p _ => fits 1 n && fits 1 p
  | .scfg n v => fits 1 n && fits 1 v
  | .sclr n => fits 1 n
  | .sget n => fits 1 n
  | .jsub a => a.wellFormed
  | .jpau t => fits 1 t
  | .jres t => fits 1 t
  | .jcan t => fits 1 t
  | .jget t => fits 1 t
  | .jlst => true

/-! Parameter checks of the owners (R182) -/

/-- The slot that an index names (R111, R119 to R121). -/
def slotOf (n : Nat) : Option SlotId := if h : n < 4 then some ⟨n, h⟩ else none

/-- The window index that a number names (R81, R86, R87). -/
def windowOf (n : Nat) : Option (Fin 8) := if h : n < 8 then some ⟨n, h⟩ else none

def rightsOf (n : Nat) : Option Rights :=
  match n with
  | 0 => some .none
  | 1 => some .read
  | 2 => some .readWrite
  | _ => none

/-- An optional rights item: its value, or the default of R78. -/
def rightsItem (dflt : Rights) : Option Nat → Option Rights
  | none => some dflt
  | some n => rightsOf n

def jobKindOf (n : Nat) : Option JobKind :=
  match n with
  | 1 => some .read
  | 2 => some .write
  | 3 => some .copy
  | 4 => some .fill
  | _ => none

/-- The response limits (R78, R81). -/
def limitOk (n : Nat) : Bool := [25, 50, 100, 250, 500, 1000].contains n

/-- The window that a WSET of a link sets, defaults included, or none if a parameter is at fault (R78, R81, R83). -/
def windowOfArgs (l : Link) (a : WsetArgs) : Option Window :=
  match slotOf a.slot, rightsItem (if l = .A then .readWrite else .none) a.rightsA,
      rightsItem (if l = .B then .readWrite else .none) a.rightsB with
  | some i, some ra, some rb =>
    let waits := a.waits.getD 7
    let limit := a.limit.getD 1000
    let retries := a.retries.getD 1
    if a.index < 8 ∧ 12 ≤ a.sizePower ∧ a.sizePower ≤ 28 ∧ a.base % 2 ^ a.sizePower = 0 ∧ a.offset % 4096 = 0 ∧
        a.offset + 2 ^ a.sizePower ≤ 2 ^ 28 ∧ waits ≤ 7 ∧ limitOk limit = true ∧ retries ≤ 3 then
      some ⟨l, a.base, a.sizePower, i, a.offset, ra, rb, waits, limit, retries⟩
    else none
  | _, _, _ => none

/-- A segment passes the checks of R2 for its block size. -/
def segmentOk (blockSize : Nat) (g : Segment) : Bool :=
  decide (1 ≤ g.blocks) && decide (g.blocks ≤ Config.segmentBlocksMax) && decide (g.address % blockSize = 0) &&
  decide (g.address + g.blocks * blockSize ≤ 2 ^ 32)

/-- A list has 1 to 16 segments (R2). -/
def listOk (gs : List Segment) : Bool := !gs.isEmpty && decide (gs.length ≤ Config.segmentsMax)

/-- The block sizes (R2). -/
def blockSizeOk (n : Nat) : Bool := [256, 512, 1024, 2048].contains n

/-- No case of R2 holds for the parameters of a JSUB of the given kind, and FLAGS has no bit of 2..7 set (R182). -/
def jsubOk (a : JsubArgs) (k : JobKind) : Bool :=
  a.tag != 0 && blockSizeOk a.blockSize && listOk a.primary &&
  (if k = .copy then listOk a.destination && totalBlocks a.primary == totalBlocks a.destination
    else a.destination.isEmpty) &&
  a.primary.all (segmentOk a.blockSize) && a.destination.all (segmentOk a.blockSize) &&
  (if k = .fill then a.pattern.isSome else a.pattern.isNone) &&
  decide (a.flags.getD 0 < 4)

/-- The job record a taken JSUB creates (R4). FLAGS absent means STOP_ON_ERROR set, SEGMENT_NOTICES clear (R184). -/
def newJob (a : JsubArgs) (k : JobKind) : Job where
  tag := a.tag
  kind := k
  blockSize := a.blockSize
  stopOnError := (a.flags.getD 1).testBit 0
  segmentNotices := (a.flags.getD 1).testBit 1
  pattern := a.pattern
  primary := a.primary
  destination := a.destination
  total := totalBlocks a.primary
  state := .queued
  causeHost := false
  causeLatch := false
  nextBlock := 0
  posPrimary := ⟨0, 0, 0⟩
  posDestination := ⟨0, 0, 0⟩
  bindPrimary := none
  bindDestination := none
  completed := 0
  failed := 0
  firstError := none
  credits := 0
  nextExpected := 0
  holdTimer := .stopped
  dataTimer := .stopped

/-- The job that a JSUB describes, or none if a parameter is at fault (R2, R4). -/
def jobOfArgs (a : JsubArgs) : Option Job :=
  match jobKindOf a.kind with
  | none => none
  | some k => if jsubOk a k then some (newJob a k) else none

/-- The session values of OPEN are within their ranges (R168). -/
def openOk (dataTimeout holdLimit : Option Nat) : Bool :=
  decide (10 ≤ dataTimeout.getD Config.defaultDataTimeout) && decide (dataTimeout.getD Config.defaultDataTimeout ≤ 10000) &&
  decide (holdLimit.getD 0 ≤ 600)

end Sys2Proof.Machine
end

