-- ==== Sys2Proof/Machine/Requests.lean ====
section
/-! DEFINITION. How a request is handed on to its owner and refused without a session (R164), and the outcome of a
meaning that always goes on. -/

namespace Sys2Proof.Machine

/-- The outcome of a step of this part. -/
abbrev Result := Host.Outcome State Fault Refusal

/-- A request of a known code is answered: NO_SESSION at step 2, or as its owner decides (R164). -/
def State.answer (s : State) (l : Link) (code : Nat) (owner : State → State) : State :=
  if (s.link l).session = .closed ∧ takenClosed code = false then s.reply l code .noSession [] else owner s

/-- Link `l` can hand a request on: a reply place is free, and no part reset is pending (R164, R167, R172). -/
def LinkState.canHandOn (x : LinkState) : Bool := decide (x.replies < Config.replyPlaces) && x.session != .resetPending

/-- A handed-on request, as one event (R164, log entry 10). -/
def handed (s : State) (l : Link) (code : Nat) (owner : State → State) : Result :=
  .next (if (s.link l).canHandOn then event s (fun t => t.answer l code owner) else s)

/-- A refusal of a request by its owner: the code alone (R186). -/
def State.refuse (s : State) (l : Link) (code : Nat) (r : ReplyCode) : State := s.reply l code r []

end Sys2Proof.Machine
end

