-- ==== Sys2Proof/Machine/ConditionRequests.lean ====
section
/-! DEFINITION. The condition requests: NSUB, NACK, NGET (R147 to R149). -/

namespace Sys2Proof.Machine

/-- The conditions that a new mask announces: in it, not in the old mask, and raised (R147). -/
def LinkState.newlySubscribed (x : LinkState) (mask : ConditionSet) : ConditionSet := mask &&& ~~~x.mask &&& x.conditions

/-- A set is announced, unless it is empty (R147). -/
def LinkState.announceSome (set : ConditionSet) (x : LinkState) : LinkState := if set = 0 then x else x.announce set

/-- NSUB at its owner (R147). -/
def State.takeNsub (s : State) (l : Link) (w : Word) : State :=
  if outsideConditions w then s.refuse l 0x20 .badParam
  else
    let mask := conditionsOf w
    let set := (s.link l).newlySubscribed mask
    ((s.onLink l (fun x => { x with mask := mask })).reply l 0x20 .ok [.mask mask]).onLink l (LinkState.announceSome set)

/-- NACK at its owner (R148). -/
def State.takeNack (s : State) (l : Link) (w : Word) : State :=
  if outsideConditions w then s.refuse l 0x21 .badParam
  else
    let left := (s.link l).conditions &&& ~~~conditionsOf w
    (s.onLink l (fun x => { x with conditions := left })).reply l 0x21 .ok [.conditions left]

/-- NGET at its owner (R149). -/
def State.takeNget (s : State) (l : Link) : State :=
  let x := s.link l
  s.reply l 0x22 .ok [.conditions x.conditions, .mask x.mask, .overflowCount x.overflow, .latch s.latch]

/-- NSUB (R147). -/
def execNsub (l : Link) (mask : Word) (s : State) : Result := handed s l 0x20 (fun t => t.takeNsub l mask)

/-- NACK (R148). -/
def execNack (l : Link) (conditions : Word) (s : State) : Result := handed s l 0x21 (fun t => t.takeNack l conditions)

/-- NGET (R149). -/
def execNget (l : Link) (s : State) : Result := handed s l 0x22 (fun t => t.takeNget l)

end Sys2Proof.Machine
end

