-- ==== Sys2Proof/Machine/JobRequests.lean ====
section
/-! DEFINITION. The job requests: JSUB, JPAU, JRES, JCAN, JGET, JLST (R2 to R10, R63 to R67). -/

namespace Sys2Proof.Machine

/-- The live job with a tag (R6, R63). -/
def LinkState.liveJob (x : LinkState) (tag : Nat) : Option Job := x.live.find? (fun j => j.tag == tag)

/-- The history entry with a tag (R6, R63). -/
def LinkState.pastJob (x : LinkState) (tag : Nat) : Option HistoryEntry := x.history.find? (fun e => e.tag == tag)

/-- The refusal of a request for a tag that is not live (R63). -/
def LinkState.notLive (x : LinkState) (tag : Nat) : ReplyCode :=
  match x.pastJob tag with
  | none => .unknownJob
  | some _ => .ended

/-- A change after which the start check is due: the lanes go on if it succeeds (R4, R11, R67). -/
def State.startIfDue (s : State) (l : Link) : State := if s.startCheck l then s.settle l else s

/-- The job joins the tail of the live list, and a history entry with its tag is removed (R4). -/
def LinkState.join (j : Job) (x : LinkState) : LinkState :=
  { x with live := x.live ++ [j], history := x.history.filter (fun e => e.tag != j.tag) }

/-- JSUB at its owner (R2 to R4). -/
def State.takeJsub (s : State) (l : Link) (a : JsubArgs) : State :=
  match jobOfArgs a with
  | none => s.refuse l 0x50 .badParam
  | some j =>
    let n := (s.link l).live.length
    if Config.liveMax ≤ n then s.refuse l 0x50 .queueFull
    else if ((s.link l).liveJob j.tag).isSome then s.refuse l 0x50 .duplicateTag
    else ((s.onLink l (LinkState.join j)).reply l 0x50 .ok [.jobTag j.tag, .listPosition (n + 1)]).startIfDue l

/-- An OK reply to JPAU, JRES or JCAN (R186). -/
def State.replyJob (s : State) (l : Link) (code tag : Nat) (st : JobStatus) : State :=
  s.reply l code .ok [.jobTag tag, .jobState st]

/-- JPAU on the active job (R64). -/
def State.pauseActive (s : State) (l : Link) (tag : Nat) (j : Job) : State :=
  match j.state with
  | .queued => s.refuse l 0x51 .notActive
  | .cancelling => s.refuse l 0x51 .cancelling
  | .running =>
    let st : JobState := if s.bus.laneInFlight l then .pausing else .paused
    ((s.onJob l (fun j => { j with causeHost := true })).replyJob l 0x51 tag (.live st)).pauseRunning l
  | .pausing =>
    if j.causeHost then s.refuse l 0x51 .alreadyPaused
    else (s.onJob l (fun j => { j with causeHost := true })).replyJob l 0x51 tag (.live .pausing)
  | .paused =>
    if j.causeHost then s.refuse l 0x51 .alreadyPaused
    else
      let hold := holdStart (s.link l).holdLimit
      (s.onJob l (fun j => { j with causeHost := true, holdTimer := hold })).replyJob l 0x51 tag (.live .paused)

/-- JRES on a PAUSING or PAUSED job (R65). -/
def State.withdrawHost (s : State) (l : Link) (tag : Nat) (j : Job) : State :=
  if j.causeHost then
    let t := s.onJob l (fun j => { j with causeHost := false, holdTimer := .stopped })
    if j.causeLatch then t.replyJob l 0x52 tag (.live j.state)
    else ((t.replyJob l 0x52 tag (.live .running)).resumeJob l).settle l
  else s.refuse l 0x52 .notPaused

/-- JRES on the active job (R65). -/
def State.resumeActive (s : State) (l : Link) (tag : Nat) (j : Job) : State :=
  match j.state with
  | .queued => s.refuse l 0x52 .notActive
  | .cancelling => s.refuse l 0x52 .cancelling
  | .running => s.refuse l 0x52 .notPaused
  | .pausing => s.withdrawHost l tag j
  | .paused => s.withdrawHost l tag j

/-- The active job enters CANCELLING with a transfer in flight (R66). -/
def State.enterCancelling (s : State) (l : Link) : State :=
  (s.withdrawWait l).onTimedJob l (fun j => { j with state := .cancelling, causeHost := false, causeLatch := false })

/-- JCAN of a QUEUED job (R67). -/
def State.cancelQueued (s : State) (l : Link) (j : Job) : State :=
  let e : HistoryEntry := ⟨j.tag, j.kind, .cancelled, 0, 0, none⟩
  let t := s.onLink l (fun x =>
    { x with live := x.live.filter (fun k => k.tag != j.tag), history := addHistory x.history e })
  ((t.replyJob l 0x53 j.tag .ended).offer l (.jobEnded j.tag .cancelled 0 0 none)).startIfDue l

/-- JCAN of the active job at a block boundary (R66). -/
def State.cancelNow (s : State) (l : Link) (tag : Nat) : State :=
  ((s.replyJob l 0x53 tag .ended).endJob l .cancelled).settle l

/-- JCAN on a live job (R66, R67). -/
def State.cancelLive (s : State) (l : Link) (tag : Nat) (j : Job) : State :=
  match j.state with
  | .queued => s.cancelQueued l j
  | .running =>
    if s.bus.laneInFlight l then (s.replyJob l 0x53 tag (.live .cancelling)).enterCancelling l else s.cancelNow l tag
  | .pausing => (s.replyJob l 0x53 tag (.live .cancelling)).enterCancelling l
  | .paused => s.cancelNow l tag
  | .cancelling => s.replyJob l 0x53 tag (.live .cancelling)

/-- A request for one job at its owner: the live list is searched, then the history (R63). -/
def State.forJob (s : State) (l : Link) (code tag : Nat) (f : Job → State) : State :=
  match (s.link l).liveJob tag with
  | none => s.refuse l code ((s.link l).notLive tag)
  | some j => f j

/-- JPAU at its owner (R63, R64). -/
def State.takeJpau (s : State) (l : Link) (tag : Nat) : State := s.forJob l 0x51 tag (s.pauseActive l tag)

/-- JRES at its owner (R63, R65). -/
def State.takeJres (s : State) (l : Link) (tag : Nat) : State := s.forJob l 0x52 tag (s.resumeActive l tag)

/-- JCAN at its owner (R63, R66, R67). -/
def State.takeJcan (s : State) (l : Link) (tag : Nat) : State := s.forJob l 0x53 tag (s.cancelLive l tag)

/-- The items that report a live job at a list position (R9, R186). -/
def Job.items (j : Job) (position : Nat) : List Item :=
  [.jobTag j.tag, .jobState (.live j.state), .pauseCauses j.causeHost j.causeLatch, .listPosition position, .kind j.kind,
    .totalBlocks j.total, .nextBlock j.nextBlock, .primaryPosition j.posPrimary.segment j.posPrimary.block] ++
    (if j.kind = .copy then [Item.destPosition j.posDestination.segment j.posDestination.block] else []) ++
    [.blocksCompleted j.completed, .failedSegments j.failed] ++
    (if j.kind = .write then [Item.credits j.credits, Item.nextExpected j.nextExpected] else []) ++
    (j.firstError.map Item.firstError).toList

/-- The items that report an ended job (R9, R186). -/
def HistoryEntry.items (e : HistoryEntry) : List Item :=
  [.jobTag e.tag, .jobState .ended, .kind e.kind, .outcome e.outcome, .blocksCompleted e.completed,
    .failedSegments e.failed] ++ (e.firstError.map Item.firstError).toList

/-- The list position of a live job, 1 the head (R9). -/
def LinkState.listPosition (x : LinkState) (tag : Nat) : Nat := x.live.findIdx (fun j => j.tag == tag) + 1

/-- JGET at its owner (R9). -/
def State.takeJget (s : State) (l : Link) (tag : Nat) : State :=
  match (s.link l).liveJob tag, (s.link l).pastJob tag with
  | some j, _ => s.reply l 0x54 .ok (j.items ((s.link l).listPosition tag))
  | none, some e => s.reply l 0x54 .ok e.items
  | none, none => s.refuse l 0x54 .unknownJob

/-- The items of the reply to JLST (R10, R186). -/
def LinkState.listItems (x : LinkState) : List Item :=
  x.live.map (fun j => .liveEntry j.tag j.state) ++ x.history.map (fun e => .historyEntry e.tag e.outcome)

/-- JLST at its owner (R10). -/
def State.takeJlst (s : State) (l : Link) : State := s.reply l 0x55 .ok (s.link l).listItems

/-- JSUB (R4). -/
def execJsub (l : Link) (args : JsubArgs) (s : State) : Result := handed s l 0x50 (fun t => t.takeJsub l args)

/-- JPAU (R64). -/
def execJpau (l : Link) (tag : Nat) (s : State) : Result := handed s l 0x51 (fun t => t.takeJpau l tag)

/-- JRES (R65). -/
def execJres (l : Link) (tag : Nat) (s : State) : Result := handed s l 0x52 (fun t => t.takeJres l tag)

/-- JCAN (R66). -/
def execJcan (l : Link) (tag : Nat) (s : State) : Result := handed s l 0x53 (fun t => t.takeJcan l tag)

/-- JGET (R9). -/
def execJget (l : Link) (tag : Nat) (s : State) : Result := handed s l 0x54 (fun t => t.takeJget l tag)

/-- JLST (R10). -/
def execJlst (l : Link) (s : State) : Result := handed s l 0x55 (fun t => t.takeJlst l)

end Sys2Proof.Machine
end

