-- ==== Sys2Proof/Machine/Sessions.lean ====
section
/-! DEFINITION. The session and reset requests: OPEN, CLOSE, RSTL, RSTP (R168, R169, R171, R172). -/

namespace Sys2Proof.Machine

/-- A link's own values as a session opens (R168, R155). -/
def LinkState.opening (dataTimeout holdLimit : Nat) (x : LinkState) : LinkState :=
  { x.clearConditions with
    session := .opened
    dataTimeout := some dataTimeout
    holdLimit := some holdLimit
    live := []
    history := [] }

/-- The items of the OK reply to OPEN (R186). -/
def State.openItems (s : State) (l : Link) (dataTimeout holdLimit : Nat) : List Item :=
  [.link l, .dataTimeout dataTimeout, .holdLimit holdLimit, .capacity, .latch s.latch,
    .slotSummary 0 (s.slot 0).state, .slotSummary 1 (s.slot 1).state, .slotSummary 2 (s.slot 2).state,
    .slotSummary 3 (s.slot 3).state]

/-- OPEN at its owner (R168). -/
def State.takeOpen (s : State) (l : Link) (dataTimeout holdLimit : Option Nat) : State :=
  if (s.link l).session ≠ .closed then s.refuse l 0x10 .sessionOpen
  else if openOk dataTimeout holdLimit then
    let d := dataTimeout.getD Config.defaultDataTimeout
    let h := holdLimit.getD 0
    let t := (s.onLink l (LinkState.opening d h)).freeWindows l
    t.reply l 0x10 .ok (t.openItems l d h)
  else s.refuse l 0x10 .badParam

/-- CLOSE at its owner: the teardown, then the reply; a lane that waited for a freed buffer goes on (R169, R170). -/
def State.takeClose (s : State) (l : Link) : State := ((s.teardown l).reply l 0x11 .ok []).settle l.other

/-- RSTL at its owner (R171). -/
def State.takeRstl (s : State) (l : Link) : State := s.linkReset l .linkRequest

/-- RSTP at its owner (R172). -/
def State.takeRstp (s : State) (l : Link) : State :=
  (s.reply l 0x13 .ok []).onLink l (fun x => { x with session := .resetPending, intake := [] })

/-- OPEN (R168). -/
def execOpenSession (l : Link) (dataTimeout holdLimit : Option Nat) (s : State) : Result :=
  handed s l 0x10 (fun t => t.takeOpen l dataTimeout holdLimit)

/-- CLOSE (R169). -/
def execCloseSession (l : Link) (s : State) : Result := handed s l 0x11 (fun t => t.takeClose l)

/-- RSTL (R171). -/
def execRstl (l : Link) (s : State) : Result := handed s l 0x12 (fun t => t.takeRstl l)

/-- RSTP (R172). -/
def execRstp (l : Link) (s : State) : Result := handed s l 0x13 (fun t => t.takeRstp l)

end Sys2Proof.Machine
end

