-- ==== Sys2Proof/Machine/SlotRequests.lean ====
section
/-! DEFINITION. The slot requests: SPWR on and off, SCFG, SCLR, SGET (R111 to R121). -/

namespace Sys2Proof.Machine

/-- An OK reply that shows the slot's state (R186). -/
def State.replySlot (s : State) (l : Link) (code : Nat) (i : SlotId) : State :=
  s.reply l code .ok [.slot i.val, .slotState (s.slot i).state]

/-- SPWR on of a PRESENT slot: it joins the power wait list, and the Ramp Sequencer makes its check (R111, R106). The
reply shows the state after both (log entry 15). The FAULT conditions of slots tripped at once follow the reply: R154
orders no reply against a condition, and the choice is the model's (log entry 14). -/
def State.powerUp (s : State) (l : Link) (i : SlotId) : State :=
  let r := (s.queueForPower i).rampCheck
  (r.1.replySlot l 0x40 i).raiseFaults r.2

/-- SPWR on of a slot (R111). -/
def State.spwrOnSlot (s : State) (l : Link) (i : SlotId) : State :=
  match (s.slot i).state with
  | .present => s.powerUp l i
  | .queuedForPower => s.replySlot l 0x40 i
  | .ramping => s.replySlot l 0x40 i
  | .identifying => s.replySlot l 0x40 i
  | .ready => s.replySlot l 0x40 i
  | .empty => s.refuse l 0x40 .slotState
  | .settling => s.refuse l 0x40 .slotState
  | .draining => s.refuse l 0x40 .slotState
  | .faulted => s.refuse l 0x40 .slotState

/-- SPWR on at its owner (R111). -/
def State.takeSpwrOn (s : State) (l : Link) (n : Nat) (force : Bool) : State :=
  match slotOf n, force with
  | some i, false => s.spwrOnSlot l i
  | _, _ => s.refuse l 0x40 .badParam

/-- A slot goes to PRESENT and leaves the sequencers (R112). -/
def State.powerDown (s : State) (i : SlotId) : State := (s.onSlot i (Slot.enter .present)).leaveSequencers i

/-- SPWR off of a RAMPING slot: the next slot may start (R112, R106). The FAULT conditions of waiting slots that are tripped
at once follow the reply: R154 orders no reply against a condition, and the choice is the model's (log entry 14). -/
def State.stopRamp (s : State) (l : Link) (i : SlotId) : State :=
  let r := (s.powerDown i).rampCheck
  (r.1.replySlot l 0x40 i).raiseFaults r.2

/-- SPWR off with FORCE of a READY slot in use (R114). -/
def State.forceOff (s : State) (i : SlotId) : State :=
  if s.jobTransferTo i then s.onSlot i (fun x => { x with state := .draining }) else s.onSlot i (Slot.enter .present)

/-- SPWR off of a slot (R112 to R115). -/
def State.spwrOffSlot (s : State) (l : Link) (i : SlotId) (force : Bool) : State :=
  match (s.slot i).state with
  | .present => s.replySlot l 0x40 i
  | .draining => s.replySlot l 0x40 i
  | .queuedForPower => (s.powerDown i).replySlot l 0x40 i
  | .ramping => s.stopRamp l i
  | .identifying => ((s.powerDown i).replySlot l 0x40 i).abandonTransfer i .slotGone
  | .ready =>
    if s.slotInUse i then
      if force then (s.forceOff i).replySlot l 0x40 i else s.refuse l 0x40 .slotBusy
    else (s.onSlot i (Slot.enter .present)).replySlot l 0x40 i
  | .empty => s.refuse l 0x40 .slotState
  | .settling => s.refuse l 0x40 .slotState
  | .faulted => s.refuse l 0x40 .slotState

/-- SPWR off at its owner (R111, R112). -/
def State.takeSpwrOff (s : State) (l : Link) (n : Nat) (force : Bool) : State :=
  match slotOf n with
  | none => s.refuse l 0x40 .badParam
  | some i => s.spwrOffSlot l i force

/-- SPWR as a frame carries it: a POWER value outside its codes is a fault of parameter (R182). -/
def State.takeSpwr (s : State) (l : Link) (n power : Nat) (force : Bool) : State :=
  match power with
  | 0 => s.takeSpwrOff l n force
  | 1 => s.takeSpwrOn l n force
  | _ => s.refuse l 0x40 .badParam

/-- An AUTO_BRINGUP value (R181). -/
def autoOf (v : Nat) : Option Bool :=
  match v with
  | 0 => some false
  | 1 => some true
  | _ => none

/-- SCFG at its owner (R120). -/
def State.takeScfg (s : State) (l : Link) (n v : Nat) : State :=
  match slotOf n, autoOf v with
  | some i, some on =>
    (s.onSlot i (fun x => { x with autoBringup := on })).reply l 0x41 .ok [.slot i.val, .autoBringup on]
  | _, _ => s.refuse l 0x41 .badParam

/-- SCLR at its owner (R119). -/
def State.takeSclr (s : State) (l : Link) (n : Nat) : State :=
  match slotOf n with
  | none => s.refuse l 0x42 .badParam
  | some i =>
    if (s.slot i).state = .faulted then (s.onSlot i (Slot.enter .present)).replySlot l 0x42 i
    else s.refuse l 0x42 .slotState

/-- The items that report an identity (R121, R186). -/
def Identity.items (d : Identity) : List Item :=
  [.moduleClass d.moduleClass, .capacityCode d.capacityCode, .dataWidth d.dataWidth, .minWaits d.minWaits,
    .serial d.serial, .model d.model]

/-- The slot's position on the power wait list, 1 the head (R121). -/
def State.queuePosition (s : State) (i : SlotId) : Nat := s.powerWait.findIdx (fun k => k == i) + 1

/-- The items that report a slot record, in order (R121, R186). -/
def State.slotItems (s : State) (i : SlotId) : List Item :=
  let x := s.slot i
  [.slot i.val, .slotState x.state] ++ (x.faultKind.map Item.faultKind).toList ++
    [.generation x.generation, .autoBringup x.autoBringup, .wp x.wp, .noResponseCount x.noResponse] ++
    (if x.state = .queuedForPower then [Item.queuePosition (s.queuePosition i)] else []) ++
    (match x.identity with
      | none => []
      | some d => d.items)

/-- SGET at its owner (R121). -/
def State.takeSget (s : State) (l : Link) (n : Nat) : State :=
  match slotOf n with
  | none => s.refuse l 0x43 .badParam
  | some i => s.reply l 0x43 .ok (s.slotItems i)

/-- SPWR with POWER on (R111). -/
def execSpwrOn (l : Link) (slot : Nat) (force : Bool) (s : State) : Result :=
  handed s l 0x40 (fun t => t.takeSpwrOn l slot force)

/-- SPWR with POWER off (R112). -/
def execSpwrOff (l : Link) (slot : Nat) (force : Bool) (s : State) : Result :=
  handed s l 0x40 (fun t => t.takeSpwrOff l slot force)

/-- SCFG (R120). -/
def execScfg (l : Link) (slot auto : Nat) (s : State) : Result := handed s l 0x41 (fun t => t.takeScfg l slot auto)

/-- SCLR (R119). -/
def execSclr (l : Link) (slot : Nat) (s : State) : Result := handed s l 0x42 (fun t => t.takeSclr l slot)

/-- SGET (R121). -/
def execSget (l : Link) (slot : Nat) (s : State) : Result := handed s l 0x43 (fun t => t.takeSget l slot)

end Sys2Proof.Machine
end

