-- ==== Sys2Proof/Machine/WindowRequests.lean ====
section
/-! DEFINITION. The window requests: WSET, WREL, WGET (R81 to R87). -/

namespace Sys2Proof.Machine

/-- The items that report a window: its fields, and the windows that overlap it (R84, R87, R186). -/
def windowItems (i : Nat) (w : Window) (overlaps : List Nat) : List Item :=
  [.window i, .owner (some w.owner), .base w.base, .sizePower w.sizePower, .slot w.slot.val, .moduleOffset w.offset,
    .rightsA w.rightsA, .rightsB w.rightsB, .waits w.waits, .responseLimit w.limit, .retries w.retries] ++
    overlaps.map Item.overlap

def State.setWindow (s : State) (i : Fin 8) (w : Option Window) : State :=
  { s with windows := s.windows.set i.val w i.isLt }

/-- The window is owned, and not by the link (R82). -/
def Window.ofOther (l : Link) : Option Window → Bool
  | none => false
  | some w => w.owner != l

/-- The window is owned by the link (R86). -/
def Window.ofOwner (l : Link) : Option Window → Bool
  | none => false
  | some w => w.owner == l

/-- WSET at its owner (R81 to R84). -/
def State.takeWset (s : State) (l : Link) (a : WsetArgs) : State :=
  match windowOf a.index, windowOfArgs l a with
  | some i, some w =>
    if Window.ofOther l (s.windows.get i) then s.refuse l 0x30 .ownedByOther
    else (s.setWindow i (some w)).reply l 0x30 .ok (windowItems i.val w (s.overlaps i.val w))
  | _, _ => s.refuse l 0x30 .badParam

/-- WREL at its owner (R86). -/
def State.takeWrel (s : State) (l : Link) (n : Nat) : State :=
  match windowOf n with
  | none => s.refuse l 0x31 .badParam
  | some i =>
    if Window.ofOwner l (s.windows.get i) then (s.setWindow i none).reply l 0x31 .ok [.window i.val]
    else s.refuse l 0x31 .notOwner

/-- WGET at its owner (R87). -/
def State.takeWget (s : State) (l : Link) (n : Nat) : State :=
  match windowOf n with
  | none => s.refuse l 0x32 .badParam
  | some i =>
    match s.windows.get i with
    | none => s.reply l 0x32 .ok [.window i.val, .owner none]
    | some w => s.reply l 0x32 .ok (windowItems i.val w (s.overlaps i.val w))

/-- WSET (R82). -/
def execWset (l : Link) (args : WsetArgs) (s : State) : Result := handed s l 0x30 (fun t => t.takeWset l args)

/-- WREL (R86). -/
def execWrel (l : Link) (index : Nat) (s : State) : Result := handed s l 0x31 (fun t => t.takeWrel l index)

/-- WGET (R87). -/
def execWget (l : Link) (index : Nat) (s : State) : Result := handed s l 0x32 (fun t => t.takeWget l index)

end Sys2Proof.Machine
end

