-- ==== Sys2Proof/Machine/Links.lean ====
section
/-! DEFINITION. What a link receives and sends: hand-off from the intake, the framer, arriving frames, BREAK, and the end
of a transmission (08, 02). -/

namespace Sys2Proof.Machine

/-! Hand-off (R164) -/

/-- Step 4 of hand-off: the request at its owner (R164). -/
def State.takeRequest (s : State) (l : Link) : Request → State
  | .openSession d h => s.takeOpen l d h
  | .closeSession => s.takeClose l
  | .rstl => s.takeRstl l
  | .rstp => s.takeRstp l
  | .nsub m => s.takeNsub l m
  | .nack c => s.takeNack l c
  | .nget => s.takeNget l
  | .wset a => s.takeWset l a
  | .wrel n => s.takeWrel l n
  | .wget n => s.takeWget l n
  | .spwr n p f => s.takeSpwr l n p f
  | .scfg n v => s.takeScfg l n v
  | .sclr n => s.takeSclr l n
  | .sget n => s.takeSget l n
  | .jsub a => s.takeJsub l a
  | .jpau t => s.takeJpau l t
  | .jres t => s.takeJres l t
  | .jcan t => s.takeJcan l t
  | .jget t => s.takeJget l t
  | .jlst => s.takeJlst l

/-- Steps 3 and 4 of hand-off (R164). -/
def State.takePayload (s : State) (l : Link) (code : Nat) (payload : List Byte) : State :=
  match parseRequest code payload with
  | none => s.refuse l code .badFormat
  | some r => s.takeRequest l r

/-- The four steps of hand-off of a request frame (R164). -/
def State.serve (s : State) (l : Link) (f : ReqFrame) : State :=
  if knownCode f.code then s.answer l f.code.toNat (fun t => t.takePayload l f.code.toNat f.payload)
  else s.refuse l f.code.toNat .unknownRequest

/-- Link `l` hands on the head of its intake, if it can (R164). -/
def State.handOff (s : State) (l : Link) : State :=
  match (s.link l).intake with
  | [] => s
  | f :: rest =>
    if (s.link l).canHandOn then (s.onLink l (fun x => { x with intake := rest })).serve l f else s

/-! Arriving frames (R162, R163, R42, R43) -/

/-- A REQ frame has arrived (R162, R163). -/
def State.requestArrives (s : State) (l : Link) (f : ReqFrame) : State :=
  if (s.link l).session = .resetPending then s
  else if (s.link l).intake.length < Config.intakeMax then
    (s.onLink l (fun x => { x with intake := x.intake ++ [f] })).handOff l
  else s.onLink l (LinkState.raise .intakeOverrun)

/-- An accepted DATA frame consumes one credit (R43, R45). -/
def Job.consume (j : Job) : Job :=
  { j with
    credits := j.credits - 1
    nextExpected := if j.nextExpected + 1 < j.total then j.nextExpected + 1 else j.nextExpected }

/-- The block of an accepted DATA frame is placed (R43). -/
def State.placeBlock (s : State) (l : Link) (j : Job) (bytes : List Byte) : State :=
  match s.findUse l BufferUse.isReserved with
  | none => s
  | some b =>
    if j.state = .cancelling then s.freeBuf b
    else if j.nextExpected < j.nextBlock then s.emptyWriteBuffer l b
    else
      (s.setHolder b (.lane l (.filled j.tag j.nextExpected))).setBytes b ((s.buffers.get b).bytes.load bytes)

/-- A DAT frame is examined by the lane, in the order of R42. -/
def State.dataArrives (s : State) (l : Link) (tag : Byte) (payload : List Byte) : State :=
  match s.activeJob l with
  | none => s.onLink l (LinkState.raise .strayData)
  | some j =>
    if j.kind ≠ .write ∨ j.tag ≠ tag.toNat then s.onLink l (LinkState.raise .strayData)
    else if payload.length ≠ 2 + j.blockSize then s.onLink l (LinkState.raise .framing)
    else if j.credits = 0 then (s.fatalError l .dataUnsolicited).settle l
    else if beNat (payload.take 2) ≠ j.nextExpected then (s.fatalError l .dataSequence).settle l
    else ((s.onTimedJob l Job.consume).placeBlock l j (payload.drop 2)).settle l

/-- A DAT frame has arrived: it reaches the lane in OPEN alone (R162). -/
def State.dataFrameArrives (s : State) (l : Link) (tag : Byte) (payload : List Byte) : State :=
  if (s.link l).session = .opened then s.dataArrives l tag payload else s

/-! The framer (R160, R161) -/

/-- The framer hunts, its gap timer stopped (R160, R161). -/
def LinkState.hunt (x : LinkState) : LinkState := { x with framer := .hunt, gapTimer := .stopped }

/-- The framer discards a frame: FRAMING is raised, and it hunts (R160). -/
def State.discardFrame (s : State) (l : Link) : State := (s.onLink l LinkState.hunt).onLink l (LinkState.raise .framing)

/-- A frame has arrived, and is disposed of by its kind (R160, R162). -/
def State.frameArrives (s : State) (l : Link) (kind tag : Byte) (payload : List Byte) : State :=
  let t := s.onLink l LinkState.hunt
  if kind = kindREQ then t.requestArrives l ⟨tag, payload⟩ else t.dataFrameArrives l tag payload

/-- The largest payload length of a frame kind that the part receives; none for the other kinds (R160). -/
def payloadMax (kind : Byte) : Option Nat :=
  if kind = kindREQ then some Config.requestPayloadMax
  else if kind = kindDAT then some Config.dataPayloadMax
  else none

/-- What the framer makes of the bytes taken since the sync byte (R160). -/
inductive FrameCheck where
  | goOn
  | discard
  | arrived (kind tag : Byte) (payload : List Byte)
  deriving DecidableEq, Repr

/-- The check of a frame whose kind, tag and length bytes are taken (R160). -/
def checkRest (kind tag : Byte) (limit : Nat) (length rest : List Byte) : FrameCheck :=
  let n := beNat length
  if limit < n then .discard
  else if rest.length < n + 2 then .goOn
  else if crc16 (kind :: tag :: length ++ rest.take n) = BitVec.ofNat 16 (beNat (rest.drop n)) then
    .arrived kind tag (rest.take n)
  else .discard

/-- The check that the framer makes as it takes a byte (R160). -/
def checkFrame : List Byte → FrameCheck
  | [] => .goOn
  | kind :: taken =>
    match payloadMax kind, taken with
    | none, _ => .discard
    | some limit, tag :: h :: b :: rest => checkRest kind tag limit [h, b] rest
    | some _, _ => .goOn

/-- The framer has taken one more byte of a frame (R160, R161). -/
def State.takeByte (s : State) (l : Link) (taken : List Byte) : State :=
  match checkFrame taken with
  | .goOn => s.onLink l (fun x => { x with framer := .inFrame taken, gapTimer := .running Config.gapBits })
  | .discard => s.discardFrame l
  | .arrived kind tag payload => s.frameArrives l kind tag payload

/-- The receiver delivers a byte or a character error to the framer, unless a BREAK has been detected (R158 to R161). -/
def State.characterArrives (s : State) (l : Link) (c : LineChar) : State :=
  if (s.link l).breakDetected then s
  else
    match (s.link l).framer, c with
    | .hunt, .error => s
    | .hunt, .byte b => if b = Config.sync then s.takeByte l [] else s
    | .inFrame _, .error => s.discardFrame l
    | .inFrame taken, .byte b => s.takeByte l (taken ++ [b])

/-- Ten bit times of the receive line: the character they make, if any, goes to the framer (R157, R158). -/
def State.levelsArrive (s : State) (l : Link) (levels : LineLevels) : State :=
  match receiveCharacter levels with
  | none => s
  | some c => s.characterArrives l c

/-! The end of a transmission (R165, R39, R41, R152, R164, R173, R174) -/

/-- The cause of the part reset of a link's RSTP (R172). -/
def partCauseOf : Link → ResetCause
  | .A => .partResetA
  | .B => .partResetB

/-- The transmission of the OK reply to the RSTP that made its link RESET_PENDING has ended (R172, log entry 16). -/
def LinkState.endsRstp (x : LinkState) (e : Entry) : Bool :=
  e.isRstpReply && x.session == .resetPending && !x.outbound.any Entry.isRstpReply

/-- The place of a sent entry has freed, and its class is told (R165). -/
def State.placeFreed (s : State) (l : Link) : Entry → State
  | .reply _ _ _ => s.handOff l
  | .hello _ _ _ => s.handOff l
  | .notice _ => s.onLink l LinkState.overflowNotice
  | .data _ _ _ b => (s.freeBuf b).settle l
  | .credit _ _ =>
    match s.activeJob l with
    | none => s
    | some j => s.onLink l (LinkState.pendingCredit j.tag)

/-- The last byte of the frame on the line has been sent (R165, R166). -/
def State.transmissionEnds (s : State) (l : Link) : State :=
  match (s.link l).transmitting, (s.link l).outbound with
  | true, e :: es =>
    let t := s.onLink l (fun x => { x with outbound := es, transmitting := false })
    if (t.link l).endsRstp e then t.partReset (partCauseOf l) else t.placeFreed l e
  | _, _ => s

/-! Commands -/

/-- UNKNOWN_REQUEST: a handed-on request whose code names none is answered so in every session state (R164, R185); a
command with a code that names a request has no effect (log entry 18). -/
def execUnknownRequest (l : Link) (code : Byte) (s : State) : Result :=
  .next (if (s.link l).canHandOn && !knownCode code then event s (fun t => t.refuse l code.toNat .unknownRequest) else s)

/-- A whole frame arrives at the framer at once, unless a BREAK has been detected; a payload over its limit makes the
framer discard the frame (R160, log entry 11). -/
def State.wholeFrame (s : State) (l : Link) (kind tag : Byte) (limit : Nat) (payload : List Byte) : State :=
  if (s.link l).breakDetected then s
  else if limit < payload.length then s.discardFrame l
  else s.frameArrives l kind tag payload

/-- REQ_FRAME_ARRIVES (R163). -/
def execReqFrameArrives (l : Link) (code : Byte) (payload : List Byte) (s : State) : Result :=
  .next (event s (fun t => t.wholeFrame l kindREQ code Config.requestPayloadMax payload))

/-- DAT_FRAME_ARRIVES (R42). -/
def execDatFrameArrives (l : Link) (tag : Byte) (payload : List Byte) (s : State) : Result :=
  .next (event s (fun t => t.wholeFrame l kindDAT tag Config.dataPayloadMax payload))

/-- FRAME_DISCARD (R160, log entry 11). -/
def execFrameDiscard (l : Link) (s : State) : Result :=
  .next (event s (fun t => if (t.link l).breakDetected then t else t.discardFrame l))

/-- GAP_TIMER_EXPIRY (R161). -/
def execGapTimerExpiry (l : Link) (s : State) : Result :=
  .next (event s (fun t => if (t.link l).gapTimer = .stopped then t else t.discardFrame l))

/-- BREAK_DETECTED: a frame in reception is discarded without FRAMING (R159). -/
def execBreakDetected (l : Link) (s : State) : Result :=
  .next (event s (fun t => t.onLink l (fun x => { x.hunt with breakDetected := true })))

/-- BREAK_ENDS: a link reset (R159, R171, log entry 12). -/
def execBreakEnds (l : Link) (s : State) : Result :=
  .next (event s (fun t => (t.onLink l (fun x => { x with breakDetected := false })).linkReset l .linkBreak))

/-- TRANSMISSION_END (R165). -/
def execTransmissionEnd (l : Link) (s : State) : Result := .next (event s (fun t => t.transmissionEnds l))

/-- CHARACTER_RECEIVED (R157, R158, R160). -/
def execCharacterReceived (l : Link) (levels : LineLevels) (s : State) : Result :=
  .next (event s (fun t => t.levelsArrive l levels))

end Sys2Proof.Machine
end

