-- ==== Sys2Proof/Machine/Slots.lean ====
section
/-! DEFINITION. The events of a slot: presence, settling, ramp, trip, write protect (R99 to R122). -/

namespace Sys2Proof.Machine

/-- A change of an input pin: its level changes, and unless NRST holds the part in reset the part takes the event
(R175, log entry 8). -/
def pinEvent (s : State) (pin : State → State) (f : State → State) : State :=
  if s.inReset then pin s else event s (fun t => f (pin t))

/-- A slot goes to SETTLING, its settle timer started (R102). -/
def Slot.settleStart (x : Slot) : Slot := { x with state := .settling, settleTimer := .running Config.settleMs }

/-- PRESs asserts (R102). -/
def State.presAsserted (s : State) (i : SlotId) : State :=
  if (s.slot i).state = .empty then s.onSlot i Slot.settleStart else s

/-- The Ramp Sequencer makes its check where the slot has left RAMPING (R106). -/
def State.rampAfter (s : State) (left : SlotPhase) : State := if left = .ramping then s.rampStep else s

/-- A removal (R104, R124). -/
def State.remove (s : State) (i : SlotId) : State :=
  ((((s.onSlot i (Slot.enter .empty)).leaveSequencers i).raiseBoth (.removed i)).rampAfter (s.slot i).state).abandonTransfer
    i .slotGone

/-- PRESs deasserts (R102, R104). -/
def State.presDeasserted (s : State) (i : SlotId) : State :=
  match (s.slot i).state with
  | .empty => s
  | .settling => s.onSlot i (Slot.enter .empty)
  | .present => s.remove i
  | .queuedForPower => s.remove i
  | .ramping => s.remove i
  | .identifying => s.remove i
  | .ready => s.remove i
  | .draining => s.remove i
  | .faulted => s.remove i

/-- The settle timer expires (R103). -/
def State.settleExpires (s : State) (i : SlotId) : State :=
  let t := (s.onSlot i (Slot.enter .present)).raiseBoth (.inserted i)
  if (s.slot i).autoBringup then (t.queueForPower i).rampStep else t

/-- The ramp timer expires (R106, R107). -/
def State.rampExpires (s : State) (i : SlotId) : State :=
  let t := s.onSlot i (Slot.enter .identifying)
  ({ t with identQueue := t.identQueue ++ [i], ramping := none }).rampStep.identStep

/-- A trip (R117, R124). -/
def State.tripped (s : State) (i : SlotId) : State :=
  ((((s.onSlot i (Slot.fail .overcurrent)).leaveSequencers i).raiseBoth (.fault i)).rampAfter (s.slot i).state).abandonTransfer
    i .slotFault

/-- The WP debouncer after a change of its pin: it measures while the level differs from the accepted state (R122). -/
def Slot.wpMeasure (x : Slot) : Slot :=
  { x with wpDebounce := if x.wpPin = x.wp then .stopped else .running Config.debounceMs }

/-- The accepted WP state changes (R122). -/
def State.wpAccepted (s : State) (i : SlotId) : State :=
  let t := s.onSlot i (fun x => { x with wp := x.wpPin, wpDebounce := .stopped })
  if (s.slot i).state = .empty then t else t.raiseBoth (.wpChanged i)

/-- PRES_ASSERT (R102). -/
def execPresAssert (i : SlotId) (s : State) : Result :=
  .next (pinEvent s (fun t => t.onSlot i (fun x => { x with presPin := true })) (fun t => t.presAsserted i))

/-- PRES_DEASSERT (R102, R104). -/
def execPresDeassert (i : SlotId) (s : State) : Result :=
  .next (pinEvent s (fun t => t.onSlot i (fun x => { x with presPin := false })) (fun t => t.presDeasserted i))

/-- SETTLE_TIMER_EXPIRY (R103). -/
def execSettleTimerExpiry (i : SlotId) (s : State) : Result :=
  .next (event s (fun t => if (t.slot i).settleTimer = .stopped then t else t.settleExpires i))

/-- RAMP_TIMER_EXPIRY (R106). -/
def execRampTimerExpiry (i : SlotId) (s : State) : Result :=
  .next (event s (fun t => if (t.slot i).rampTimer = .stopped then t else t.rampExpires i))

/-- TRIP: an asserted level is a trip while power is on (R99, R117, log entry 9). -/
def execTrip (i : SlotId) (asserted : Bool) (s : State) : Result :=
  .next (pinEvent s (fun t => t.onSlot i (fun x => { x with tripPin := asserted }))
    (fun t => if asserted && (t.slot i).state.powered then t.tripped i else t))

/-- WP_PIN_CHANGE (R122). -/
def execWpPinChange (i : SlotId) (s : State) : Result :=
  .next (pinEvent s (fun t => t.onSlot i (fun x => { x with wpPin := !x.wpPin })) (fun t => t.onSlot i Slot.wpMeasure))

/-- WP_DEBOUNCE_EXPIRY (R122). -/
def execWpDebounceExpiry (i : SlotId) (s : State) : Result :=
  .next (event s (fun t => if (t.slot i).wpDebounce = .stopped then t else t.wpAccepted i))

end Sys2Proof.Machine
end

