-- ==== Sys2Proof/Machine/BusEvents.lean ====
section
/-! DEFINITION. The events of the module bus: grants, responses, the wait time and the watchdog (R129 to R132). -/

namespace Sys2Proof.Machine

/-- The grant outstanding reaches its requester (R129). -/
def State.grantReaches (s : State) : State :=
  match s.bus.state with
  | .free => s
  | .inFlight _ => s
  | .granted (.lane l r w) => s.laneGrant l r w
  | .granted (.identify i) => s.identGrant i

/-- Levels that a module asserts with its response (R131); a late one is known as such until the lines are released
(R132). -/
def Bus.respond (r : Response) (md : Half) (mdp mperr : Bool) (b : Bus) : Bus :=
  { b with
    mack := r.lines != .reject, mrej := r.lines != .ack, md := md, mdp := mdp, mperr := mperr, late := r.late }

/-- A response stands that a word may take: a response to an expired word is not taken for any later one (R132). -/
def Bus.answers (b : Bus) : Bool := (b.mack || b.mrej) && !b.late

/-- A response is taken from the end of the wait time on (R131 steps 3 and 4). -/
def State.responseSeen (s : State) : State :=
  match s.bus.state with
  | .free => s
  | .granted _ => s
  | .inFlight t => if t.phase = .response ∧ s.bus.answers = true then s.takeResponse t else s

/-- The wait time of a word's cycle has ended: a level already asserted is taken at once (R131 step 4). -/
def State.waitEnds (s : State) : State :=
  match s.bus.state with
  | .free => s
  | .granted _ => s
  | .inFlight t =>
    match t.phase with
    | .release => s
    | .response => s
    | .waitTime _ => if s.bus.answers then s.takeResponse t else s.goOn { t with phase := .response }

/-- MACK and MREJ are released: a word that waited for it asserts MSTB (R131 steps 1 and 2). -/
def State.linesReleased (s : State) : State :=
  match s.bus.state with
  | .free => s
  | .granted _ => s
  | .inFlight t => if t.phase = .release then s.goOn { t with phase := .waitTime t.waitNs } else s

/-- The response watchdog of the word expires (R132, R135). -/
def State.watchdogExpires (s : State) : State :=
  match s.bus.state with
  | .free => s
  | .granted _ => s
  | .inFlight t => if t.watchdog = .stopped then s else s.retryOrEnd t .noResponse

/-- GRANT (R129). -/
def execGrant (s : State) : Result := .next (event s State.grantReaches)

/-- WORD_RESPONSE (R131). -/
def execWordResponse (r : Response) (md : Half) (mdp mperr : Bool) (s : State) : Result :=
  .next (pinEvent s (fun t => t.onBus (Bus.respond r md mdp mperr)) State.responseSeen)

/-- RESPONSE_WATCHDOG_EXPIRY (R132). -/
def execResponseWatchdogExpiry (s : State) : Result := .next (event s State.watchdogExpires)

/-- WAIT_TIME_END (R131). -/
def execWaitTimeEnd (s : State) : Result := .next (event s State.waitEnds)

/-- RESPONSE_LINES_RELEASED (R131). -/
def execResponseLinesReleased (s : State) : Result :=
  .next (pinEvent s (fun t => t.onBus (fun b => { b with mack := false, mrej := false, late := false })) State.linesReleased)

end Sys2Proof.Machine
end

