-- ==== Sys2Proof/Machine/JobTimers.lean ====
section
/-! DEFINITION. The expiry of a job's timers (R71, R45). -/

namespace Sys2Proof.Machine

/-- The hold timer of a PAUSED job expires (R71). -/
def State.holdExpires (s : State) (l : Link) : State :=
  match s.activeJob l with
  | none => s
  | some j => if j.state = .paused ∧ j.holdTimer ≠ .stopped then (s.endJob l .holdExpired).settle l else s

/-- The data timer of a WRITE job expires (R45, R21). -/
def State.dataExpires (s : State) (l : Link) : State :=
  match s.activeJob l with
  | none => s
  | some j => if j.dataTimer = .stopped then s else (s.fatalError l .dataTimeout).settle l

/-- HOLD_TIMER_EXPIRY (R71). -/
def execHoldTimerExpiry (l : Link) (s : State) : Result := .next (event s (fun t => t.holdExpires l))

/-- DATA_TIMER_EXPIRY (R45). -/
def execDataTimerExpiry (l : Link) (s : State) : Result := .next (event s (fun t => t.dataExpires l))

end Sys2Proof.Machine
end

