-- ==== Sys2Proof/Machine/Latch.lean ====
section
/-! DEFINITION. The bay latch (R73 to R77). -/

namespace Sys2Proof.Machine

/-- The latch debouncer after a change of its pin (R73). -/
def State.latchMeasure (s : State) : State :=
  { s with latchDebounce := if latchOf s.latchPin = s.latch then .stopped else .running Config.debounceMs }

/-- A latch opening at the active job of a link (R74). -/
def State.latchPause (s : State) (l : Link) : State :=
  match s.activeJob l with
  | none => s
  | some j =>
    match j.state with
    | .queued => s
    | .cancelling => s
    | .running => (s.onJob l (fun j => { j with causeLatch := true })).pauseRunning l
    | .pausing => s.onJob l (fun j => { j with causeLatch := true })
    | .paused => s.onJob l (fun j => { j with causeLatch := true })

/-- LATCH is removed from a PAUSING or PAUSED job, which resumes if no cause remains (R75). -/
def State.latchResume (s : State) (l : Link) (j : Job) : State :=
  let t := s.onJob l (fun j => { j with causeLatch := false })
  if j.causeHost then t else t.resumeJob l

/-- A latch closing at the active job of a link (R75). -/
def State.latchRelease (s : State) (l : Link) : State :=
  match s.activeJob l with
  | none => s
  | some j =>
    match j.state with
    | .queued => s
    | .cancelling => s
    | .running => s
    | .pausing => s.latchResume l j
    | .paused => s.latchResume l j

/-- A latch opening reaches the Job Scheduler (R74). -/
def State.latchOpening (s : State) : State := (({ s with latchHold := true }).latchPause .A).latchPause .B

/-- A latch closing reaches the Job Scheduler, which serves the link given first (R75, log entry 14). -/
def State.latchClosing (s : State) (first : Link) : State :=
  ((({ s with latchHold := false }).latchRelease first).latchRelease first.other).settle first

/-- The condition that a latch report raises (R73). -/
def LatchState.condition : LatchState → Condition
  | .opened => .latchOpen
  | .closed => .latchClosed

/-- The debouncer's report reaches the Job Scheduler (R73). -/
def State.latchReport (s : State) (a : LatchState) (first : Link) : State :=
  match a with
  | .opened => s.latchOpening
  | .closed => s.latchClosing first

/-- A condition raised at link A, at link B, or at both, as an event of its own at each (R142). -/
def State.raiseAt (s : State) (c : Condition) (atA atB : Bool) : State :=
  let t := if atA then s.onLink .A (LinkState.raise c) else s
  if atB then t.onLink .B (LinkState.raise c) else t

/-- The accepted latch state changes, and its report reaches the condition logic of each link and the Job Scheduler as
separate events (R73, R142): at the links that `c` names the condition is raised before the Job Scheduler takes the
report, and at the others after it. R154 leaves the order open at each link by itself, so the model has every order, by
its operands (log entry 14). -/
def State.latchAccepted (s : State) (c : ConditionsFirst) (first : Link) : State :=
  let a := latchOf s.latchPin
  let t := { s with latch := a, latchDebounce := .stopped }
  ((t.raiseAt a.condition c.atA c.atB).latchReport a first).raiseAt a.condition (!c.atA) (!c.atB)

/-- BAYLATCH_PIN_CHANGE (R73). -/
def execBaylatchPinChange (s : State) : Result :=
  .next (pinEvent s (fun t => { t with latchPin := !t.latchPin }) State.latchMeasure)

/-- LATCH_DEBOUNCE_EXPIRY (R73). -/
def execLatchDebounceExpiry (conditionsFirst : ConditionsFirst) (first : Link) (s : State) : Result :=
  .next (event s (fun t => if t.latchDebounce = .stopped then t else t.latchAccepted conditionsFirst first))

end Sys2Proof.Machine
end

