-- ==== Sys2Proof/Machine/Part.lean ====
section
/-! DEFINITION. The power-on reset and NRST (R175). -/

namespace Sys2Proof.Machine

/-- POWER_ON_RESET: NRST is released, or power-up ends, with the straps at these levels (R175, R157). -/
def execPowerOnReset (rate1 rate0 : Bool) (s : State) : Result := .next (s.powerOn rate1 rate0).kick

/-- NRST_ASSERT: NRST is held low (R175, log entry 8). -/
def execNrstAssert (s : State) : Result := .next s.nrstHeld

end Sys2Proof.Machine
end

