-- ==== Sys2Proof/Machine/Pins.lean ====
section
/-! DEFINITION. The output pins, computed from the state (R101, R130, R131, R134, R157, R158). -/

namespace Sys2Proof.Machine

/-- The level of TXDA or TXDB in the bit time `n` of the frame on the line, counted from the start bit of its sync byte:
its characters back to back, and mark behind the last and while there is no frame (R157, R158, R166). -/
def State.txLevel (s : State) (l : Link) (n : Nat) : Bool :=
  match ((lineFrame s l).getD [])[n / 10]? with
  | none => true
  | some b => (serialOf b).getLsbD (n % 10)

/-- A duration in bit times, in ns at the line rate sampled (R157). -/
def State.bitTimesNs (s : State) (n : Nat) : Nat := n * s.rate.bitNs

/-- The bit times of the frame on the line; 0 without one (R157, R158). -/
def State.frameBits (s : State) (l : Link) : Nat := 10 * ((lineFrame s l).getD []).length

/-- PWRENs is high (R101). -/
def State.pwren (s : State) (i : SlotId) : Bool := (s.slot i).state.powered

/-- SELs is high for the slot of the transfer in flight, and low otherwise (R130). -/
def State.sel (s : State) (i : SlotId) : Bool := s.bus.slotInFlight i

/-- MSTB is asserted from the strobe until the response is taken (R131). -/
def WordPhase.strobed : WordPhase → Bool
  | .release => false
  | .waitTime _ => true
  | .response => true

/-- MSTB is asserted (R130, R131). -/
def State.mstb (s : State) : Bool :=
  match s.bus.state with
  | .free => false
  | .granted _ => false
  | .inFlight t => t.phase.strobed

/-- MWR while a transfer is in flight: high for a write word (R131). -/
def Transfer.mwr (t : Transfer) : Bool := t.direction = .write

/-- The 28-bit word address on MAH3..MAH0 and MA23..MA0 (R130). -/
def Transfer.wordAddress (t : Transfer) : BitVec 28 := BitVec.ofNat 28 (t.address / (t.dataWidth / 8) + t.wordIndex)

/-- The data that the part drives for a write word, from the requester's buffer (R134, R36). -/
def State.wordDriven (s : State) (t : Transfer) : Half :=
  match t.buffer with
  | none => 0
  | some b =>
    let m := (s.buffers.get b).bytes
    if t.dataWidth = 16 then m.read t.offset ++ m.read (t.offset + 1) else (m.read t.offset).setWidth 16

/-- MD and MDP as the part drives them: none when it does not (R130, R134). -/
def State.driven (s : State) : Option (Half × Bool) :=
  match s.bus.state with
  | .free => none
  | .granted _ => none
  | .inFlight t =>
    if t.direction = .write then some (s.wordDriven t, parityOf t.dataWidth (s.wordDriven t)) else none

end Sys2Proof.Machine
end

