-- ==== Sys2Proof/Machine/Dispatch.lean ====
section
/-! DEFINITION. The meaning of each command: one arm per row of spec/opcode_table.json. -/

namespace Sys2Proof.Machine

def exec (i : Instr) (s : State) : Host.Outcome State Fault Refusal :=
  match i with
  | .openSession l dataTimeout holdLimit => Sys2Proof.Machine.execOpenSession l dataTimeout holdLimit s
  | .closeSession l => Sys2Proof.Machine.execCloseSession l s
  | .rstl l => Sys2Proof.Machine.execRstl l s
  | .rstp l => Sys2Proof.Machine.execRstp l s
  | .nsub l mask => Sys2Proof.Machine.execNsub l mask s
  | .nack l conditions => Sys2Proof.Machine.execNack l conditions s
  | .nget l => Sys2Proof.Machine.execNget l s
  | .wset l args => Sys2Proof.Machine.execWset l args s
  | .wrel l index => Sys2Proof.Machine.execWrel l index s
  | .wget l index => Sys2Proof.Machine.execWget l index s
  | .spwrOn l slot force => Sys2Proof.Machine.execSpwrOn l slot force s
  | .spwrOff l slot force => Sys2Proof.Machine.execSpwrOff l slot force s
  | .scfg l slot auto => Sys2Proof.Machine.execScfg l slot auto s
  | .sclr l slot => Sys2Proof.Machine.execSclr l slot s
  | .sget l slot => Sys2Proof.Machine.execSget l slot s
  | .jsub l args => Sys2Proof.Machine.execJsub l args s
  | .jpau l tag => Sys2Proof.Machine.execJpau l tag s
  | .jres l tag => Sys2Proof.Machine.execJres l tag s
  | .jcan l tag => Sys2Proof.Machine.execJcan l tag s
  | .jget l tag => Sys2Proof.Machine.execJget l tag s
  | .jlst l => Sys2Proof.Machine.execJlst l s
  | .unknownRequest l code => Sys2Proof.Machine.execUnknownRequest l code s
  | .reqFrameArrives l code payload => Sys2Proof.Machine.execReqFrameArrives l code payload s
  | .datFrameArrives l tag payload => Sys2Proof.Machine.execDatFrameArrives l tag payload s
  | .frameDiscard l => Sys2Proof.Machine.execFrameDiscard l s
  | .gapTimerExpiry l => Sys2Proof.Machine.execGapTimerExpiry l s
  | .breakDetected l => Sys2Proof.Machine.execBreakDetected l s
  | .breakEnds l => Sys2Proof.Machine.execBreakEnds l s
  | .transmissionEnd l => Sys2Proof.Machine.execTransmissionEnd l s
  | .powerOnReset rate1 rate0 => Sys2Proof.Machine.execPowerOnReset rate1 rate0 s
  | .presAssert k => Sys2Proof.Machine.execPresAssert k s
  | .presDeassert k => Sys2Proof.Machine.execPresDeassert k s
  | .settleTimerExpiry k => Sys2Proof.Machine.execSettleTimerExpiry k s
  | .rampTimerExpiry k => Sys2Proof.Machine.execRampTimerExpiry k s
  | .trip k asserted => Sys2Proof.Machine.execTrip k asserted s
  | .wpPinChange k => Sys2Proof.Machine.execWpPinChange k s
  | .wpDebounceExpiry k => Sys2Proof.Machine.execWpDebounceExpiry k s
  | .baylatchPinChange => Sys2Proof.Machine.execBaylatchPinChange s
  | .latchDebounceExpiry conditionsFirst first => Sys2Proof.Machine.execLatchDebounceExpiry conditionsFirst first s
  | .grant => Sys2Proof.Machine.execGrant s
  | .wordResponse r md mdp mperr => Sys2Proof.Machine.execWordResponse r md mdp mperr s
  | .responseWatchdogExpiry => Sys2Proof.Machine.execResponseWatchdogExpiry s
  | .holdTimerExpiry l => Sys2Proof.Machine.execHoldTimerExpiry l s
  | .dataTimerExpiry l => Sys2Proof.Machine.execDataTimerExpiry l s
  | .characterReceived l levels => Sys2Proof.Machine.execCharacterReceived l levels s
  | .nrstAssert => Sys2Proof.Machine.execNrstAssert s
  | .waitTimeEnd => Sys2Proof.Machine.execWaitTimeEnd s
  | .responseLinesReleased => Sys2Proof.Machine.execResponseLinesReleased s

end Sys2Proof.Machine
end

