-- ==== Sys2Proof/Safety.lean ====
section
/-! DEFINITION. The laws of the state that the spec states, as decidable properties, and when a request can be handed on.
Each invariant stands by itself: it says nothing of the queue of commands. -/

namespace Sys2Proof.Machine

/-! Hand-off -/

/-- Link `l` hands a request of an OPEN session on: the part is out of reset and a reply place is free (R164, R165). -/
def State.ready (s : State) (l : Link) : Prop :=
  s.inReset = false ∧ (s.link l).session = .opened ∧ (s.link l).replies < Config.replyPlaces

/-- A reply has joined the outbound queue of link `l`, and idle transmitters have begun; nothing else has changed. -/
def State.answered (s : State) (l : Link) (code : Byte) (r : ReplyCode) (items : List Item) : State :=
  (s.onLink l (fun x => { x with outbound := x.outbound ++ [.reply code r items] })).kick

/-- Link `l` is RUNNING, PAUSING, PAUSED or CANCELLING the job at the head of its live list (R5). -/
def LinkState.working (x : LinkState) (j : Job) : Prop := x.live.head? = some j ∧ j.state ≠ .queued

/-- The slot is in use, in the words of R113: a block transfer of a lane to it is in flight, or the active job of a link
holds a binding that names it with its current generation. -/
def State.inUse (s : State) (i : SlotId) : Prop :=
  (∃ x l, s.bus.state = .inFlight x ∧ x.slot = i ∧ x.requester = .lane l) ∨
  (∃ l j b, (s.link l).working j ∧ (j.bindPrimary = some b ∨ j.bindDestination = some b) ∧ b.slot = i ∧
    b.generation = (s.slot i).generation)

/-- The command that stands for a request handed on; a POWER value that is neither on nor off has none. -/
def Request.command (l : Link) : Request → Option Instr
  | .openSession d h => some (.openSession l d h)
  | .closeSession => some (.closeSession l)
  | .rstl => some (.rstl l)
  | .rstp => some (.rstp l)
  | .nsub m => some (.nsub l m)
  | .nack c => some (.nack l c)
  | .nget => some (.nget l)
  | .wset a => some (.wset l a)
  | .wrel n => some (.wrel l n)
  | .wget n => some (.wget l n)
  | .spwr n p f => if p = 0 then some (.spwrOff l n f) else if p = 1 then some (.spwrOn l n f) else none
  | .scfg n v => some (.scfg l n v)
  | .sclr n => some (.sclr l n)
  | .sget n => some (.sget l n)
  | .jsub a => some (.jsub l a)
  | .jpau t => some (.jpau l t)
  | .jres t => some (.jres l t)
  | .jcan t => some (.jcan l t)
  | .jget t => some (.jget l t)
  | .jlst => some (.jlst l)

/-! Links (R150, R152, R163, R165, R167) -/

/-- The class limits of an outbound queue that entry keeps, the intake's limit and the overflow count's range. -/
def LinkState.withinLimits (x : LinkState) : Bool :=
  decide (x.replies ≤ Config.replyPlaces) && decide (x.creditEntries ≤ 1) && decide (x.notices ≤ Config.noticePlaces) &&
  decide (x.intake.length ≤ Config.intakeMax) && decide (x.overflow ≤ Config.overflowMax)

/-- Both links keep their limits. -/
def State.limitsKept (s : State) : Bool := s.linkA.withinLimits && s.linkB.withinLimits

/-- The overflow count is above 0 only while all 12 notice places are in use (R152). -/
def LinkState.overflowLaw (x : LinkState) : Bool := x.overflow == 0 || x.notices == Config.noticePlaces

/-- What a link holds in CLOSED (R155, R168, R170): no session value, no condition, no job, no outcome. -/
def LinkState.closedLaw (x : LinkState) : Bool :=
  if x.session = .closed then
    x.dataTimeout.isNone && x.holdLimit.isNone && x.conditions == 0 && x.mask == 0 && x.overflow == 0 && x.live.isEmpty &&
      x.history.isEmpty
  else x.dataTimeout.isSome && x.holdLimit.isSome

/-- The gap timer runs exactly inside a frame (R161), and a BREAK detected leaves the framer hunting (R159). -/
def LinkState.framerLaw (x : LinkState) : Bool :=
  match x.framer with
  | .hunt => x.gapTimer == .stopped
  | .inFrame taken => x.gapTimer == .running Config.gapBits && !x.breakDetected && checkFrame taken == .goOn

/-! Jobs (R5 to R7, R14, R40, R58) -/

/-- The pause causes that a state allows (R58). -/
def Job.causesLaw (j : Job) : Bool :=
  match j.state with
  | .queued => !j.causeHost && !j.causeLatch
  | .running => !j.causeHost && !j.causeLatch
  | .cancelling => !j.causeHost && !j.causeLatch
  | .pausing => j.causeHost || j.causeLatch
  | .paused => j.causeHost || j.causeLatch

/-- The live list and the history keep their sizes, only the head is active, and a tag appears once (R5 to R7). -/
def LinkState.listsLaw (x : LinkState) : Bool :=
  decide (x.live.length ≤ Config.liveMax) && decide (x.history.length ≤ Config.historyMax) &&
  x.live.tail.all (fun j => j.state == .queued) && x.live.all Job.causesLaw &&
  decide ((x.live.map Job.tag ++ x.history.map HistoryEntry.tag).Nodup)

/-- Both links keep the laws of their lists. -/
def State.listsKept (s : State) : Bool := s.linkA.listsLaw && s.linkB.listsLaw

/-- The timers of a job follow its state (R45, R70), and credits are few and of an active WRITE alone (R4, R40). -/
def Job.timersLaw (j : Job) : Bool :=
  (j.dataTimer != .stopped) == j.dataTimed && (j.holdTimer == .stopped || (j.state == .paused && j.causeHost)) &&
  decide (j.credits ≤ Config.creditMax) && (j.credits == 0 || (j.kind == .write && j.state != .queued))

/-- The position is that of the job block `k` in the list (R13). -/
def Position.standsAt (segs : List Segment) (p : Position) (k : Nat) : Bool :=
  segs[p.segment]?.any (fun g => decide (p.block < g.blocks)) &&
  ((segs.take p.segment).map Segment.blocks).sum + p.block == k

/-- A live job stands at a block of its lists, the same in both lists of a COPY, and no list is longer than R2 allows (R1,
R2, R13). -/
def Job.placeLaw (j : Job) : Bool :=
  decide (j.primary.length ≤ Config.segmentsMax) && decide (j.destination.length ≤ Config.segmentsMax) &&
  (j.primary ++ j.destination).all (fun g => decide (1 ≤ g.blocks)) && j.total == totalBlocks j.primary &&
  j.posPrimary.standsAt j.primary j.nextBlock &&
  (if j.kind = .copy then
    totalBlocks j.destination == j.total && j.posDestination.standsAt j.destination j.nextBlock
  else j.destination.isEmpty)

/-- Every live job of both links stands at one of its blocks. -/
def State.placesKept (s : State) : Bool := s.linkA.live.all Job.placeLaw && s.linkB.live.all Job.placeLaw

/-- The block at the position is the last of its segment (R13). -/
def Position.atEnd (segs : List Segment) (p : Position) : Bool :=
  segs[p.segment]?.any (fun g => decide (g.blocks ≤ p.block + 1))

/-- The position behind a completed block: the next block of the segment, or the first of the next segment (R13, R14). -/
def Position.passed (segs : List Segment) (p : Position) : Position :=
  if p.atEnd segs then ⟨p.segment + 1, 0, 0⟩ else ⟨p.segment, p.block + 1, p.done + 1⟩

/-- The job behind a completed block (R13, R14, R16): a binding goes with the segment that is left. -/
def Job.passed (j : Job) : Job :=
  { j with
    nextBlock := j.nextBlock + 1
    completed := j.completed + 1
    posPrimary := j.posPrimary.passed j.primary
    bindPrimary := if j.posPrimary.atEnd j.primary then none else j.bindPrimary
    posDestination := if j.kind = .copy then j.posDestination.passed j.destination else j.posDestination
    bindDestination :=
      if j.kind = .copy ∧ j.posDestination.atEnd j.destination = true then none else j.bindDestination }

/-- A lane is BUSY exactly while its link has an active job (R11). -/
def LinkState.laneLaw (x : LinkState) : Bool := (x.lane.state == .busy) == x.activeJob.isSome

/-! Buffers (R32, R33, R39, R40) -/

/-- Neither lane holds more than 8 buffers (R32). -/
def State.poolKept (s : State) : Bool :=
  decide (s.heldCount .A ≤ Config.laneCap) && decide (s.heldCount .B ≤ Config.laneCap)

/-- The wait list holds each lane at most once, and a buffer is FREE only while it is empty (R33). -/
def State.waitLaw (s : State) : Bool :=
  decide s.waitList.Nodup && (s.waitList.isEmpty || s.freeBuffer?.isNone)

/-- Every DATA entry refers to an OUTBOUND buffer of its link's lane (R39). -/
def State.dataLaw (s : State) (l : Link) : Bool :=
  ((s.link l).outbound.filterMap Entry.buffer?).all (fun b => (s.useOf l b).any BufferUse.isOutbound) &&
  decide ((s.link l).outbound.filterMap Entry.buffer?).Nodup &&
  decide ((s.link l).dataEntries ≤ Config.dataPlaces)

/-- The number of RESERVED buffers equals the credits outstanding (R40), but for a STOPPING lane, which may hold those of
a job that a teardown has removed (R55). -/
def State.creditLaw (s : State) (l : Link) : Bool :=
  (s.link l).lane.state == .stopping ||
  (s.allUses l BufferUse.isReserved).length == (match s.activeJob l with
    | none => 0
    | some j => j.credits)

/-- The job is an active WRITE. -/
def Job.writes (j : Job) : Bool := j.kind == .write && j.state != .queued

/-- An entry, if it is a CREDIT, bears the tag of the active WRITE job (R41). -/
def LinkState.ownsCredit (x : LinkState) : Entry → Bool
  | .credit tag _ => x.live.head?.any (fun j => j.writes && j.tag == tag)
  | .reply _ _ _ => true
  | .hello _ _ _ => true
  | .notice _ => true
  | .data _ _ _ _ => true

/-- The credit place holds one CREDIT at most; one that waits is the active WRITE job's, and credits are pending only
for such a job and behind a CREDIT in transmission (R41). -/
def LinkState.creditPlaceLaw (x : LinkState) : Bool :=
  decide (x.creditEntries ≤ 1) && x.waiting.all x.ownsCredit &&
  (x.lane.pendingCredits == 0 || (x.live.head?.any Job.writes && x.sending.any Entry.isCredit))

/-- The laws of a lane and its jobs, taken together: the live list, the session, the lane's state, the jobs' timers and
credits, the DATA entries with their buffers, the RESERVED buffers, and the credit place. -/
def State.laneKept (s : State) (l : Link) : Bool :=
  (s.link l).listsLaw && (s.link l).closedLaw && (s.link l).laneLaw && (s.link l).live.all Job.timersLaw && s.dataLaw l &&
  s.creditLaw l && (s.link l).creditPlaceLaw

/-- Both lanes keep their laws, and neither holds more than 8 buffers (R32). -/
def State.lanesKept (s : State) : Bool := s.laneKept .A && s.laneKept .B && s.poolKept

/-- Every memory of the part is in canonical form. -/
def State.memoriesKept (s : State) : Bool :=
  s.buffers.toList.all (fun b => b.bytes.wf) && s.identStore.wf

/-! Windows (R78) -/

/-- A window is enabled only while its owner's session is open (R78). -/
def State.windowsKept (s : State) : Bool :=
  s.enabledWindows.all (fun w => (s.link w.owner).session != .closed)

/-! Slots (R100, R101, R102, R105 to R107, R126, R136) -/

/-- What a slot record holds in its state (R100, R101), and its timers (R102, R106). -/
def Slot.law (x : Slot) : Bool :=
  (x.faultKind.isSome == (x.state == .faulted)) && (x.identity.isSome == (x.state == .ready || x.state == .draining)) &&
  ((x.settleTimer != .stopped) == (x.state == .settling)) && ((x.rampTimer != .stopped) == (x.state == .ramping)) &&
  decide (x.noResponse ≤ Config.noResponseMax) &&
  ((x.state == .ready || x.state == .draining) → x.noResponse < Config.noResponseMax)

/-- A transfer in flight goes to a slot in the state that R126 gives. -/
def State.flightLaw (s : State) : Bool :=
  match s.bus.state with
  | .free => true
  | .granted _ => true
  | .inFlight t =>
    match t.requester with
    | .lane _ => (s.slot t.slot).state == .ready || (s.slot t.slot).state == .draining
    | .identify => (s.slot t.slot).state == .identifying

/-- The slot records and the transfer in flight keep their laws. -/
def State.slotsKept (s : State) : Bool := s.slots.toList.all Slot.law && s.flightLaw

/-- The power wait list and the identify queue hold each slot at most once and only slots in their state, and the Ramp
Sequencer holds exactly the slot that is RAMPING (R105 to R107). -/
def State.sequencersLaw (s : State) : Bool :=
  decide s.powerWait.Nodup && decide s.identQueue.Nodup &&
  (List.finRange 4).all (fun i =>
    (decide (i ∈ s.powerWait) == ((s.slot i).state == .queuedForPower)) &&
    (decide (i ∈ s.identQueue) == ((s.slot i).state == .identifying)) &&
    ((s.ramping == some i) == ((s.slot i).state == .ramping)))

/-- The latch hold is active exactly while the accepted latch state is OPEN (R74, R75, R77). -/
def State.latchLaw (s : State) : Bool := s.latchHold == (s.latch == .opened)

/-- A bus that is FREE has no request waiting (R128). -/
def State.arbiterLaw (s : State) : Bool :=
  match s.bus.state with
  | .free => s.bus.requestA.isNone && s.bus.requestB.isNone && s.bus.requestIdentify.isNone
  | .granted _ => true
  | .inFlight _ => true

end Sys2Proof.Machine
end

