-- ==== Sys2Proof/Certificates/Slice0/Obligations.lean ====
section
/-! DEFINITION. The statements for the provers. A state in them is any state, reachable or not, that meets the premises
written out. -/

section Slice0Obligations

open Sys2Proof Sys2Proof.Machine

/-! ## The queue, the step and the outcomes -/

/-- The model's queue (log entry 4): a step takes the command at its front and runs it on the state with the rest. -/
def Obligations.StepTakesTheFrontCommand : Prop :=
  ∀ (c : Instr) (rest : List Instr) (s : State), s.pending = c :: rest → step s = exec c { s with pending := rest }

/-- No command stops the part, and none touches the model's queue (log entries 4 and 5). -/
def Obligations.EveryCommandGoesOnAndLeavesTheQueue : Prop :=
  ∀ (c : Instr) (s : State), ∃ t, exec c s = .next t ∧ t.pending = s.pending

/-! ## Laws that every step keeps -/

/-- The reset state meets each law below. That every pin is open and that the memories list nothing at reset are the
model's choices (log entries 1 to 3). -/
def Obligations.ResetMeetsEveryLaw : Prop :=
  State.reset.limitsKept = true ∧ State.reset.windowsKept = true ∧ State.reset.linkA.closedLaw = true ∧
    State.reset.linkB.closedLaw = true ∧ State.reset.listsKept = true ∧
    State.reset.slotsKept = true ∧ State.reset.sequencersLaw = true ∧ State.reset.memoriesKept = true ∧
    State.reset.poolKept = true ∧ State.reset.waitLaw = true ∧ State.reset.lanesKept = true ∧
    State.reset.placesKept = true ∧ State.reset.latchLaw = true ∧ State.reset.arbiterLaw = true ∧
    State.reset.linkA.framerLaw = true ∧ State.reset.linkB.framerLaw = true ∧
    State.reset.linkA.overflowLaw = true ∧ State.reset.linkB.overflowLaw = true

/-- R150 to R152, R163, R165: no step fills a class of an outbound queue, or an intake, past its places, and the overflow
count is above 0 only while all notice places are in use. The data class stands with its lane's buffers, in
`EveryStepKeepsTheLanes`. -/
def Obligations.EveryStepKeepsTheQueueLimits : Prop :=
  ∀ s t : State, s.limitsKept = true → step s = .next t → t.limitsKept = true ∧
    (s.linkA.overflowLaw = true → s.linkB.overflowLaw = true → s.linkA.closedLaw = true → s.linkB.closedLaw = true →
      t.linkA.overflowLaw = true ∧ t.linkB.overflowLaw = true)

/-- R78, R155, R168, R170: after every step a window is enabled only while its owner's session is open, and a link that
is CLOSED holds no session value, no condition, no job and no outcome. -/
def Obligations.EveryStepKeepsTheSessionLaws : Prop :=
  ∀ s t : State, step s = .next t →
    (s.windowsKept = true → t.windowsKept = true) ∧
    (s.linkA.closedLaw = true → s.linkB.closedLaw = true → t.linkA.closedLaw = true ∧ t.linkB.closedLaw = true)

/-- R2, R5, R6, R7, R13, R58: after every step a live list holds at most 8 jobs of which only the head may be active, a
history at most 8 outcomes, a tag appears once in both together, and a job has the pause causes its state allows; and a
live job stands at one of its blocks, the same in both lists of a COPY, its lists of at most 16 segments each. -/
def Obligations.EveryStepKeepsTheJobLists : Prop :=
  ∀ s t : State, step s = .next t →
    (s.listsKept = true → t.listsKept = true) ∧ (s.placesKept = true → t.placesKept = true)

/-- R100, R101, R105 to R107, R126, R136: after every step each slot record holds what its state gives, the three
sequencers hold exactly the slots of their states, and a transfer in flight goes to a slot in the state R126 gives. -/
def Obligations.EveryStepKeepsTheSlots : Prop :=
  ∀ s t : State, s.slotsKept = true → s.sequencersLaw = true → step s = .next t →
    t.slotsKept = true ∧ t.sequencersLaw = true

/-- The model's own law of its memories (log entry 2): every step keeps their canonical form. -/
def Obligations.EveryStepKeepsTheMemoriesCanonical : Prop :=
  ∀ s t : State, s.memoriesKept = true → step s = .next t → t.memoriesKept = true

/-- R32, R33: no step gives a lane more than 8 buffers, and a buffer is FREE only while no lane waits for one. -/
def Obligations.EveryStepKeepsThePool : Prop :=
  ∀ s t : State, s.poolKept = true → s.waitLaw = true → step s = .next t → t.poolKept = true ∧ t.waitLaw = true

/-- R5 to R7, R11, R32, R39 to R41, R45, R70, R155, R165: every step keeps the laws of both lanes together. A lane is BUSY
exactly while it has an active job; the timers and the credits of a job are those its state allows; each DATA entry refers
to an OUTBOUND buffer of its own, so that no more than 8 stand in a queue; the credits outstanding are backed by RESERVED
buffers; and a CREDIT that waits is the active WRITE job's. -/
def Obligations.EveryStepKeepsTheLanes : Prop :=
  ∀ s t : State, s.lanesKept = true → step s = .next t → t.lanesKept = true ∧ ∀ l, (t.link l).dataEntries ≤ 8

/-- R74, R75, R77, R128, R159, R161: after every step the latch hold is active exactly while the latch is OPEN, a bus that
is FREE has no request waiting, and the gap timer of a link runs exactly while its framer is inside a frame. -/
def Obligations.EveryStepKeepsTheLatchTheArbiterAndTheFramers : Prop :=
  ∀ s t : State, step s = .next t →
    (s.latchLaw = true → t.latchLaw = true) ∧ (s.arbiterLaw = true → t.arbiterLaw = true) ∧
    ∀ l, (s.link l).framerLaw = true → (t.link l).framerLaw = true

/-! ## Requests as frames -/

/-- R180, R181, R184, R185: which payloads pass the format checks, and what they read as. The table gives for each request
code its required and its optional keys, each with its length. A payload passes exactly if it is a run of items of those
keys and lengths, with every required key and with no key twice but the lists SEGMENT and DEST_SEGMENT. The payload that a
host builds for a well-formed request reads back as that request, in whatever order its items stand, those of a list in
theirs. -/
def Obligations.RequestPayloadsReadBack : Prop :=
  (∀ (code : Nat) (required optional : List (Nat × Nat)),
    (code, required, optional) ∈ ([(0x10, [], [(0x02, 2), (0x03, 2)]), (0x11, [], []), (0x12, [], []), (0x13, [], []),
      (0x20, [(0x0D, 4)], []), (0x21, [(0x0C, 4)], []), (0x22, [], []),
      (0x30, [(0x10, 1), (0x12, 4), (0x13, 1), (0x14, 1), (0x15, 4)],
        [(0x16, 1), (0x17, 1), (0x18, 1), (0x19, 2), (0x1A, 1)]),
      (0x31, [(0x10, 1)], []), (0x32, [(0x10, 1)], []), (0x40, [(0x14, 1), (0x20, 1)], [(0x21, 0)]),
      (0x41, [(0x14, 1), (0x22, 1)], []), (0x42, [(0x14, 1)], []), (0x43, [(0x14, 1)], []),
      (0x50, [(0x40, 1), (0x41, 1), (0x42, 2)], [(0x43, 1), (0x44, 2), (0x45, 6), (0x46, 6)]),
      (0x51, [(0x40, 1)], []), (0x52, [(0x40, 1)], []), (0x53, [(0x40, 1)], []), (0x54, [(0x40, 1)], []),
      (0x55, [], [])] : List (Nat × List (Nat × Nat) × List (Nat × Nat))) →
    ∀ payload : List Byte, parseRequest code payload ≠ none ↔
      ∃ items : List (Byte × List Byte),
        payload = items.flatMap (fun i => i.1 :: BitVec.ofNat 8 i.2.length :: i.2) ∧
        (∀ i ∈ items, (i.1.toNat, i.2.length) ∈ required ++ optional) ∧
        (∀ k ∈ required, ∃ i ∈ items, i.1.toNat = k.1) ∧
        (∀ k ∈ required ++ optional, k.1 ≠ 0x45 → k.1 ≠ 0x46 → (items.filter (fun i => i.1.toNat = k.1)).length ≤ 1)) ∧
  (∀ r : Request, r.wellFormed = true → parseRequest r.code r.payload = some r ∧
    ∀ items : List RawItem, items.Perm r.items →
      (∀ key ∈ [0x45, 0x46], items.filter (fun i => i.key = key) = r.items.filter (fun i => i.key = key)) →
      parseRequest r.code (items.flatMap (fun i => itemBytes i.key i.value)) = some r)

/-- R162 to R164: a request frame that arrives at a link with an empty intake and a free reply place does what the
command of its request does. -/
def Obligations.RequestFramesActAsTheirCommands : Prop :=
  ∀ (l : Link) (r : Request) (c : Instr) (s : State), r.wellFormed = true → r.command l = some c →
    s.inReset = false → (s.link l).session ≠ .resetPending → (s.link l).replies < Config.replyPlaces →
    (s.link l).intake = [] → (s.link l).breakDetected = false → (s.link l).framer = .hunt →
    (s.link l).gapTimer = .stopped →
    exec (.reqFrameArrives l (BitVec.ofNat 8 r.code) r.payload) s = exec c s

/-- R157, R158, R160, R162, R178, R179: a byte's character is a start bit at space, the 8 data bits with the least
significant first, and a stop bit at mark; the characters of a whole frame, received one after another, do what the arrival
of that frame at once does. -/
def Obligations.ReceivedBytesActAsTheirFrame : Prop :=
  (∀ (b : Byte) (levels : LineLevels), levels = serialOf b ↔
    (levels.getLsbD 0 = false ∧ (∀ i, i < 8 → levels.getLsbD (i + 1) = b.getLsbD i) ∧ levels.getLsbD 9 = true)) ∧
  ∀ (l : Link) (tag : Byte) (payload : List Byte) (s : State),
    s.inReset = false → (s.link l).breakDetected = false → (s.link l).framer = .hunt → (s.link l).gapTimer = .stopped →
    s.kick = s →
    (payload.length ≤ 512 → s.pending = (frameBytes 0x01 tag payload).map (fun b => .characterReceived l (serialOf b)) →
      Host.Core.run Sys2Proof.core (payload.length + 7) s = exec (.reqFrameArrives l tag payload) { s with pending := [] }) ∧
    (payload.length ≤ 2050 → s.pending = (frameBytes 0x04 tag payload).map (fun b => .characterReceived l (serialOf b)) →
      Host.Core.run Sys2Proof.core (payload.length + 7) s = exec (.datFrameArrives l tag payload) { s with pending := [] })

/-! ## Sessions and resets -/

/-- R168: OPEN. In OPEN it is refused SESSION_OPEN whatever its items; in CLOSED a value out of range is refused BAD_PARAM,
and values in their ranges open a session. -/
def Obligations.OpenIsDecided : Prop :=
  ∀ (l : Link) (dataTimeout holdLimit : Option Nat) (s : State),
    s.inReset = false → (s.link l).replies < Config.replyPlaces →
    ((s.link l).session = .opened →
      exec (.openSession l dataTimeout holdLimit) s = .next (s.answered l 0x10 .sessionOpen [])) ∧
    ((s.link l).session = .closed →
      (dataTimeout.getD 1000 < 10 ∨ 10000 < dataTimeout.getD 1000 ∨ 600 < holdLimit.getD 0) →
      exec (.openSession l dataTimeout holdLimit) s = .next (s.answered l 0x10 .badParam [])) ∧
    ((s.link l).session = .closed →
      10 ≤ dataTimeout.getD 1000 → dataTimeout.getD 1000 ≤ 10000 → holdLimit.getD 0 ≤ 600 →
      ∃ t, exec (.openSession l dataTimeout holdLimit) s = .next t ∧
        t.link l = { s.link l with
          session := .opened
          dataTimeout := some (dataTimeout.getD 1000)
          holdLimit := some (holdLimit.getD 0)
          conditions := 0
          mask := 0
          overflow := 0
          live := []
          history := []
          transmitting := true
          outbound := (s.link l).outbound ++ [.reply 0x10 .ok
            [.link l, .dataTimeout (dataTimeout.getD 1000), .holdLimit (holdLimit.getD 0), .capacity, .latch s.latch,
              .slotSummary 0 (s.slot 0).state, .slotSummary 1 (s.slot 1).state, .slotSummary 2 (s.slot 2).state,
              .slotSummary 3 (s.slot 3).state]] } ∧
        (∀ i : Fin 8, t.windows.get i = match s.windows.get i with
          | none => none
          | some w => if w.owner = l then none else some w) ∧
        t.link l.other = (s.link l.other).kick ∧ t.slots = s.slots ∧ t.bus = s.bus ∧ t.buffers = s.buffers ∧
        t.waitList = s.waitList ∧ t.latch = s.latch ∧ t.latchHold = s.latchHold)

/-- R169, R170, R30, R55, R97: CLOSE tears the session down and replies OK behind the frame on the line. The lane is
STOPPING if a block transfer of its job is in flight or it was STOPPING already, and else IDLE; its wait for a buffer and
its request are withdrawn; its buffers go, but those of a lane that is STOPPING and that of the frame on the line. Slots,
latch, and the other link's session, requests, conditions and subscription are not touched, and of the windows only this
link's go. -/
def Obligations.CloseTearsTheSessionDown : Prop :=
  ∀ (l : Link) (s : State), s.ready l →
    ∃ t, exec (.closeSession l) s = .next t ∧
      (t.link l).session = .closed ∧ (t.link l).dataTimeout = none ∧ (t.link l).holdLimit = none ∧
      (t.link l).intake = [] ∧ (t.link l).conditions = 0 ∧ (t.link l).mask = 0 ∧ (t.link l).overflow = 0 ∧
      (t.link l).live = [] ∧ (t.link l).history = [] ∧ (t.link l).framer = (s.link l).framer ∧
      (t.link l).lane = ⟨if (s.link l).lane.state = .stopping ∨
        ((s.link l).lane.state = .busy ∧ s.bus.laneInFlight l = true) then .stopping else .idle, 0, 0⟩ ∧
      (∀ b, t.useOf l b = (if b ∈ (s.link l).waiting.filterMap Entry.buffer? then none else (s.useOf l b).filter
        (fun u => u.isOutbound || (t.link l).lane.state == .stopping))) ∧
      l ∉ t.waitList ∧ t.bus.request l = none ∧ (∀ x, s.bus.state = .inFlight x → t.bus.state = .inFlight x) ∧
      (∀ r withdrawn, s.bus.state = .granted (.lane l r withdrawn) → t.bus.state = .granted (.lane l r true)) ∧
      (t.link l).outbound = (s.link l).sending ++ [.reply 0x11 .ok []] ∧
      (∀ i : Fin 8, t.windows.get i = match s.windows.get i with
        | none => none
        | some w => if w.owner = l then none else some w) ∧
      t.slots = s.slots ∧ t.latch = s.latch ∧ t.latchHold = s.latchHold ∧ t.rate = s.rate ∧
      (t.link l.other).session = (s.link l.other).session ∧ (t.link l.other).intake = (s.link l.other).intake ∧
      (t.link l.other).conditions = (s.link l.other).conditions ∧ (t.link l.other).mask = (s.link l.other).mask

/-- R159, R171, R176, R30, R55: a link reset, on RSTL and at the end of a BREAK. A session is torn down; in CLOSED the
intake and the queue are emptied, and the buffers of the DATA entries removed go. The frame on the line stays, and a HELLO
with the cause stands behind it. That BREAK_ENDS takes the link reset where no BREAK was detected too is the model's choice
(log entry 12). -/
def Obligations.LinkResetAnnouncesItself : Prop :=
  ∀ (l : Link) (c : Instr) (cause : ResetCause) (s : State), s.inReset = false → (s.link l).closedLaw = true →
    ((c = .rstl l ∧ cause = .linkRequest ∧ (s.link l).session ≠ .resetPending ∧
        (s.link l).replies < Config.replyPlaces) ∨
      (c = .breakEnds l ∧ cause = .linkBreak)) →
    ∃ t, exec c s = .next t ∧
      (t.link l).session = .closed ∧ (t.link l).framer = .hunt ∧ (t.link l).gapTimer = .stopped ∧
      (t.link l).intake = [] ∧ (t.link l).outbound = (s.link l).sending ++ [.hello cause s.latch s.presence] ∧
      t.slots = s.slots ∧ t.latch = s.latch ∧ t.latchHold = s.latchHold ∧ t.rate = s.rate ∧
      (c = .breakEnds l → (t.link l).breakDetected = false) ∧
      (t.link l.other).session = (s.link l.other).session ∧ (t.link l.other).intake = (s.link l.other).intake ∧
      (t.link l.other).conditions = (s.link l.other).conditions ∧ (t.link l.other).mask = (s.link l.other).mask ∧
      ((s.link l).session ≠ .closed →
        (t.link l).dataTimeout = none ∧ (t.link l).holdLimit = none ∧ (t.link l).conditions = 0 ∧
        (t.link l).mask = 0 ∧ (t.link l).overflow = 0 ∧ (t.link l).live = [] ∧ (t.link l).history = [] ∧
        (∀ i : Fin 8, t.windows.get i = match s.windows.get i with
          | none => none
          | some w => if w.owner = l then none else some w) ∧
        (t.link l).lane = ⟨if (s.link l).lane.state = .stopping ∨
          ((s.link l).lane.state = .busy ∧ s.bus.laneInFlight l = true) then .stopping else .idle, 0, 0⟩ ∧
        (∀ b, t.useOf l b = (if b ∈ (s.link l).waiting.filterMap Entry.buffer? then none else (s.useOf l b).filter
          (fun u => u.isOutbound || (t.link l).lane.state == .stopping))) ∧
        l ∉ t.waitList ∧ t.bus.request l = none ∧ (∀ x, s.bus.state = .inFlight x → t.bus.state = .inFlight x) ∧
        (∀ r withdrawn, s.bus.state = .granted (.lane l r withdrawn) → t.bus.state = .granted (.lane l r true))) ∧
      ((s.link l).session = .closed → t.windows = s.windows ∧ (t.link l).lane = (s.link l).lane ∧
        ∀ b, t.useOf l b = if b ∈ (s.link l).waiting.filterMap Entry.buffer? then none else s.useOf l b)

/-- R172, R173, R176, R125, R141, R77, R32, R56: RSTP in OPEN is answered OK, the session enters RESET_PENDING and the
intake is emptied. The end of the RSTP reply of a RESET_PENDING link takes the part reset: every block at its reset value
with the pins sampled, every buffer FREE but that of a DATA frame on the other line, and on each link a HELLO behind the
frame still on the line. -/
def Obligations.RstpEndsInAPartReset : Prop :=
  ∀ (l : Link) (s : State),
    (s.ready l → exec (.rstp l) s = .next (s.onLink l (fun x =>
      { x with session := .resetPending, intake := [], outbound := x.outbound ++ [.reply 0x13 .ok []] })).kick) ∧
    (∀ (items : List Item) (es : List Entry),
      s.inReset = false → (s.link l).transmitting = true →
      (s.link l).outbound = .reply 0x13 .ok items :: es → (∀ e ∈ es, e.isRstpReply = false) →
      (s.link l).session = .resetPending →
      ∃ t cause, exec (.transmissionEnd l) s = .next t ∧ cause = (if l = .A then .partResetA else .partResetB) ∧
        (∀ m, (t.link m).session = .closed ∧ (t.link m).dataTimeout = none ∧ (t.link m).holdLimit = none ∧
          (t.link m).framer = .hunt ∧ (t.link m).intake = [] ∧ (t.link m).conditions = 0 ∧ (t.link m).mask = 0 ∧
          (t.link m).overflow = 0 ∧ (t.link m).live = [] ∧ (t.link m).history = [] ∧ (t.link m).lane = ⟨.idle, 0, 0⟩) ∧
        (t.link l).outbound = [.hello cause (latchOf s.latchPin) s.presence] ∧
        (t.link l.other).outbound = (s.link l.other).sending ++ [.hello cause (latchOf s.latchPin) s.presence] ∧
        t.latch = latchOf s.latchPin ∧ t.latchHold = !s.latchPin ∧ t.rate = s.rate ∧ (∀ i, t.windows.get i = none) ∧
        t.powerWait = [] ∧ t.ramping = none ∧ t.identQueue = [] ∧ t.waitList = [] ∧ t.bus.state = .free ∧
        t.bus.requestA = none ∧ t.bus.requestB = none ∧ t.bus.requestIdentify = none ∧ t.bus.pointer = .A ∧
        (∀ i, (t.slot i).state = (if (s.slot i).presPin then .settling else .empty) ∧ (t.slot i).generation = 0 ∧
          (t.slot i).autoBringup = true ∧ (t.slot i).wp = (s.slot i).wpPin ∧ (t.slot i).identity = none ∧
          (t.slot i).faultKind = none ∧ (t.slot i).noResponse = 0 ∧
          (t.slot i).settleTimer = (if (s.slot i).presPin then .running 100 else .stopped)) ∧
        (∀ b, t.buffers.get b = if b ∈ (s.link l.other).sending.filterMap Entry.buffer? then s.buffers.get b
          else ⟨.free, (s.buffers.get b).bytes⟩))

/-- R175, R157, R176, R125, R141, R32: a power-on reset, from whatever state. -/
def Obligations.PowerOnResetGivesResetValues : Prop :=
  ∀ (rate1 rate0 : Bool) (s : State),
    ∃ t, exec (.powerOnReset rate1 rate0) s = .next t ∧ t.inReset = false ∧
      t.rate = (if rate1 then (if rate0 then .mbit8 else .mbit4) else (if rate0 then .mbit2 else .mbit1)) ∧
      (∀ n, t.bitTimesNs n =
        n * (if rate1 then (if rate0 then 125 else 250) else (if rate0 then 500 else 1000))) ∧
      (∀ m, t.link m = { LinkState.reset with
        outbound := [.hello .powerOn (latchOf s.latchPin) s.presence], transmitting := true }) ∧
      t.latch = latchOf s.latchPin ∧ t.latchHold = !s.latchPin ∧ t.latchDebounce = .stopped ∧
      (∀ i, t.windows.get i = none) ∧ (∀ b, (t.buffers.get b).holder = .free) ∧ t.waitList = [] ∧
      t.powerWait = [] ∧ t.ramping = none ∧ t.identQueue = [] ∧ t.bus.state = .free ∧ t.bus.requestA = none ∧
      t.bus.requestB = none ∧ t.bus.requestIdentify = none ∧ t.bus.pointer = .A ∧
      (∀ i, (t.slot i).state = (if (s.slot i).presPin then .settling else .empty) ∧ (t.slot i).generation = 0 ∧
        (t.slot i).autoBringup = true ∧ (t.slot i).wp = (s.slot i).wpPin ∧ (t.slot i).identity = none ∧
        (t.slot i).faultKind = none ∧ (t.slot i).noResponse = 0)

/-- R175, R101, R130: while NRST is low both transmit lines are at mark, no slot is powered or selected, and MSTB is low.
That the part then takes nothing but the levels of its input pins and the power-on reset is the model's choice (log
entry 8). -/
def Obligations.NrstHoldsThePart : Prop :=
  (∀ s : State, ∃ t, exec .nrstAssert s = .next t ∧ t.inReset = true ∧ (∀ m n, lineFrame t m = none ∧ t.txLevel m n = true) ∧
    (∀ i, t.pwren i = false ∧ t.sel i = false) ∧ t.mstb = false ∧ t.driven = none) ∧
  (∀ (c : Instr) (s t : State), s.inReset = true → exec c s = .next t →
    (∃ r1 r0, c = .powerOnReset r1 r0) ∨ c = .nrstAssert ∨
      (t.inReset = true ∧ t.linkA = s.linkA ∧ t.linkB = s.linkB ∧ t.buffers = s.buffers ∧ t.windows = s.windows ∧
        t.latch = s.latch ∧ t.bus.state = s.bus.state ∧ ∀ i, (t.slot i).state = (s.slot i).state))

/-! ## Conditions -/

/-- R147 to R149, whole. NSUB with a mask outside the 25 conditions is refused; otherwise the mask is replaced, the reply
carries it, and the newly subscribed raised conditions are announced together: in a notice behind the reply (or dropped,
where the notice class is full), or merged into a CONDITION notice that waits already. NACK clears the named conditions and
replies with the raised set that is left. NGET replies with the raised set, the mask, the overflow count and the latch
state, and changes no state. -/
def Obligations.NsubNackAndNgetServeTheConditions : Prop :=
  ∀ (l : Link) (s : State), s.ready l →
    (∀ w : Word,
      (w >>> 25 ≠ 0 → exec (.nsub l w) s = .next (s.answered l 0x20 .badParam [])) ∧
      (w >>> 25 = 0 → ∃ t set, exec (.nsub l w) s = .next t ∧
        set = w.setWidth 25 &&& ~~~(s.link l).mask &&& (s.link l).conditions ∧
        (t.link l).mask = w.setWidth 25 ∧ (t.link l).conditions = (s.link l).conditions ∧
        (t.link l).live = (s.link l).live ∧ (t.link l).session = .opened ∧ t.link l.other = (s.link l.other).kick ∧
        t.slots = s.slots ∧ t.windows = s.windows ∧
        (set = 0 → (t.link l).outbound = (s.link l).outbound ++ [.reply 0x20 .ok [.mask (w.setWidth 25)]]) ∧
        (set ≠ 0 → (∀ c, .notice (.condition c) ∉ (s.link l).waiting) → (s.link l).notices < Config.noticePlaces →
          (t.link l).outbound = (s.link l).outbound ++
            [.reply 0x20 .ok [.mask (w.setWidth 25)], .notice (.condition set)]) ∧
        (set ≠ 0 → (∀ c, .notice (.condition c) ∉ (s.link l).waiting) → Config.noticePlaces ≤ (s.link l).notices →
          (t.link l).outbound = (s.link l).outbound ++ [.reply 0x20 .ok [.mask (w.setWidth 25)]] ∧
          (t.link l).overflow = min 255 ((s.link l).overflow + 1)) ∧
        (set ≠ 0 → ∀ (es : List Entry) (old : BitVec 25) (fs : List Entry),
          (s.link l).waiting = es ++ .notice (.condition old) :: fs → (∀ c, .notice (.condition c) ∉ es) →
          (t.link l).outbound = (s.link l).sending ++ es ++ .notice (.condition (old ||| set)) :: fs ++
            [.reply 0x20 .ok [.mask (w.setWidth 25)]]))) ∧
    (∀ w : Word, w >>> 25 ≠ 0 → exec (.nack l w) s = .next (s.answered l 0x21 .badParam [])) ∧
    (∀ w : Word, w >>> 25 = 0 → exec (.nack l w) s = .next
      ((s.onLink l (fun x => { x with conditions := x.conditions &&& ~~~w.setWidth 25 })).answered l 0x21 .ok
        [.conditions ((s.link l).conditions &&& ~~~w.setWidth 25)])) ∧
    exec (.nget l) s = .next (s.answered l 0x22 .ok
      [.conditions (s.link l).conditions, .mask (s.link l).mask, .overflowCount (s.link l).overflow, .latch s.latch])

/-- R143, R144, R151: a raise. Outside OPEN, and for a condition already raised, nothing changes; in OPEN a clear condition
becomes raised, and a subscribed one is merged into the waiting CONDITION notice, or offered in a new one. -/
def Obligations.RaiseRecordsAndAnnounces : Prop :=
  ∀ (c : Condition) (x : LinkState),
    (x.session ≠ .opened → x.raise c = x) ∧
    (x.conditions.getLsbD c.bit = true → x.raise c = x) ∧
    (x.session = .opened → x.conditions.getLsbD c.bit = false → x.mask.getLsbD c.bit = false →
      x.raise c = { x with conditions := x.conditions ||| c.set }) ∧
    (x.session = .opened → x.conditions.getLsbD c.bit = false → x.mask.getLsbD c.bit = true →
      (∀ es set fs, x.waiting = es ++ .notice (.condition set) :: fs → (∀ d, .notice (.condition d) ∉ es) →
        x.raise c = { x with
          conditions := x.conditions ||| c.set
          outbound := x.sending ++ es ++ .notice (.condition (set ||| c.set)) :: fs }) ∧
      ((∀ d, .notice (.condition d) ∉ x.waiting) → x.notices < 12 →
        x.raise c = { x with
          conditions := x.conditions ||| c.set, outbound := x.outbound ++ [.notice (.condition c.set)] }) ∧
      ((∀ d, .notice (.condition d) ∉ x.waiting) → 12 ≤ x.notices →
        x.raise c = { x with conditions := x.conditions ||| c.set, overflow := min 255 (x.overflow + 1) }))

/-! ## Windows -/

/-- R78, R81, R82, R83, R86: which windows a WSET can set, its defaults included, and WSET and WREL by the owner found. -/
def Obligations.WindowsChangeByTheirOwner : Prop :=
  ∀ (l : Link) (a : WsetArgs),
    (∀ w : Window, windowOfArgs l a = some w ↔
      a.index ≤ 7 ∧ 12 ≤ a.sizePower ∧ a.sizePower ≤ 28 ∧ 2 ^ a.sizePower ∣ a.base ∧ 4096 ∣ a.offset ∧
        a.offset + 2 ^ a.sizePower ≤ 2 ^ 28 ∧ w.waits ≤ 7 ∧ w.limit ∈ [25, 50, 100, 250, 500, 1000] ∧ w.retries ≤ 3 ∧
        w.owner = l ∧ w.base = a.base ∧ w.sizePower = a.sizePower ∧ w.slot.val = a.slot ∧ w.offset = a.offset ∧
        rightsCode w.rightsA = a.rightsA.getD (if l = .A then 2 else 0) ∧
        rightsCode w.rightsB = a.rightsB.getD (if l = .B then 2 else 0) ∧
        w.waits = a.waits.getD 7 ∧ w.limit = a.limit.getD 1000 ∧ w.retries = a.retries.getD 1) ∧
    (∀ (i : Fin 8) (s : State), s.ready l →
      (windowOfArgs l a = none → exec (.wset l a) s = .next (s.answered l 0x30 .badParam [])) ∧
      (∀ w, windowOfArgs l a = some w → a.index = i.val →
        ((∃ v, s.windows.get i = some v ∧ v.owner ≠ l) →
          exec (.wset l a) s = .next (s.answered l 0x30 .ownedByOther [])) ∧
        ((∀ v, s.windows.get i = some v → v.owner = l) →
          exec (.wset l a) s = .next ({ s with windows := s.windows.set i.val (some w) i.isLt }.answered l 0x30 .ok
            (([.window i.val, .owner (some l), .base w.base, .sizePower w.sizePower, .slot w.slot.val,
              .moduleOffset w.offset, .rightsA w.rightsA, .rightsB w.rightsB, .waits w.waits, .responseLimit w.limit,
              .retries w.retries] : List Item) ++ (s.overlaps i.val w).map Item.overlap)))) ∧
      (∀ n, 7 < n → exec (.wrel l n) s = .next (s.answered l 0x31 .badParam [])) ∧
      ((∃ v, s.windows.get i = some v ∧ v.owner = l) →
        exec (.wrel l i.val) s =
          .next ({ s with windows := s.windows.set i.val none i.isLt }.answered l 0x31 .ok [.window i.val])) ∧
      ((∀ v, s.windows.get i = some v → v.owner ≠ l) →
        exec (.wrel l i.val) s = .next (s.answered l 0x31 .notOwner [])))

/-- R87, whole: WGET, to either link. -/
def Obligations.WgetReportsTheWindow : Prop :=
  ∀ (l : Link) (i : Fin 8) (s : State), s.ready l →
    (∀ n, 7 < n → exec (.wget l n) s = .next (s.answered l 0x32 .badParam [])) ∧
    (s.windows.get i = none → exec (.wget l i.val) s = .next (s.answered l 0x32 .ok [.window i.val, .owner none])) ∧
    (∀ w, s.windows.get i = some w → ∃ overlapping : List Nat,
      overlapping.Pairwise (· < ·) ∧
      (∀ k, k ∈ overlapping ↔ ∃ (h : k < 8) (v : Window), k ≠ i.val ∧ s.windows.get ⟨k, h⟩ = some v ∧
        v.base < w.base + 2 ^ w.sizePower ∧ w.base < v.base + 2 ^ v.sizePower) ∧
      exec (.wget l i.val) s = .next (s.answered l 0x32 .ok
        (([.window i.val, .owner (some w.owner), .base w.base, .sizePower w.sizePower, .slot w.slot.val,
          .moduleOffset w.offset, .rightsA w.rightsA, .rightsB w.rightsB, .waits w.waits, .responseLimit w.limit,
          .retries w.retries] : List Item) ++ overlapping.map Item.overlap)))

/-- R89 to R95: the decode of an extent that is not empty, by the first check that fails, or with its binding. -/
def Obligations.DecodeMakesItsChecksInOrder : Prop :=
  ∀ (l : Link) (dir : Direction) (a len : Nat) (s : State), 0 < len →
    ∀ hits, hits = s.enabledWindows.filter
      (fun w => decide (w.base < a + len) && decide (a < w.base + 2 ^ w.sizePower)) →
    (hits = [] → s.decode l dir a len = .error .decodeMiss) ∧
    (2 ≤ hits.length → s.decode l dir a len = .error .decodeConflict) ∧
    (∀ w, hits = [w] →
      ∀ right, right = (if l = .A then w.rightsA else w.rightsB) →
      ∀ start, start = w.offset + (a - w.base) →
      (¬ (w.base ≤ a ∧ a + len ≤ w.base + 2 ^ w.sizePower) → s.decode l dir a len = .error .split) ∧
      (w.base ≤ a → a + len ≤ w.base + 2 ^ w.sizePower →
        ((right = .none ∨ (right = .read ∧ dir = .write)) → s.decode l dir a len = .error .protection) ∧
        ((right = .readWrite ∨ (right = .read ∧ dir = .read)) →
          ((s.slot w.slot).state ≠ .ready → s.decode l dir a len = .error .slotNotReady) ∧
          (∀ d, (s.slot w.slot).state = .ready → (s.slot w.slot).identity = some d →
            (2 ^ d.capacityCode < start + len → s.decode l dir a len = .error .outOfModule) ∧
            (start + len ≤ 2 ^ d.capacityCode →
              (dir = .write → ((s.slot w.slot).wp = true ∨ d.moduleClass = .readOnly) →
                s.decode l dir a len = .error .moduleLocked) ∧
              ((dir = .read ∨ ((s.slot w.slot).wp = false ∧ d.moduleClass = .readWrite)) →
                s.decode l dir a len = .ok
                  ⟨w.slot, start, max w.waits d.minWaits, w.limit, w.retries, (s.slot w.slot).generation⟩))))))

/-! ## Slot requests -/

/-- R99, R106, R111, R119, R120: SPWR on, SCFG in every state of the slot, and SCLR of a FAULTED slot. The item that the
reply to SPWR shows after a slot starts its ramp in the same event, or is FAULTED there at once because its TRIPs is
asserted, is the model's choice (log entry 15), and so is that the reply precedes the FAULT condition (log entry 14). -/
def Obligations.SpwrOnScfgAndSclrFollowTheSlotState : Prop :=
  ∀ (l : Link) (i : SlotId) (s : State), s.ready l →
    (∀ n force, 3 < n → exec (.spwrOn l n force) s = .next (s.answered l 0x40 .badParam [])) ∧
    exec (.spwrOn l i.val true) s = .next (s.answered l 0x40 .badParam []) ∧
    ((s.slot i).state ∈ [.empty, .settling, .draining, .faulted] →
      exec (.spwrOn l i.val false) s = .next (s.answered l 0x40 .slotState [])) ∧
    ((s.slot i).state ∈ [.queuedForPower, .ramping, .identifying, .ready] →
      exec (.spwrOn l i.val false) s = .next (s.answered l 0x40 .ok [.slot i.val, .slotState (s.slot i).state])) ∧
    ((s.slot i).state = .present →
      (s.ramping ≠ none →
        exec (.spwrOn l i.val false) s = .next
          (({ s with powerWait := s.powerWait ++ [i] }.onSlot i (Slot.enter .queuedForPower)).answered l 0x40 .ok
            [.slot i.val, .slotState .queuedForPower])) ∧
      (s.ramping = none → s.powerWait = [] → (s.slot i).tripPin = false →
        exec (.spwrOn l i.val false) s = .next
          (({ s with ramping := some i }.onSlot i (fun x =>
              { x with
                state := .ramping
                faultKind := none
                identity := none
                settleTimer := .stopped
                rampTimer := .running 20 })).answered l 0x40 .ok
            [.slot i.val, .slotState .ramping])) ∧
      (s.ramping = none → s.powerWait = [] → (s.slot i).tripPin = true →
        exec (.spwrOn l i.val false) s = .next
          (((s.onSlot i (fun x =>
              { x with
                state := .faulted
                faultKind := some .overcurrent
                identity := none
                settleTimer := .stopped
                rampTimer := .stopped })).onLink l (fun x =>
              { x with outbound := x.outbound ++ [.reply 0x40 .ok [.slot i.val, .slotState .faulted]] })).raiseBoth
            (.fault i)).kick)) ∧
    (∀ n v, 3 < n ∨ 1 < v → exec (.scfg l n v) s = .next (s.answered l 0x41 .badParam [])) ∧
    (∀ on : Bool, exec (.scfg l i.val (if on then 1 else 0)) s = .next
      ((s.onSlot i (fun x => { x with autoBringup := on })).answered l 0x41 .ok [.slot i.val, .autoBringup on])) ∧
    (∀ n, 3 < n → exec (.sclr l n) s = .next (s.answered l 0x42 .badParam [])) ∧
    ((s.slot i).state ≠ .faulted → exec (.sclr l i.val) s = .next (s.answered l 0x42 .slotState [])) ∧
    ((s.slot i).state = .faulted →
      exec (.sclr l i.val) s = .next
        ((s.onSlot i (fun x =>
            { x with
              state := .present
              faultKind := none
              identity := none
              settleTimer := .stopped
              rampTimer := .stopped })).answered l 0x42 .ok [.slot i.val, .slotState .present]))

/-- R112 to R115, R124, R106: SPWR off, by the slot's state, whether it is in use, and FORCE. After a RAMPING slot the Ramp
Sequencer takes the next slot that waits, and faults those whose TRIPs is asserted already. That the reply precedes their
FAULT conditions is the model's choice (log entry 14). -/
def Obligations.SpwrOffFollowsTheSlotState : Prop :=
  ∀ (l : Link) (i : SlotId) (force : Bool) (s : State), s.ready l →
    ∀ down : State, down = s.onSlot i (fun x =>
      { x with
        state := .present
        faultKind := none
        identity := none
        settleTimer := .stopped
        rampTimer := .stopped }) →
    (∀ n, 3 < n → exec (.spwrOff l n force) s = .next (s.answered l 0x40 .badParam [])) ∧
    ((s.slot i).state ∈ [.empty, .settling, .faulted] →
      exec (.spwrOff l i.val force) s = .next (s.answered l 0x40 .slotState [])) ∧
    ((s.slot i).state ∈ [.present, .draining] →
      exec (.spwrOff l i.val force) s = .next (s.answered l 0x40 .ok [.slot i.val, .slotState (s.slot i).state])) ∧
    ((s.slot i).state = .queuedForPower → s.ramping ≠ some i → i ∉ s.identQueue → s.bus.requestIdentify ≠ some i →
      exec (.spwrOff l i.val force) s = .next
        ({ down with powerWait := s.powerWait.filter (· ≠ i) }.answered l 0x40 .ok
          [.slot i.val, .slotState .present])) ∧
    ((s.slot i).state = .ramping → s.ramping = some i → s.powerWait = [] → i ∉ s.identQueue →
      s.bus.requestIdentify ≠ some i →
      exec (.spwrOff l i.val force) s = .next
        ({ down with ramping := none }.answered l 0x40 .ok [.slot i.val, .slotState .present])) ∧
    (∀ tripped rest, (s.slot i).state = .ramping → s.ramping = some i → s.powerWait = tripped ++ rest →
      s.powerWait.Nodup → i ∉ s.powerWait → i ∉ s.identQueue → s.bus.requestIdentify ≠ some i →
      (∀ n ∈ tripped, (s.slot n).tripPin = true) →
      ∀ faulted : State, faulted = tripped.foldl (fun (u : State) n => u.onSlot n (Slot.fail .overcurrent)) down →
      ∀ replied : State → State, replied = (fun u => (tripped.foldl (fun v n => v.raiseBoth (.fault n))
        (u.onLink l (fun x =>
          { x with outbound := x.outbound ++ [.reply 0x40 .ok [.slot i.val, .slotState .present]] }))).kick) →
      (rest = [] → exec (.spwrOff l i.val force) s = .next (replied { faulted with powerWait := [], ramping := none })) ∧
      (∀ k ks, rest = k :: ks → (s.slot k).tripPin = false →
        exec (.spwrOff l i.val force) s = .next (replied ({ faulted with powerWait := ks, ramping := some k }.onSlot k
          (fun x => { x.enter .ramping with rampTimer := .running 20 }))))) ∧
    ((s.slot i).state = .identifying → s.flightLaw = true →
      ∃ t, exec (.spwrOff l i.val force) s = .next t ∧ t.slots = down.slots ∧
        t.identQueue = s.identQueue.filter (· ≠ i) ∧ t.bus.requestIdentify ≠ some i ∧ t.bus.slotInFlight i = false ∧
        (s.bus.slotInFlight i = false → ∀ x, s.bus.state = .inFlight x → t.bus.state = s.bus.state) ∧
        t.link l = ((s.link l).push (.reply 0x40 .ok [.slot i.val, .slotState .present])).kick ∧
        t.link l.other = (s.link l.other).kick ∧ t.windows = s.windows ∧ t.buffers = s.buffers ∧ t.latch = s.latch) ∧
    ((s.slot i).state = .ready → ¬ s.inUse i →
      exec (.spwrOff l i.val force) s = .next (down.answered l 0x40 .ok [.slot i.val, .slotState .present])) ∧
    ((s.slot i).state = .ready → s.inUse i → force = false →
      exec (.spwrOff l i.val force) s = .next (s.answered l 0x40 .slotBusy [])) ∧
    ((s.slot i).state = .ready → s.inUse i → force = true →
      ((∃ x m, s.bus.state = .inFlight x ∧ x.slot = i ∧ x.requester = .lane m) →
        exec (.spwrOff l i.val force) s = .next
          ((s.onSlot i (fun x => { x with state := .draining })).answered l 0x40 .ok
            [.slot i.val, .slotState .draining])) ∧
      ((¬ ∃ x m, s.bus.state = .inFlight x ∧ x.slot = i ∧ x.requester = .lane m) →
        exec (.spwrOff l i.val force) s = .next (down.answered l 0x40 .ok [.slot i.val, .slotState .present])))

/-- R121, whole: SGET. -/
def Obligations.SgetReportsTheSlot : Prop :=
  ∀ (l : Link) (i : SlotId) (s : State), s.ready l → (s.slot i).law = true → s.sequencersLaw = true →
    (∀ n, 3 < n → exec (.sget l n) s = .next (s.answered l 0x43 .badParam [])) ∧
    ∃ fault position identity : List Item,
      ((s.slot i).state ≠ .faulted → fault = []) ∧
      ((s.slot i).state = .faulted → ∃ k, (s.slot i).faultKind = some k ∧ fault = [.faultKind k]) ∧
      ((s.slot i).state ≠ .queuedForPower → position = []) ∧
      ((s.slot i).state = .queuedForPower →
        ∃ before after, s.powerWait = before ++ i :: after ∧ position = [.queuePosition (before.length + 1)]) ∧
      ((s.slot i).state ≠ .ready → (s.slot i).state ≠ .draining → identity = []) ∧
      ((s.slot i).state = .ready ∨ (s.slot i).state = .draining → ∃ d, (s.slot i).identity = some d ∧
        identity = [.moduleClass d.moduleClass, .capacityCode d.capacityCode, .dataWidth d.dataWidth,
          .minWaits d.minWaits, .serial d.serial, .model d.model]) ∧
      exec (.sget l i.val) s = .next (s.answered l 0x43 .ok
        (([.slot i.val, .slotState (s.slot i).state] : List Item) ++ fault ++
          [.generation (s.slot i).generation, .autoBringup (s.slot i).autoBringup, .wp (s.slot i).wp,
            .noResponseCount (s.slot i).noResponse] ++ position ++ identity))

/-! ## Job requests -/

/-- R2, R4, R182: which JSUB arguments describe a job, and the record it starts with. -/
def Obligations.JsubParametersAreChecked : Prop :=
  ∀ a : JsubArgs,
    ((∃ j, jobOfArgs a = some j) ↔
      a.tag ≠ 0 ∧ 1 ≤ a.kind ∧ a.kind ≤ 4 ∧ a.blockSize ∈ [256, 512, 1024, 2048] ∧
        1 ≤ a.primary.length ∧ a.primary.length ≤ 16 ∧
        (a.kind = 3 → 1 ≤ a.destination.length ∧ a.destination.length ≤ 16 ∧
          (a.primary.map Segment.blocks).sum = (a.destination.map Segment.blocks).sum) ∧
        (a.kind ≠ 3 → a.destination = []) ∧
        (∀ g ∈ a.primary ++ a.destination, 1 ≤ g.blocks ∧ g.blocks ≤ 4096 ∧ a.blockSize ∣ g.address ∧
          g.address + g.blocks * a.blockSize ≤ 2 ^ 32) ∧
        (a.kind = 4 ↔ a.pattern.isSome = true) ∧ a.flags.getD 0 < 4) ∧
    (∀ j, jobOfArgs a = some j →
      j.tag = a.tag ∧ jobKindCode j.kind = a.kind ∧ j.blockSize = a.blockSize ∧ j.pattern = a.pattern ∧
        j.primary = a.primary ∧ j.destination = a.destination ∧ j.total = (a.primary.map Segment.blocks).sum ∧
        (j.stopOnError = true ↔ a.flags.getD 1 % 2 = 1) ∧ (j.segmentNotices = true ↔ a.flags.getD 1 / 2 % 2 = 1) ∧
        j.state = .queued ∧ j.causeHost = false ∧ j.causeLatch = false ∧ j.nextBlock = 0 ∧
        j.posPrimary = ⟨0, 0, 0⟩ ∧ j.posDestination = ⟨0, 0, 0⟩ ∧ j.bindPrimary = none ∧ j.bindDestination = none ∧
        j.completed = 0 ∧ j.failed = 0 ∧ j.firstError = none ∧ j.credits = 0 ∧ j.nextExpected = 0 ∧
        j.holdTimer = .stopped ∧ j.dataTimer = .stopped)

/-- R2, R3, R4, R11, R76: JSUB. Refusals by the parameters and by the live list. Otherwise the job joins the tail of the
list, and an outcome with its tag leaves the history. Where the start check then succeeds, the lanes go on, that of the
link first (log entry 14); otherwise the job waits. -/
def Obligations.JsubJoinsTheLiveList : Prop :=
  ∀ (l : Link) (a : JsubArgs) (s : State), s.ready l →
    (jobOfArgs a = none → exec (.jsub l a) s = .next (s.answered l 0x50 .badParam [])) ∧
    (∀ j, jobOfArgs a = some j →
      (8 ≤ (s.link l).live.length → exec (.jsub l a) s = .next (s.answered l 0x50 .queueFull [])) ∧
      ((s.link l).live.length < 8 → (∃ k ∈ (s.link l).live, k.tag = j.tag) →
        exec (.jsub l a) s = .next (s.answered l 0x50 .duplicateTag [])) ∧
      ((s.link l).live.length < 8 → (∀ k ∈ (s.link l).live, k.tag ≠ j.tag) →
        (s.latchHold = true ∨ (s.link l).lane.state ≠ .idle ∨ ∃ k ks, (s.link l).live = k :: ks ∧ k.state ≠ .queued) →
        exec (.jsub l a) s = .next ((s.onLink l (fun x =>
            { x with live := x.live ++ [j], history := x.history.filter (fun e => e.tag != j.tag) })).answered l 0x50 .ok
          [.jobTag j.tag, .listPosition ((s.link l).live.length + 1)])) ∧
      ((s.link l).live.length < 8 → (∀ k ∈ (s.link l).live, k.tag ≠ j.tag) →
        s.latchHold = false → (s.link l).lane.state = .idle → (∀ k, (s.link l).live.head? = some k → k.state = .queued) →
        exec (.jsub l a) s = .next ((s.onLink l (fun x =>
            { x with
              live := x.live ++ [j]
              history := x.history.filter (fun e => e.tag != j.tag)
              outbound := x.outbound ++
                [.reply 0x50 .ok [.jobTag j.tag, .listPosition (x.live.length + 1)]] })).settle l).kick))

/-- R4, R11, R40, R41, R45: a WRITE submitted to an empty list of an IDLE lane that holds no buffer is RUNNING at once, with
a credit, backed by a RESERVED buffer, for each of its blocks up to 4. One CREDIT behind the reply announces them, and
the data timer runs. -/
def Obligations.WriteStartsWithItsCredits : Prop :=
  ∀ (l : Link) (a : JsubArgs) (j : Job) (n : Nat) (s : State), s.ready l → jobOfArgs a = some j → j.kind = .write →
    (s.link l).live = [] → (s.link l).lane.state = .idle → s.latchHold = false → s.heldCount l = 0 →
    (s.link l).creditEntries = 0 → s.laneStep l.other = none → n = min 4 j.total → s.waitList = [] →
    n ≤ bufferIds.countP (fun b => (s.buffers.get b).holder = .free) →
    ∃ t, exec (.jsub l a) s = .next t ∧
      t.link l = { s.link l with
        live := [{ j with state := .running, credits := n, dataTimer := .running ((s.link l).dataTimeout.getD 1000) }]
        history := (s.link l).history.filter (fun e => e.tag != j.tag)
        lane := ⟨.busy, n, 0⟩
        transmitting := true
        outbound := (s.link l).outbound ++
          [.reply 0x50 .ok [.jobTag j.tag, .listPosition 1], .credit j.tag n] } ∧
      (∀ b, t.buffers.get b = s.buffers.get b ∨
        ((s.buffers.get b).holder = .free ∧ t.buffers.get b = ⟨.lane l .reserved, (s.buffers.get b).bytes⟩)) ∧
      (t.allUses l BufferUse.isReserved).length = n ∧ t.link l.other = (s.link l.other).kick ∧ t.slots = s.slots ∧
      t.windows = s.windows ∧ t.bus = s.bus ∧ t.waitList = []

/-- R63, R64, R65, R66: the refusals of JPAU, JRES and JCAN, and a JCAN of a CANCELLING job, which changes nothing. -/
def Obligations.JobRequestsAreRefused : Prop :=
  ∀ (l : Link) (tag : Nat) (s : State), s.ready l →
    ((∀ k ∈ (s.link l).live, k.tag ≠ tag) →
      ∀ r : ReplyCode, ((∃ e ∈ (s.link l).history, e.tag = tag) ∧ r = .ended) ∨
          ((∀ e ∈ (s.link l).history, e.tag ≠ tag) ∧ r = .unknownJob) →
      exec (.jpau l tag) s = .next (s.answered l 0x51 r []) ∧ exec (.jres l tag) s = .next (s.answered l 0x52 r []) ∧
        exec (.jcan l tag) s = .next (s.answered l 0x53 r [])) ∧
    (∀ (ahead : List Job) (j : Job) (behind : List Job), (s.link l).live = ahead ++ j :: behind → j.tag = tag → (∀ k ∈ ahead, k.tag ≠ tag) →
      (j.state = .queued → exec (.jpau l tag) s = .next (s.answered l 0x51 .notActive []) ∧
        exec (.jres l tag) s = .next (s.answered l 0x52 .notActive [])) ∧
      (j.state = .cancelling → exec (.jpau l tag) s = .next (s.answered l 0x51 .cancelling []) ∧
        exec (.jres l tag) s = .next (s.answered l 0x52 .cancelling []) ∧
        exec (.jcan l tag) s = .next (s.answered l 0x53 .ok [.jobTag tag, .jobState (.live .cancelling)])) ∧
      (j.state = .pausing ∨ j.state = .paused →
        (j.causeHost = true → exec (.jpau l tag) s = .next (s.answered l 0x51 .alreadyPaused [])) ∧
        (j.causeHost = false → exec (.jres l tag) s = .next (s.answered l 0x52 .notPaused []))) ∧
      (j.state = .running → exec (.jres l tag) s = .next (s.answered l 0x52 .notPaused [])))

/-- R61, R64, R70, R72, R45: JPAU on the active job without HOST among its causes. -/
def Obligations.JpauPausesTheActiveJob : Prop :=
  ∀ (l : Link) (j : Job) (js : List Job) (s : State), s.ready l → (s.link l).live = j :: js → j.causeHost = false →
    ∀ hold, hold = (if 0 < (s.link l).holdLimit.getD 0 then Timer.running ((s.link l).holdLimit.getD 0) else .stopped) →
    (j.state = .running → s.bus.laneInFlight l = true →
      exec (.jpau l j.tag) s = .next (({ s with waitList := s.waitList.filter (· != l) }.onLink l (fun x =>
          { x with live :=
              { j with
                state := .pausing
                causeHost := true
                dataTimer :=
                  if j.kind = JobKind.write ∧ 0 < j.credits then .running (x.dataTimeout.getD 1000) else .stopped }
              :: js })).answered l 0x51 .ok [.jobTag j.tag, .jobState (.live .pausing)])) ∧
    (j.state = .running → s.bus.laneInFlight l = false →
      exec (.jpau l j.tag) s =
        .next ({ s with waitList := s.waitList.filter (· != l), bus := s.bus.withdraw l }.onLink l (fun x =>
          ({ x with
            live := { j with state := .paused, causeHost := true, holdTimer := hold, dataTimer := .stopped } :: js
            outbound := x.outbound ++ [Entry.reply 0x51 .ok [.jobTag j.tag, .jobState (.live .paused)]] }).offer
              (.jobPaused j.tag true j.causeLatch j.nextBlock j.completed))).kick) ∧
    (j.state = .pausing →
      exec (.jpau l j.tag) s = .next ((s.onLink l (fun x => { x with live := { j with causeHost := true } :: js })).answered
        l 0x51 .ok [.jobTag j.tag, .jobState (.live .pausing)])) ∧
    (j.state = .paused →
      exec (.jpau l j.tag) s = .next ((s.onLink l (fun x =>
        { x with live := { j with causeHost := true, holdTimer := hold } :: js })).answered l 0x51 .ok
          [.jobTag j.tag, .jobState (.live .paused)]))

/-- R62, R65, R70, R72: JRES on a job with HOST among its causes. With LATCH left the job stays; otherwise it is RUNNING,
and the lanes go on, that of the link first (log entry 14). -/
def Obligations.JresWithdrawsTheHost : Prop :=
  ∀ (l : Link) (j : Job) (js : List Job) (s : State), s.ready l → (s.link l).live = j :: js → j.causeHost = true →
    ∀ timer, timer =
      (if j.kind = .write ∧ 0 < j.credits then Timer.running ((s.link l).dataTimeout.getD 1000) else .stopped) →
    ∀ resumed : LinkState, resumed = { s.link l with
      live := { j with state := .running, causeHost := false, holdTimer := .stopped, dataTimer := timer } :: js
      outbound := (s.link l).outbound ++ [.reply 0x52 .ok [.jobTag j.tag, .jobState (.live .running)]] } →
    (j.state = .pausing ∨ j.state = .paused → j.causeLatch = true →
      exec (.jres l j.tag) s = .next ((s.onLink l (fun x =>
        { x with live := { j with causeHost := false, holdTimer := .stopped } :: js })).answered l 0x52 .ok
          [.jobTag j.tag, .jobState (.live j.state)])) ∧
    (j.state = .pausing → j.causeLatch = false →
      exec (.jres l j.tag) s = .next ((s.setLink l resumed).settle l).kick) ∧
    (j.state = .paused → j.causeLatch = false →
      exec (.jres l j.tag) s =
        .next ((s.setLink l (resumed.offer (.jobResumed j.tag j.nextBlock j.completed))).settle l).kick)

/-- R66, R67, R45, R52: JCAN of a QUEUED job, and of the active job with a transfer in flight.
The lanes then go on, that of the link first (log entry 14). -/
def Obligations.JcanCancelsAJob : Prop :=
  ∀ (l : Link) (ahead : List Job) (j : Job) (behind : List Job) (s : State), s.ready l →
    (s.link l).live = ahead ++ j :: behind → (∀ k ∈ ahead ++ behind, k.tag ≠ j.tag) →
    ∀ cancelled : State, cancelled = s.onLink l (fun x =>
      ({ x with
        live := ahead ++ behind
        history := (x.history ++ [HistoryEntry.mk j.tag j.kind .cancelled 0 0 none]).drop (x.history.length + 1 - 8)
        outbound := x.outbound ++ [Entry.reply 0x53 .ok [.jobTag j.tag, .jobState .ended]] }).offer
          (.jobEnded j.tag .cancelled 0 0 none)) →
    (j.state = .queued →
      ((s.latchHold = true ∨ (s.link l).lane.state ≠ .idle ∨ ∀ k, (ahead ++ behind).head? = some k → k.state ≠ .queued) →
        exec (.jcan l j.tag) s = .next cancelled.kick) ∧
      (s.latchHold = false → (s.link l).lane.state = .idle →
        (∃ k, (ahead ++ behind).head? = some k ∧ k.state = .queued) →
        exec (.jcan l j.tag) s = .next (cancelled.settle l).kick)) ∧
    (ahead = [] → (j.state = .running ∧ s.bus.laneInFlight l = true) ∨ j.state = .pausing →
      exec (.jcan l j.tag) s = .next (({ s with waitList := s.waitList.filter (· != l) }.onLink l (fun x =>
          { x with live :=
              { j with state := .cancelling, causeHost := false, causeLatch := false, dataTimer := .stopped } :: behind
            })).answered l 0x53 .ok [.jobTag j.tag, .jobState (.live .cancelling)]))

/-- R9, R10, whole: JGET of a live job, of an ended job, and of neither; and JLST. -/
def Obligations.JgetAndJlstReportTheJobs : Prop :=
  ∀ (l : Link) (tag : Nat) (s : State), s.ready l →
    (∀ (ahead : List Job) (j : Job) (behind : List Job), (s.link l).live = ahead ++ j :: behind → j.tag = tag → (∀ k ∈ ahead, k.tag ≠ tag) →
      ∀ destination credits first : List Item,
      (j.kind ≠ .copy → destination = []) →
      (j.kind = .copy → destination = [.destPosition j.posDestination.segment j.posDestination.block]) →
      (j.kind ≠ .write → credits = []) →
      (j.kind = .write → credits = [.credits j.credits, .nextExpected j.nextExpected]) →
      (j.firstError = none → first = []) →
      (∀ e, j.firstError = some e → first = [.firstError e]) →
      exec (.jget l tag) s = .next (s.answered l 0x54 .ok (List.flatten
        [[.jobTag j.tag, .jobState (.live j.state), .pauseCauses j.causeHost j.causeLatch,
            .listPosition (ahead.length + 1), .kind j.kind, .totalBlocks j.total, .nextBlock j.nextBlock,
            .primaryPosition j.posPrimary.segment j.posPrimary.block], destination,
          [.blocksCompleted j.completed, .failedSegments j.failed], credits, first]))) ∧
    ((∀ k ∈ (s.link l).live, k.tag ≠ tag) →
      (∀ (older : List HistoryEntry) (e : HistoryEntry) (newer : List HistoryEntry),
        (s.link l).history = older ++ e :: newer → e.tag = tag → (∀ d ∈ older, d.tag ≠ tag) →
        ∀ first : List Item, (e.firstError = none → first = []) → (∀ f, e.firstError = some f → first = [.firstError f]) →
        exec (.jget l tag) s = .next (s.answered l 0x54 .ok
          (.jobTag e.tag :: .jobState .ended :: .kind e.kind :: .outcome e.outcome :: .blocksCompleted e.completed ::
            .failedSegments e.failed :: first))) ∧
      ((∀ e ∈ (s.link l).history, e.tag ≠ tag) → exec (.jget l tag) s = .next (s.answered l 0x54 .unknownJob []))) ∧
    exec (.jlst l) s = .next (s.answered l 0x55 .ok
      ((s.link l).live.map (fun j => Item.liveEntry j.tag j.state) ++
        (s.link l).history.map (fun e => Item.historyEntry e.tag e.outcome)))

/-! ## The end of a job, and what lanes do on their own -/

/-- R11, R21, R23, R24, R28, R54, R71: a job that is alone in its live list ends by JCAN at a boundary, by the expiry of
its hold timer or of its data timer, or by a DATA frame without a credit or out of sequence. -/
def Obligations.JobsEndWithTheirOutcome : Prop :=
  ∀ (l : Link) (j : Job) (c : Instr) (o : JobOutcome) (replies : List Entry) (first : Option FirstError) (s : State),
    s.inReset = false → (s.link l).live = [j] → j.state ≠ .queued → (s.link l).notices < Config.noticePlaces →
    (((c = .jcan l j.tag ∧ s.ready l ∧ ((j.state = .running ∧ s.bus.laneInFlight l = false) ∨ j.state = .paused) ∧
          replies = [.reply 0x53 .ok [.jobTag j.tag, .jobState .ended]] ∧ o = .cancelled) ∨
        (c = .holdTimerExpiry l ∧ j.state = .paused ∧ j.holdTimer ≠ .stopped ∧ replies = [] ∧ o = .holdExpired)) ∧
        first = j.firstError ∨
      (∃ (e : ErrorKind) (seg block : Nat) (g : Segment),
        ((c = .dataTimerExpiry l ∧ j.dataTimer ≠ .stopped ∧ e = .dataTimeout) ∨
          (∃ payload : List Byte, c = .datFrameArrives l (BitVec.ofNat 8 j.tag) payload ∧ j.tag < 256 ∧
            j.kind = .write ∧ payload.length = 2 + j.blockSize ∧ j.blockSize ≤ 2048 ∧ (s.link l).session = .opened ∧
            (s.link l).breakDetected = false ∧ (s.link l).framer = .hunt ∧ (s.link l).gapTimer = .stopped ∧
            ((j.credits = 0 ∧ e = .dataUnsolicited) ∨
              (0 < j.credits ∧ beNat (payload.take 2) ≠ j.nextExpected ∧ e = .dataSequence)))) ∧
        replies = [] ∧ o = .failed ∧ j.primary[seg]? = some g ∧ block < g.blocks ∧
        ((j.primary.take seg).map Segment.blocks).sum + block = j.nextExpected ∧
        first = some (j.firstError.getD ⟨e, .primary, seg, block⟩))) →
    ∀ (past : List HistoryEntry) (behind : List Entry),
    past = (s.link l).history ++ [HistoryEntry.mk j.tag j.kind o j.completed j.failed first] →
    behind = (s.link l).waiting ++ replies ++ [Entry.notice (.jobEnded j.tag o j.completed j.failed first)] →
    ∃ t, exec c s = .next t ∧
      t.link l = { s.link l with
        live := []
        history := past.drop ((s.link l).history.length + 1 - 8)
        lane := ⟨if s.bus.laneInFlight l then .stopping else .idle, 0, 0⟩
        transmitting := true
        outbound := (s.link l).sending ++ behind.filter (fun entry => match entry with
          | .credit tag _ => j.kind != JobKind.write || tag != j.tag
          | _ => true) } ∧
      (∀ b, t.useOf l b = (s.useOf l b).filter (fun u => u.isOutbound || (s.bus.laneInFlight l && u.isInTransfer))) ∧
      l ∉ t.waitList ∧ t.bus.request l = none ∧ t.slots = s.slots ∧ t.windows = s.windows ∧ t.latch = s.latch ∧
      (t.link l.other).session = (s.link l.other).session ∧ (t.link l.other).intake = (s.link l.other).intake ∧
      (t.link l.other).conditions = (s.link l.other).conditions

/-- R4, R11, R32 to R34, R37, R38, R40, R41, R46, R48: what a lane does on its own, one thing at a time: the start check,
and the buffer that the active job needs, by its kind, while the lane holds fewer than 8: STAGED for a READ or a COPY,
PATTERN with the block's bytes for a FILL, and RESERVED with a credit announced for a WRITE. A lane that is STOPPING, or
whose job is not RUNNING, does nothing. A freed buffer goes to the lane at the head of the wait list. That the buffer is the
lowest-numbered FREE one is the model's choice (log entry 13), and so is that the lane takes its buffer, and a WRITE its
credit, before it starts a block that stands ready at the position (log entry 14). -/
def Obligations.LanesActOnTheirOwn : Prop :=
  ∀ (l : Link) (s : State),
    ((s.link l).lane.state = .stopping → s.laneStep l = none) ∧
    ((s.link l).lane.state = .idle → (s.latchHold = true ∨ (s.link l).live = []) → s.laneStep l = none) ∧
    (∀ (j : Job) (js : List Job), (s.link l).live = j :: js →
      ((s.link l).lane.state = .idle → s.latchHold = false → j.state = .queued →
        s.laneStep l = some (s.onLink l (fun x =>
          { x with live := { j with state := .running } :: js, lane := ⟨.busy, 0, 0⟩ }))) ∧
      ((s.link l).lane.state = .busy → j.state ≠ .running → s.laneStep l = none) ∧
      ((s.link l).lane.state = .busy → j.state = .running → s.heldCount l < 8 → l ∉ s.waitList →
        ((j.kind = .read ∧ j.nextBlock < j.total ∧ (∀ b, s.useOf l b ≠ some .staged) ∧
            (∀ b tag n, s.useOf l b ≠ some (.inTransfer tag n))) ∨
          (j.kind = .copy ∧ (∀ b, s.useOf l b ≠ some .staged) ∧ (∀ b tag n, s.useOf l b ≠ some (.inTransfer tag n)) ∧
            ∀ b tag n, s.useOf l b ≠ some (.loaded tag n)) ∨
          (j.kind = .fill ∧ ∀ b, s.useOf l b ≠ some .pattern) ∨
          (j.kind = .write ∧ j.credits < 4 ∧ (s.link l).lane.blocksCredited < j.total)) →
        ((∀ b, (s.buffers.get b).holder ≠ .free) → s.laneStep l = some { s with waitList := s.waitList ++ [l] }) ∧
        (∀ b, (s.buffers.get b).holder = .free → (∀ k, k < b → (s.buffers.get k).holder ≠ .free) →
          (j.kind = .read ∨ j.kind = .copy → s.laneStep l = some (s.setHolder b (.lane l .staged))) ∧
          (j.kind = .fill → ∀ w, j.pattern = some w →
            s.laneStep l = some ((s.setHolder b (.lane l .pattern)).setBytes b ((s.buffers.get b).bytes.load
              ((List.range j.blockSize).map (fun n => if n % 2 = 0 then (w >>> 8).setWidth 8 else w.setWidth 8))))) ∧
          (j.kind = .write →
            ∀ x : LinkState, x = { s.link l with
              live := { j with
                credits := j.credits + 1
                dataTimer := .running ((s.link l).dataTimeout.getD 1000) } :: js
              lane := { (s.link l).lane with blocksCredited := (s.link l).lane.blocksCredited + 1 } } →
            ∀ granted : LinkState → State, granted = (fun y => (s.setHolder b (.lane l .reserved)).setLink l y) →
            (∀ es n fs, (s.link l).waiting = es ++ .credit j.tag n :: fs → (∀ k, .credit j.tag k ∉ es) →
              s.laneStep l =
                some (granted { x with outbound := (s.link l).sending ++ es ++ .credit j.tag (n + 1) :: fs })) ∧
            ((s.link l).creditEntries = 0 →
              s.laneStep l = some (granted { x with outbound := (s.link l).outbound ++ [.credit j.tag 1] })) ∧
            ((∀ k, .credit j.tag k ∉ (s.link l).waiting) → 0 < (s.link l).creditEntries →
              s.laneStep l = some (granted { x with
                lane := { x.lane with pendingCredits := x.lane.pendingCredits + 1 } })))))) ∧
    (∀ b, (s.waitList = [] → s.freeBuf b = s.setHolder b .free) ∧
      (∀ m rest, s.waitList = m :: rest → m ∉ rest →
        ∀ u : State, u = { s.setHolder b .free with waitList := rest } →
        (u.wantsBuffer m = false → s.freeBuf b = u.freeBuf b) ∧
        (u.wantsBuffer m = true → ∀ v : State, v = u.assign m b →
          s.freeBuf b = if v.wantsBuffer m then { v with waitList := rest ++ [m] } else v)))

/-- R11, R33, R37, R13: after an event the lanes go on: the lane of the link first, while it has something to do, and then
the other, and again, until neither has. The order of the lanes is the model's choice (log entry 14), and that they act
until they rest within one event is too (log entry 17). The premises are laws that every step keeps
(`EveryStepKeepsTheJobLists`). -/
def Obligations.LanesGoOnUntilTheyRest : Prop :=
  ∀ (l : Link) (s : State), s.listsKept = true → s.placesKept = true →
    (∀ t, s.laneStep l = some t → s.settle l = t.settle l) ∧
    (s.laneStep l = none →
      (∀ t, s.laneStep l.other = some t → s.settle l = t.settle l) ∧
      (s.laneStep l.other = none → s.settle l = s)) ∧
    ∀ m, (s.settle l).laneStep m = none

/-- R15, R16, R17, R37: a lane with a RUNNING job, no transfer, request or grant of its own, and nothing to ask the pool for
starts the block at its position as soon as the block's buffer is ready. Where the list holds no binding, segment start
decodes the whole segment and stores the binding; a failed decode, and a slot whose generation or state has changed, is a
segment error; otherwise the request goes to the arbiter. That a lane asks for its buffers first, and that segment start waits for
the return of a grant withdrawn, are the model's choices (log entry 14). -/
def Obligations.LanesStartTheirBlocks : Prop :=
  ∀ (l : Link) (j : Job) (js : List Job) (s : State), (s.link l).live = j :: js → (s.link l).lane.state = .busy →
    j.state = .running → j.nextBlock < j.total → (s.wantsBuffer l = false ∨ l ∈ s.waitList) →
    (s.bus.laneInFlight l = true ∨ s.bus.request l ≠ none ∨ s.bus.laneGranted l = true → s.laneStep l = none) ∧
    (s.bus.laneInFlight l = false → s.bus.request l = none → s.bus.laneGranted l = false →
      ((j.kind = .read → ∀ b, s.useOf l b ≠ some .staged) →
        (j.kind = .write → ∀ b tag, s.useOf l b ≠ some (.filled tag j.nextBlock)) →
        (j.kind = .fill → ∀ b, s.useOf l b ≠ some .pattern) →
        (j.kind = .copy → ∀ b, s.useOf l b ≠ some .staged ∧ ∀ tag n, s.useOf l b ≠ some (.loaded tag n)) →
        s.laneStep l = none) ∧
      (∀ i : ListId,
        (((j.kind = .read ∨ j.kind = .copy) ∧ i = .primary ∧ ∃ b, s.useOf l b = some .staged) ∨
          (j.kind = .write ∧ i = .primary ∧ ∃ b, ∃ tag : Nat, s.useOf l b = some (.filled tag j.nextBlock)) ∨
          (j.kind = .fill ∧ i = .primary ∧ ∃ b, s.useOf l b = some .pattern) ∨
          (j.kind = .copy ∧ i = .destination ∧ (∀ b, s.useOf l b ≠ some .staged) ∧
            ∃ b, ∃ tag n : Nat, s.useOf l b = some (.loaded tag n))) →
        ∀ dir : Direction,
          dir = (if j.kind = .read ∨ (j.kind = .copy ∧ i = .primary) then .read else .write) →
        ∀ asked : State → Binding → State, asked = (fun u bind => u.onBus (fun bus => bus.ask l
          { slot := bind.slot
            address := bind.address + (j.position i).block * j.blockSize
            direction := dir
            waits := bind.waits
            limit := bind.limit
            retries := bind.retries
            blockSize := j.blockSize })) →
        (∀ bind, j.binding i = some bind →
          ((s.slot bind.slot).generation ≠ bind.generation → s.laneStep l = some (s.segmentError l i .slotGone)) ∧
          ((s.slot bind.slot).generation = bind.generation →
            ((s.slot bind.slot).state ≠ .ready → s.laneStep l = some (s.segmentError l i .slotNotReady)) ∧
            ((s.slot bind.slot).state = .ready → s.laneStep l = some (asked s bind)))) ∧
        (j.binding i = none → ∀ g, (j.segments i)[(j.position i).segment]? = some g →
          (∀ e, s.decode l dir g.address (g.blocks * j.blockSize) = .error e →
            s.laneStep l = some (s.segmentError l i e)) ∧
          (∀ bind, s.decode l dir g.address (g.blocks * j.blockSize) = .ok bind →
            s.laneStep l = some (asked (s.onLink l (fun x => { x with
              live := (if i = .primary then { j with bindPrimary := some bind }
                else { j with bindDestination := some bind }) :: js })) bind)))))

/-- R13, R14, R22, R38, R44, R47, R49, R59: the report of a block completed, to a RUNNING or PAUSING job: by its kind, the
block stands in an OUTBOUND buffer with its DATA entry behind it, or its buffer is emptied, LOADED, or STAGED again; the
counts and the position move on, a segment that is left is announced, and the last block ends the job. A job still PAUSING
is then PAUSED, and an emptied WRITE buffer backs a credit or is freed, behind SEGMENT_DONE as R44 has it (log entry
14). -/
def Obligations.ReportsCompleteBlocks : Prop :=
  ∀ (l : Link) (j : Job) (js : List Job) (s : State), (s.link l).live = j :: js →
    (j.state ≠ .pausing → s.settlePausing l = s) ∧
    (j.state = .pausing → s.settlePausing l =
      ({ s with waitList := s.waitList.filter (· != l), bus := s.bus.withdraw l }.onLink l (fun x =>
        ({ x with live := { j with
            state := .paused
            holdTimer := if j.causeHost = true ∧ 0 < x.holdLimit.getD 0 then .running (x.holdLimit.getD 0) else .stopped
            dataTimer := .stopped } :: js }).offer
          (.jobPaused j.tag j.causeHost j.causeLatch j.nextBlock j.completed)))) ∧
    (j.kind = .write → j.state ≠ .queued → ∀ b,
      (j.state = .running → j.credits < 4 → (s.link l).lane.blocksCredited < j.total →
        ∀ u : State, u = (s.setHolder b (.lane l .reserved)).onLink l (fun x =>
          ({ x with
            live := { j with credits := j.credits + 1, dataTimer := .running (x.dataTimeout.getD 1000) } :: js
            lane := { x.lane with blocksCredited := x.lane.blocksCredited + 1 } }).offerCredit j.tag 1) →
        s.emptyWriteBuffer l b = if j.credits = 3 ∨ (s.link l).lane.blocksCredited + 1 = j.total then
          { u with waitList := u.waitList.filter (· != l) } else u) ∧
      (j.state ≠ .running ∨ 4 ≤ j.credits ∨ j.total ≤ (s.link l).lane.blocksCredited →
        s.emptyWriteBuffer l b = s.freeBuf b)) ∧
    ((s.link l).lane.state = .busy → (∀ m ∈ js, m.state = .queued) → (j.state = .running ∨ j.state = .pausing) →
      j.placeLaw = true →
      ∀ dir : Direction, ∀ k : Job, k = j.passed →
      ∀ done : List Notice, done = (if j.segmentNotices = false then [] else if j.kind = .copy then
          (if j.posDestination.atEnd j.destination = true then
            [.segmentDone j.tag j.posDestination.segment (j.posDestination.done + 1) none] else [])
        else if j.posPrimary.atEnd j.primary = true then
          [.segmentDone j.tag j.posPrimary.segment (j.posPrimary.done + 1) none] else []) →
      ∀ counted : State → State, counted = (fun u => u.onLink l (fun x =>
        done.foldl (fun y n => y.offer n) { x with live := k :: js })) →
      ∀ goOn : State → State → State, goOn = (fun u v => if j.nextBlock + 1 < j.total then v.settlePausing l
        else u.endJob l (if j.failed = 0 then .done else .doneWithErrors)) →
      (j.kind = .fill → s.takeReport l dir .success = goOn (counted s) (counted s)) ∧
      (∀ b, s.findUse l BufferUse.isInTransfer = some b →
        (j.kind = .read → ∀ u : State, u = counted ((s.setHolder b (.lane l (.outbound j.tag j.nextBlock))).onLink l
            (fun x => { x with outbound := x.outbound ++ [.data j.tag j.nextBlock j.blockSize b] })) →
          s.takeReport l dir .success = goOn u u) ∧
        (j.kind = .write → s.takeReport l dir .success = goOn (counted s) ((counted s).emptyWriteBuffer l b)) ∧
        (j.kind = .copy → dir = .read → s.takeReport l dir .success =
          (s.setHolder b (.lane l (.loaded j.tag j.nextBlock))).settlePausing l) ∧
        (j.kind = .copy → dir = .write → ∀ u : State, u = counted (s.setHolder b (.lane l .staged)) →
          s.takeReport l dir .success = goOn u u)))

/-- R18 to R20, R27, R29, R37, R47, R53: a segment error. With STOP_ON_ERROR set it ends the job FAILED. With it clear the
segment is abandoned: it is counted as failed, the first error is noted if there is none, both lists move on by the blocks
that are skipped, the binding of each list whose segment is left goes, SEGMENT_DONE notices are offered, and the job goes
on with its buffers for blocks skipped emptied, or ends DONE_WITH_ERRORS when no block is left. The report of a block error
first gives the block's buffer back. That the emptied buffers of a WRITE, with the credits they back, follow SEGMENT_DONE
is the model's choice (log entry 14), and the lowest-numbered is emptied first (log entry 13). -/
def Obligations.SegmentErrorsFollowThePolicy : Prop :=
  ∀ (l : Link) (i : ListId) (e : ErrorKind) (j : Job) (js : List Job) (s : State), (s.link l).live = j :: js →
    j.state ≠ .queued → (i = .destination → j.kind = .copy) →
    (j.stopOnError = true → s.segmentError l i e = (s.onLink l (fun x => { x with live := { j with
      failed := 1
      firstError := some ⟨e, i, (j.position i).segment, (j.position i).block⟩ } :: js })).endJob l .failed) ∧
    (j.stopOnError = false → j.placeLaw = true → ∀ g, (j.segments i)[(j.position i).segment]? = some g →
      ∀ skip, skip = g.blocks - (j.position i).block →
      ∃ (k : Job) (ns : List Notice),
        k = { j with
          failed := j.failed + 1
          firstError := some (j.firstError.getD ⟨e, i, (j.position i).segment, (j.position i).block⟩)
          nextBlock := j.nextBlock + skip
          posPrimary := k.posPrimary
          posDestination := k.posDestination
          bindPrimary := k.bindPrimary
          bindDestination := k.bindDestination } ∧
        k.position i = ⟨(j.position i).segment + 1, 0, 0⟩ ∧ k.binding i = none ∧
        (j.kind ≠ .copy → k.posDestination = j.posDestination ∧ k.bindDestination = j.bindDestination) ∧
        (j.kind = .copy → ∀ o, o ≠ i → ∀ h, (j.segments o)[(j.position o).segment]? = some h →
          (skip < h.blocks - (j.position o).block →
            k.position o = { j.position o with block := (j.position o).block + skip } ∧ k.binding o = j.binding o) ∧
          (h.blocks - (j.position o).block ≤ skip → k.binding o = none ∧ (k.position o).done = 0 ∧
            (k.nextBlock < k.total → (k.position o).standsAt (j.segments o) k.nextBlock = true) ∧
            (k.total ≤ k.nextBlock → k.position o = ⟨(j.segments o).length, 0, 0⟩))) ∧
        ns = (if j.segmentNotices = false then []
          else if i = .destination ∨ j.kind ≠ .copy then
            [.segmentDone j.tag (j.position i).segment (j.position i).done (some (e, (j.position i).block))]
          else (List.range (k.posDestination.segment - j.posDestination.segment)).map (fun n =>
            .segmentDone j.tag (j.posDestination.segment + n) (if n = 0 then j.posDestination.done else 0) none)) ∧
        (∀ u : State, u = s.onLink l (fun x => ns.foldl (fun y n => y.offer n) { x with live := k :: js }) →
          (j.total ≤ k.nextBlock → s.segmentError l i e = u.endJob l .doneWithErrors) ∧
          (k.nextBlock < j.total →
            (j.kind = .read ∨ j.kind = .fill → s.segmentError l i e = u) ∧
            (j.kind = .write → s.segmentError l i e = (u.allUses l (BufferUse.isFilledWith
              (fun n => decide (n < k.nextBlock)))).foldl (fun v b => v.emptyWriteBuffer l b) u) ∧
            (j.kind = .copy →
              (∀ b, u.findUse l BufferUse.isLoaded = some b →
                s.segmentError l i e = u.setHolder b (.lane l .staged)) ∧
              (u.findUse l BufferUse.isLoaded = none → s.segmentError l i e = u))))) ∧
    ((s.link l).lane.state = .busy → (j.state = .running ∨ j.state = .pausing) →
      ∀ dir : Direction, i = (if j.kind = .copy ∧ dir = .write then ListId.destination else .primary) →
      (j.kind = .fill → s.takeReport l dir (.error e) = (s.segmentError l i e).settlePausing l) ∧
      (∀ b, s.findUse l BufferUse.isInTransfer = some b →
        (j.kind = .read ∨ j.kind = .copy → s.takeReport l dir (.error e) =
          ((s.setHolder b (.lane l .staged)).segmentError l i e).settlePausing l) ∧
        (j.kind = .write → s.takeReport l dir (.error e) =
          ((s.emptyWriteBuffer l b).segmentError l i e).settlePausing l)))

/-- R7, R12, R23, R24, R28, R54, R60: the end of a job: its outcome enters the history and JOB_ENDED is offered, its waits
and its CREDIT go, the lane is IDLE, or STOPPING while a transfer of it is in flight, and its buffers go, but OUTBOUND ones
and that of the transfer. A CANCELLING job ends CANCELLED at the report of its transfer, a block completed counted and an
error noted; a STOPPING lane discards the report, frees its buffers and is IDLE. -/
def Obligations.JobsEndAndLanesComeToRest : Prop :=
  ∀ (l : Link) (s : State),
    (∀ (j : Job) (js : List Job), (s.link l).live = j :: js → j.state ≠ .queued → (∀ m ∈ js, m.state = .queued) →
      (∀ o : JobOutcome, ∀ x : LinkState,
        x = ({ s.link l with
          live := js
          history := ((s.link l).history ++
            [HistoryEntry.mk j.tag j.kind o j.completed j.failed j.firstError]).drop
              ((s.link l).history.length + 1 - 8) }).offer (.jobEnded j.tag o j.completed j.failed j.firstError) →
        ∀ t : State, t = s.endJob l o →
          t.link l = { x with
            lane := ⟨if s.bus.laneInFlight l then .stopping else .idle, 0, 0⟩
            outbound := x.sending ++ x.waiting.filter (fun entry => match entry with
              | .credit tag _ => j.kind != JobKind.write || tag != j.tag
              | _ => true) } ∧
          (∀ b, t.useOf l b = (s.useOf l b).filter
            (fun u => u.isOutbound || (s.bus.laneInFlight l && u.isInTransfer))) ∧
          l ∉ t.waitList ∧ t.bus = s.bus.withdraw l ∧ t.slots = s.slots ∧ t.windows = s.windows ∧ t.latch = s.latch ∧
          (t.link l.other).session = (s.link l.other).session ∧
          (t.link l.other).conditions = (s.link l.other).conditions) ∧
      ((s.link l).lane.state = .busy → j.state = .cancelling → ∀ dir : Direction,
        ∀ ended : State → Job → State, ended = (fun u m =>
          (u.onLink l (fun x => { x with live := m :: js })).endJob l .cancelled) →
        (∀ b, j.kind = .read → s.findUse l BufferUse.isInTransfer = some b → s.takeReport l dir .success =
          ended ((s.setHolder b (.lane l (.outbound j.tag j.nextBlock))).onLink l (fun x =>
            { x with outbound := x.outbound ++ [.data j.tag j.nextBlock j.blockSize b] }))
            { j with completed := j.completed + 1 }) ∧
        (j.kind = .write ∨ j.kind = .fill ∨ (j.kind = .copy ∧ dir = .write) →
          s.takeReport l dir .success = ended s { j with completed := j.completed + 1 }) ∧
        (∀ b, j.kind = .copy → dir = .read → s.findUse l BufferUse.isInTransfer = some b →
          s.takeReport l dir .success = ended (s.setHolder b (.lane l (.loaded j.tag j.nextBlock))) j) ∧
        (∀ (e : ErrorKind) (i : ListId), i = (if j.kind = .copy ∧ dir = .write then ListId.destination else .primary) →
          s.takeReport l dir (.error e) = ended s { j with
            firstError := some (j.firstError.getD ⟨e, i, (j.position i).segment, (j.position i).block⟩) }))) ∧
    ((s.link l).lane.state = .stopping → (∀ m ∈ (s.link l).live, m.state = .queued) →
      ∀ (dir : Direction) (r : Report), ∀ t : State, t = s.takeReport l dir r →
        t.link l = { s.link l with lane := { (s.link l).lane with state := .idle } } ∧
        (∀ b, t.useOf l b = (s.useOf l b).filter BufferUse.isOutbound) ∧ t.bus = s.bus ∧ t.slots = s.slots ∧
        t.windows = s.windows ∧ t.latch = s.latch)

/-! ## Reception and transmission -/

/-- R160, R162 to R164, R185: a REQ frame waits in the intake, is lost to an overrun, is discarded in RESET_PENDING, or is
answered BAD_FORMAT or UNKNOWN_REQUEST. In CLOSED a request other than OPEN and RSTL is answered NO_SESSION, and a code
that names no request is answered UNKNOWN_REQUEST with that code, in CLOSED and in OPEN; nothing else changes. -/
def Obligations.RequestsWaitAreLostOrAnswered : Prop :=
  ∀ (l : Link) (s : State), s.inReset = false →
    ((s.link l).replies < Config.replyPlaces →
      (∀ (r : Request) (c : Instr), r.command l = some c → r.code ≠ 0x10 → r.code ≠ 0x12 →
        (s.link l).session = .closed →
        exec c s = .next (s.answered l (BitVec.ofNat 8 r.code) .noSession [])) ∧
      (∀ code : Byte, code.toNat ∉ knownCodes → (s.link l).session ≠ .resetPending →
        exec (.unknownRequest l code) s = .next (s.answered l code .unknownRequest []))) ∧
    (∀ (code : Byte) (payload : List Byte), payload.length ≤ 512 →
      (s.link l).breakDetected = false → (s.link l).framer = .hunt → (s.link l).gapTimer = .stopped →
      ((s.link l).session = .resetPending → exec (.reqFrameArrives l code payload) s = .next s.kick) ∧
      ((s.link l).session ≠ .resetPending →
        (4 ≤ (s.link l).intake.length →
          exec (.reqFrameArrives l code payload) s = .next (s.onLink l (LinkState.raise .intakeOverrun)).kick) ∧
        ((s.link l).intake.length < 4 → 4 ≤ (s.link l).replies →
          exec (.reqFrameArrives l code payload) s =
            .next (s.onLink l (fun x => { x with intake := x.intake ++ [⟨code, payload⟩] })).kick) ∧
        ((s.link l).intake = [] → (s.link l).replies < 4 →
          (code.toNat ∉ knownCodes →
            exec (.reqFrameArrives l code payload) s = .next (s.answered l code .unknownRequest [])) ∧
          (code.toNat ∈ knownCodes → (s.link l).session = .opened → parseRequest code.toNat payload = none →
            exec (.reqFrameArrives l code payload) s = .next (s.answered l code .badFormat [])))))

/-- R42, R43, R45, R162: a DAT frame is discarded outside OPEN, is stray, is of the wrong length, or consumes a credit; its
block then fills the lowest-numbered RESERVED buffer (log entry 13), or is discarded: a CANCELLING job frees the buffer, and
that of a skipped block is emptied, to back a new credit or to be freed. The lanes go on, that of the link first (log entry
14). -/
def Obligations.DataFramesAreExamined : Prop :=
  ∀ (l : Link) (tag : Byte) (payload : List Byte) (s : State), s.inReset = false → payload.length ≤ 2050 →
    (s.link l).breakDetected = false → (s.link l).framer = .hunt → (s.link l).gapTimer = .stopped →
    ((s.link l).session ≠ .opened → exec (.datFrameArrives l tag payload) s = .next s.kick) ∧
    ((s.link l).session = .opened →
      ((∀ j, (s.link l).working j → j.kind ≠ .write ∨ j.tag ≠ tag.toNat) →
        exec (.datFrameArrives l tag payload) s = .next (s.onLink l (LinkState.raise .strayData)).kick) ∧
      (∀ (j : Job) (js : List Job), (s.link l).live = j :: js → j.state ≠ .queued → j.kind = .write → j.tag = tag.toNat →
        (payload.length ≠ 2 + j.blockSize →
          exec (.datFrameArrives l tag payload) s = .next (s.onLink l (LinkState.raise .framing)).kick) ∧
        (payload.length = 2 + j.blockSize → 0 < j.credits → beNat (payload.take 2) = j.nextExpected →
          ∀ b, s.useOf l b = some .reserved → (∀ k, k < b → s.useOf l k ≠ some .reserved) →
          ∀ u : State, u = s.onLink l (fun x => { x with live :=
            { j with
              credits := j.credits - 1
              nextExpected := if j.nextExpected + 1 < j.total then j.nextExpected + 1 else j.nextExpected
              dataTimer :=
                if (j.state = .running ∨ j.state = .pausing) ∧ 1 < j.credits then
                  .running (x.dataTimeout.getD 1000)
                else .stopped } :: js }) →
          (j.state ≠ .cancelling → j.nextBlock ≤ j.nextExpected →
            exec (.datFrameArrives l tag payload) s = .next (((u.setHolder b (.lane l (.filled j.tag j.nextExpected))).setBytes
              b ((s.buffers.get b).bytes.load (payload.drop 2))).settle l).kick) ∧
          (j.state = .cancelling → exec (.datFrameArrives l tag payload) s = .next ((u.freeBuf b).settle l).kick) ∧
          (j.state ≠ .cancelling → j.nextExpected < j.nextBlock →
            exec (.datFrameArrives l tag payload) s = .next ((u.emptyWriteBuffer l b).settle l).kick) ∧
          ((j.state = .cancelling ∨ (j.nextExpected < j.nextBlock ∧ j.state ≠ .running)) → s.waitList = [] →
            exec (.datFrameArrives l tag payload) s = .next ((u.setHolder b .free).settle l).kick))))

/-- R157 to R161, R179: what the framer takes and drops. A frame with a stop bit at space, a kind, a length or a CRC that is
not as it should be is discarded with FRAMING; a BREAK discards it without. Levels without a start bit are no character,
which is deduced (log entry 20). That FRAME_DISCARD acts in HUNT as well is the model's choice (log entry 11), and that an
expiry of a gap timer that is stopped changes nothing is deduced (log entry 5). -/
def Obligations.FaultyFramesAreDiscarded : Prop :=
  ∀ (l : Link) (s : State), s.inReset = false →
    ∀ hunting : LinkState, hunting = { s.link l with framer := .hunt, gapTimer := .stopped } →
    (∀ c : Instr,
      ((c = .frameDiscard l ∧ (s.link l).breakDetected = false) ∨
        (c = .gapTimerExpiry l ∧ (s.link l).gapTimer ≠ .stopped) ∨
        ((s.link l).breakDetected = false ∧ ∃ taken, (s.link l).framer = .inFrame taken ∧
          ((∃ levels : LineLevels, c = .characterReceived l levels ∧ levels.getLsbD 0 = false ∧ levels.getLsbD 9 = false) ∨
            (∃ b : Byte, c = .characterReceived l (serialOf b) ∧
              ((taken = [] ∧ b ≠ 0x01 ∧ b ≠ 0x04) ∨
                (∃ tag high : Byte, taken = [0x01, tag, high] ∧ 512 < 256 * high.toNat + b.toNat) ∨
                (∃ tag high : Byte, taken = [0x04, tag, high] ∧ 2050 < 256 * high.toNat + b.toNat) ∨
                (∃ (body : List Byte) (first : Byte) (kind : Byte) (payload : List Byte), taken = body ++ [first] ∧
                  (∃ tag, body = [kind, tag, BitVec.ofNat 8 (payload.length / 256), BitVec.ofNat 8 payload.length] ++
                    payload) ∧
                  ((kind = 0x01 ∧ payload.length ≤ 512) ∨ (kind = 0x04 ∧ payload.length ≤ 2050)) ∧
                  [first, b] ≠ [(crc16 body >>> 8).setWidth 8, (crc16 body).setWidth 8])))))) →
      exec c s = .next ((s.setLink l hunting).onLink l (LinkState.raise .framing)).kick) ∧
    exec (.breakDetected l) s = .next (s.setLink l { hunting with breakDetected := true }).kick ∧
    ((s.link l).gapTimer = .stopped → exec (.gapTimerExpiry l) s = .next s.kick) ∧
    (∀ levels, (s.link l).breakDetected = true ∨ levels.getLsbD 0 = true →
      exec (.characterReceived l levels) s = .next s.kick) ∧
    ((s.link l).breakDetected = false → (s.link l).framer = .hunt →
      (∀ levels, levels ≠ serialOf 0xC3 → exec (.characterReceived l levels) s = .next s.kick) ∧
      exec (.characterReceived l (serialOf 0xC3)) s =
        .next (s.onLink l (fun x => { x with framer := .inFrame [], gapTimer := .running 100 })).kick)

/-- R157, R158, R166, R178, R179, R183, R186 to R189: the line is at mark while nothing is in transmission; otherwise it
carries the frame of the oldest entry, with its kind, tag byte, payload length, payload and CRC, as characters of ten bit
times back to back, each a space, the bits of its byte from the least significant, and a mark. An idle transmitter with an
entry begins. The payload of a reply is its RESULT item and the bytes of its items; it is written out for a HELLO, a CREDIT,
every notice and a DATA frame. Every item is its key, its length and its value, and every code is that of its table. -/
def Obligations.SentFramesCarryTheirEntries : Prop :=
  ∀ one two four : Nat → List Byte, one = (fun n => [BitVec.ofNat 8 n]) →
    two = (fun n => [BitVec.ofNat 8 (n / 256), BitVec.ofNat 8 n]) →
    four = (fun n => [BitVec.ofNat 8 (n / 16777216), BitVec.ofNat 8 (n / 65536), BitVec.ofNat 8 (n / 256),
      BitVec.ofNat 8 n]) →
  (∀ s : State, s.kick = { s with
    linkA := { s.linkA with transmitting := !s.linkA.outbound.isEmpty }
    linkB := { s.linkB with transmitting := !s.linkB.outbound.isEmpty } }) ∧
  (∀ (l : Link) (s : State),
    ((s.link l).transmitting = false → lineFrame s l = none ∧ s.frameBits l = 0 ∧ ∀ n, s.txLevel l n = true) ∧
    (∀ bytes, lineFrame s l = some bytes → s.frameBits l = 10 * bytes.length ∧
      (∀ n, 10 * bytes.length ≤ n → s.txLevel l n = true) ∧
      ∀ k b, bytes[k]? = some b → s.txLevel l (10 * k) = false ∧ s.txLevel l (10 * k + 9) = true ∧
        ∀ i, i < 8 → s.txLevel l (10 * k + 1 + i) = b.getLsbD i) ∧
    (∀ (e : Entry) (es : List Entry), (s.link l).transmitting = true → (s.link l).outbound = e :: es →
      ∃ (kind tag : Byte) (payload body : List Byte), lineFrame s l =
          some ((0xC3 : Byte) :: (body ++ [(crc16 body >>> 8).setWidth 8, (crc16 body).setWidth 8])) ∧
        body = ([kind, tag, BitVec.ofNat 8 (payload.length / 256), BitVec.ofNat 8 payload.length] : List Byte) ++ payload ∧
        (∀ code r items, e = .reply code r items →
          kind = 0x02 ∧ tag = code ∧
          payload = ([0x01, 0x01, BitVec.ofNat 8 (replyCodeCode r)] : List Byte) ++ items.flatMap Item.bytes) ∧
        (∀ n, e = .notice n → kind = 0x03 ∧
          (∀ set, n = .condition set → tag = 0x01 ∧ ∃ word : Word, word = set.setWidth 32 ∧
            payload = ([0x0C, 4, (word >>> 24).setWidth 8, (word >>> 16).setWidth 8, (word >>> 8).setWidth 8,
              word.setWidth 8] : List Byte)) ∧
          (∀ job host latch next completed, n = .jobPaused job host latch next completed → tag = 0x03 ∧
            payload = 0x40 :: 1 :: one job ++ 0x49 :: 1 :: one ((if host then 1 else 0) + (if latch then 2 else 0)) ++
              0x4B :: 4 :: four next ++ 0x4E :: 4 :: four completed) ∧
          (∀ job next completed, n = .jobResumed job next completed → tag = 0x04 ∧
            payload = 0x40 :: 1 :: one job ++ 0x4B :: 4 :: four next ++ 0x4E :: 4 :: four completed) ∧
          (∀ job index completed error, n = .segmentDone job index completed error → tag = 0x05 ∧
            payload = 0x40 :: 1 :: one job ++ 0x56 :: 1 :: one index ++ 0x57 :: 2 :: two completed ++
              (match error with
              | none => []
              | some (k, block) => 0x58 :: 3 :: one (errorCode k) ++ two block)) ∧
          (∀ job outcome completed failed first, n = .jobEnded job outcome completed failed first → tag = 0x06 ∧
            payload = 0x40 :: 1 :: one job ++ 0x53 :: 1 :: one (outcomeCode outcome) ++ 0x4E :: 4 :: four completed ++
              0x4F :: 1 :: one failed ++
              (match first with
              | none => []
              | some f => 0x52 :: 5 :: one (errorCode f.kind) ++ one (listCode f.list) ++ one f.segment ++ two f.block)) ∧
          (∀ count, n = .overflow count → tag = 0x07 ∧ payload = 0x0E :: 1 :: one count)) ∧
        (∀ job n, e = .credit job n → kind = 0x03 ∧ tag = 0x02 ∧
          payload = ([0x40, 1, BitVec.ofNat 8 job, 0x50, 1, BitVec.ofNat 8 n] : List Byte)) ∧
        (∀ job k size b, e = .data job k size b → kind = 0x04 ∧ tag = BitVec.ofNat 8 job ∧ payload.length = 2 + size ∧
          payload.take 2 = ([BitVec.ofNat 8 (k / 256), BitVec.ofNat 8 k] : List Byte) ∧
          ∀ i, i < size → payload[2 + i]? = some ((s.buffers.get b).bytes.read i)) ∧
        (∀ cause a pins, e = .hello cause a pins → kind = 0x05 ∧ tag = BitVec.ofNat 8 (resetCauseCode cause) ∧
          payload = ([0x08, 1, tag, 0x04, 1, if l = .A then 1 else 2, 0x09, 1, 0x21, 0x05, 1,
            if a = .closed then 0 else 1, 0x0A, 1, pins.setWidth 8] : List Byte)))) ∧
  (∀ (n k : Nat) (l : Link) (o : Option Link) (a : LatchState) (c : ConditionSet) (i : SlotId) (p : SlotPhase) (b : Bool)
      (r : Rights) (g : Half) (bytes : List Byte),
    Item.bytes (.dataTimeout n) = 0x02 :: 2 :: two n ∧ Item.bytes (.holdLimit n) = 0x03 :: 2 :: two n ∧
    Item.bytes (.link l) = 0x04 :: 1 :: one (linkCode l) ∧ Item.bytes (.latch a) = 0x05 :: 1 :: one (latchCode a) ∧
    Item.bytes .capacity = ([0x06, 13, 8, 8, 8, 4, 16, 8, 0, 8, 4, 4, 12, 2, 0] : List Byte) ∧
    Item.bytes (.slotSummary i p) = 0x07 :: 2 :: one i.val ++ one (slotPhaseCode p) ∧
    Item.bytes (.conditions c) = 0x0C :: 4 :: four c.toNat ∧ Item.bytes (.mask c) = 0x0D :: 4 :: four c.toNat ∧
    Item.bytes (.overflowCount n) = 0x0E :: 1 :: one n ∧ Item.bytes (.window n) = 0x10 :: 1 :: one n ∧
    Item.bytes (.owner o) = 0x11 :: 1 :: one (ownerCode o) ∧ Item.bytes (.base n) = 0x12 :: 4 :: four n ∧
    Item.bytes (.sizePower n) = 0x13 :: 1 :: one n ∧ Item.bytes (.slot n) = 0x14 :: 1 :: one n ∧
    Item.bytes (.moduleOffset n) = 0x15 :: 4 :: four n ∧ Item.bytes (.rightsA r) = 0x16 :: 1 :: one (rightsCode r) ∧
    Item.bytes (.rightsB r) = 0x17 :: 1 :: one (rightsCode r) ∧ Item.bytes (.waits n) = 0x18 :: 1 :: one n ∧
    Item.bytes (.responseLimit n) = 0x19 :: 2 :: two n ∧ Item.bytes (.retries n) = 0x1A :: 1 :: one n ∧
    Item.bytes (.overlap n) = 0x1B :: 1 :: one n ∧
    Item.bytes (.autoBringup b) = 0x22 :: 1 :: one (if b then 1 else 0) ∧
    Item.bytes (.slotState p) = 0x23 :: 1 :: one (slotPhaseCode p) ∧
    (∀ f, Item.bytes (.faultKind f) = 0x24 :: 1 :: one (faultKindCode f)) ∧
    Item.bytes (.generation g) = 0x25 :: 2 :: two g.toNat ∧ Item.bytes (.wp b) = 0x26 :: 1 :: one (if b then 1 else 0) ∧
    Item.bytes (.noResponseCount n) = 0x27 :: 1 :: one n ∧ Item.bytes (.queuePosition n) = 0x28 :: 1 :: one n ∧
    (∀ m, Item.bytes (.moduleClass m) = 0x29 :: 1 :: one (moduleClassCode m)) ∧
    Item.bytes (.capacityCode n) = 0x2A :: 1 :: one n ∧ Item.bytes (.dataWidth n) = 0x2B :: 1 :: one n ∧
    Item.bytes (.minWaits n) = 0x2C :: 1 :: one n ∧
    (bytes.length = 8 → Item.bytes (.serial bytes) = 0x2D :: 8 :: bytes) ∧
    (bytes.length = 16 → Item.bytes (.model bytes) = 0x2E :: 16 :: bytes) ∧
    Item.bytes (.jobTag n) = 0x40 :: 1 :: one n ∧ (∀ m, Item.bytes (.kind m) = 0x41 :: 1 :: one (jobKindCode m)) ∧
    Item.bytes (.listPosition n) = 0x47 :: 1 :: one n ∧
    (∀ m, Item.bytes (.jobState m) = 0x48 :: 1 :: one (jobStatusCode m)) ∧
    (∀ latch, Item.bytes (.pauseCauses b latch) =
      0x49 :: 1 :: one ((if b then 1 else 0) + (if latch then 2 else 0))) ∧
    Item.bytes (.totalBlocks n) = 0x4A :: 4 :: four n ∧ Item.bytes (.nextBlock n) = 0x4B :: 4 :: four n ∧
    Item.bytes (.primaryPosition n k) = 0x4C :: 3 :: one n ++ two k ∧
    Item.bytes (.destPosition n k) = 0x4D :: 3 :: one n ++ two k ∧
    Item.bytes (.blocksCompleted n) = 0x4E :: 4 :: four n ∧ Item.bytes (.failedSegments n) = 0x4F :: 1 :: one n ∧
    Item.bytes (.credits n) = 0x50 :: 1 :: one n ∧ Item.bytes (.nextExpected n) = 0x51 :: 2 :: two n ∧
    (∀ f, Item.bytes (.firstError f) =
      0x52 :: 5 :: one (errorCode f.kind) ++ one (listCode f.list) ++ one f.segment ++ two f.block) ∧
    (∀ m, Item.bytes (.outcome m) = 0x53 :: 1 :: one (outcomeCode m)) ∧
    (∀ m, Item.bytes (.liveEntry n m) = 0x54 :: 2 :: one n ++ one (jobStateCode m)) ∧
    (∀ m, Item.bytes (.historyEntry n m) = 0x55 :: 2 :: one n ++ one (outcomeCode m))) ∧
  [Link.A, .B].map linkCode = [1, 2] ∧ [none, some Link.A, some .B].map ownerCode = [0, 1, 2] ∧
  [LatchState.closed, .opened].map latchCode = [0, 1] ∧ [Rights.none, .read, .readWrite].map rightsCode = [0, 1, 2] ∧
  [SlotPhase.empty, .settling, .present, .queuedForPower, .ramping, .identifying, .ready, .draining, .faulted].map
    slotPhaseCode = [0, 1, 2, 3, 4, 5, 6, 7, 8] ∧
  [FaultKind.overcurrent, .identBad, .identNoResponse, .unresponsive].map faultKindCode = [1, 2, 3, 4] ∧
  [ModuleClass.readWrite, .readOnly].map moduleClassCode = [1, 2] ∧
  [JobKind.read, .write, .copy, .fill].map jobKindCode = [1, 2, 3, 4] ∧
  [JobState.queued, .running, .pausing, .paused, .cancelling].map jobStateCode = [1, 2, 3, 4, 5] ∧
  (∀ m, jobStatusCode (.live m) = jobStateCode m) ∧ jobStatusCode .ended = 6 ∧
  [JobOutcome.done, .doneWithErrors, .failed, .cancelled, .holdExpired].map outcomeCode = [1, 2, 3, 4, 5] ∧
  [ListId.primary, .destination].map listCode = [1, 2] ∧
  [ErrorKind.decodeMiss, .decodeConflict, .split, .protection, .slotNotReady, .outOfModule, .moduleLocked, .noResponse,
    .moduleReject, .dataCheck, .slotGone, .slotFault, .dataTimeout, .dataSequence, .dataUnsolicited].map errorCode =
    [1, 2, 3, 4, 5, 6, 7, 8, 9, 10, 11, 12, 13, 14, 15] ∧
  [ResetCause.powerOn, .partResetA, .partResetB, .linkRequest, .linkBreak].map resetCauseCode = [1, 2, 3, 4, 5] ∧
  [ReplyCode.ok, .noSession, .sessionOpen, .badFormat, .unknownRequest, .badParam, .queueFull, .duplicateTag, .unknownJob,
    .notActive, .notPaused, .alreadyPaused, .cancelling, .ended, .ownedByOther, .notOwner, .slotState, .slotBusy].map
    replyCodeCode = [0, 1, 2, 3, 4, 5, 6, 7, 8, 9, 10, 11, 12, 13, 14, 15, 16, 17]

/-- R39, R41, R152, R164, R165: the place of a sent entry frees, and its class is told. After a DATA entry the
lanes go on, that of the link first (log entry 14). -/
def Obligations.TransmissionEndFreesThePlace : Prop :=
  ∀ (l : Link) (e : Entry) (es : List Entry) (s : State), s.inReset = false → (s.link l).transmitting = true →
    (s.link l).outbound = e :: es →
    ∀ u : State, u = s.onLink l (fun x => { x with outbound := es, transmitting := false }) →
    (∀ n, e = .notice n →
      ((s.link l).overflow = 0 → exec (.transmissionEnd l) s = .next u.kick) ∧
      (0 < (s.link l).overflow → exec (.transmissionEnd l) s = .next (u.onLink l (fun x =>
        { x with outbound := es ++ [.notice (.overflow (s.link l).overflow)], overflow := 0 })).kick)) ∧
    (∀ tag sequence size b, e = .data tag sequence size b → s.waitList = [] →
      exec (.transmissionEnd l) s = .next ((u.setHolder b .free).settle l).kick) ∧
    (∀ tag n, e = .credit tag n →
      ((s.link l).lane.pendingCredits = 0 → exec (.transmissionEnd l) s = .next u.kick) ∧
      (∀ j, (s.link l).working j → 0 < (s.link l).lane.pendingCredits →
        exec (.transmissionEnd l) s = .next (u.onLink l (fun x =>
          { x with
            outbound := es ++ [.credit j.tag (s.link l).lane.pendingCredits]
            lane := { x.lane with pendingCredits := 0 } })).kick)) ∧
    (e.isReply = true → (s.link l).session ≠ .resetPending →
      ((s.link l).intake = [] → exec (.transmissionEnd l) s = .next u.kick) ∧
      (∀ (r : Request) rest c, r.wellFormed = true → r.command l = some c → es.countP Entry.isReply < 4 →
        (s.link l).intake = ⟨BitVec.ofNat 8 r.code, r.payload⟩ :: rest →
        exec (.transmissionEnd l) s = exec c (u.onLink l (fun x => { x with intake := rest }))))

/-! ## Slot, write-protect and latch events -/

/-- R99, R102, R103, R105 to R107: PRESs asserting in EMPTY starts settling, and a bounce cancels it. A settled slot is
PRESENT, or joins the power wait list and ramps; a slot that has ramped is identified; and the Ramp Sequencer takes the
head of the list, faulting each slot whose TRIPs is asserted already. That PRESs asserting outside EMPTY and deasserting in
EMPTY, and an expiry of a timer that is stopped, change nothing else is deduced (log entry 5). -/
def Obligations.SlotsSettleAndRampInTurn : Prop :=
  ∀ (i : SlotId) (s : State), s.inReset = false →
    ((s.slot i).state = .empty →
      exec (.presAssert i) s = .next (s.onSlot i (fun x =>
        { x with presPin := true, state := .settling, settleTimer := .running 100 })).kick ∧
      exec (.presDeassert i) s = .next (s.onSlot i (fun x => { x with presPin := false })).kick) ∧
    ((s.slot i).state ≠ .empty →
      exec (.presAssert i) s = .next (s.onSlot i (fun x => { x with presPin := true })).kick) ∧
    ((s.slot i).state = .settling → (s.slot i).law = true →
      exec (.presDeassert i) s = .next (s.onSlot i (fun x =>
        { x with presPin := false, state := .empty, settleTimer := .stopped })).kick) ∧
    ((s.slot i).settleTimer = .stopped → exec (.settleTimerExpiry i) s = .next s.kick) ∧
    ((s.slot i).settleTimer ≠ .stopped →
      ((s.slot i).autoBringup = false →
        exec (.settleTimerExpiry i) s =
          .next ((s.onSlot i (Slot.enter .present)).raiseBoth (.inserted i)).kick) ∧
      ((s.slot i).autoBringup = true → s.ramping ≠ none →
        exec (.settleTimerExpiry i) s = .next (({ s with powerWait := s.powerWait ++ [i] }.onSlot i
          (Slot.enter .queuedForPower)).raiseBoth (.inserted i)).kick) ∧
      ((s.slot i).autoBringup = true → s.ramping = none → s.powerWait = [] → (s.slot i).tripPin = false →
        exec (.settleTimerExpiry i) s = .next (({ s with ramping := some i }.onSlot i (fun x =>
          { x.enter .ramping with rampTimer := .running 20 })).raiseBoth (.inserted i)).kick)) ∧
    ((s.slot i).rampTimer = .stopped → exec (.rampTimerExpiry i) s = .next s.kick) ∧
    ((s.slot i).rampTimer ≠ .stopped → i ∉ s.powerWait →
      ∃ t, exec (.rampTimerExpiry i) s = .next t ∧ t.slot i = (s.slot i).enter .identifying ∧
        t.identQueue = s.identQueue ++ [i] ∧ t.windows = s.windows ∧ t.buffers = s.buffers ∧ t.latch = s.latch ∧
        (s.powerWait = [] → t.ramping = none ∧ (∀ k, k ≠ i → t.slot k = s.slot k) ∧
          ∀ m, t.link m = (s.link m).kick) ∧
        (∀ k ks, s.powerWait = k :: ks → k ≠ i → (s.slot k).tripPin = false → t.ramping = some k ∧ t.powerWait = ks ∧
          (t.slot k).state = .ramping ∧ (t.slot k).rampTimer = .running 20 ∧ ∀ m, t.link m = (s.link m).kick) ∧
        (s.bus.state = .free → s.bus.requestIdentify = none → s.identQueue = [] →
          t.bus.state = .granted (.identify i))) ∧
    (∀ tripped k rest, s.ramping = none → s.powerWait = tripped ++ k :: rest → s.powerWait.Nodup →
      (∀ n ∈ tripped, (s.slot n).tripPin = true) → (s.slot k).tripPin = false →
      s.rampStep = tripped.foldl (fun (v : State) n => v.raiseBoth (.fault n))
        ({ tripped.foldl (fun (u : State) n => u.onSlot n (Slot.fail .overcurrent)) s with
          powerWait := rest
          ramping := some k }.onSlot k (fun x => { x.enter .ramping with rampTimer := .running 20 }))) ∧
    (s.ramping = none → s.powerWait.Nodup → (∀ n ∈ s.powerWait, (s.slot n).tripPin = true) →
      s.rampStep = s.powerWait.foldl (fun (v : State) n => v.raiseBoth (.fault n))
        { s.powerWait.foldl (fun (u : State) n => u.onSlot n (Slot.fail .overcurrent)) s with powerWait := [] })

/-- R99, R104, R107, R116, R117, R139: a removal in every state but EMPTY and SETTLING, and a trip of a powered slot, where
no block of a job is in flight to the slot; and a TRIPs level that is no trip. The Identify Sequencer asks for its new head
at once, though a grant for the slot that has left is still outstanding: that is the model's choice (log entry 14). -/
def Obligations.SlotsLoseTheirPower : Prop :=
  ∀ (i : SlotId) (s : State), s.inReset = false →
    (∀ c condition after,
      ((c = .presDeassert i ∧ condition = .removed i ∧ (s.slot i).state ≠ .empty ∧ (s.slot i).state ≠ .settling ∧
          after = { s.slot i with
            presPin := false
            state := .empty
            faultKind := none
            identity := none
            settleTimer := .stopped
            rampTimer := .stopped }) ∨
        (c = .trip i true ∧ condition = .fault i ∧ (s.slot i).state ∈ [.ramping, .identifying, .ready, .draining] ∧
          after = { s.slot i with
            tripPin := true
            state := .faulted
            faultKind := some .overcurrent
            identity := none
            settleTimer := .stopped
            rampTimer := .stopped })) →
      (∀ x m, s.bus.state = .inFlight x → x.slot = i → x.requester ≠ .lane m) →
      ((s.slot i).state = .ramping → s.powerWait = []) →
      ∃ t, exec c s = .next t ∧ t.slot i = after ∧ (∀ k, k ≠ i → t.slot k = s.slot k) ∧
        t.powerWait = s.powerWait.filter (· ≠ i) ∧ t.identQueue = s.identQueue.filter (· ≠ i) ∧
        t.ramping = (if s.ramping = some i then none else s.ramping) ∧ t.bus.requestIdentify ≠ some i ∧
        (∀ k ks, s.bus.state = .granted (.identify i) → s.bus.requestIdentify = none →
          s.identQueue.filter (· ≠ i) = k :: ks → t.bus.requestIdentify = some k ∧ t.bus.state = s.bus.state) ∧
        t.pwren i = false ∧ t.sel i = false ∧ (∀ m, t.link m = ((s.link m).raise condition).kick) ∧
        t.windows = s.windows ∧ t.buffers = s.buffers ∧ t.latch = s.latch ∧
        (∀ x, s.bus.state = .inFlight x → x.slot ≠ i → t.bus.state = s.bus.state)) ∧
    (∀ asserted, asserted = false ∨ (s.slot i).state ∉ [.ramping, .identifying, .ready, .draining] →
      exec (.trip i asserted) s = .next (s.onSlot i (fun x => { x with tripPin := asserted })).kick)

/-- R73, R122: the debouncers of WP and of the latch, and the accepted WP state. That the pin commands turn the level over
is the model's choice (log entry 9), and that an expiry of a debouncer that is stopped changes nothing is deduced (log
entry 5). -/
def Obligations.PinsAreDebounced : Prop :=
  ∀ (i : SlotId) (s : State), s.inReset = false →
    exec (.wpPinChange i) s = .next (s.onSlot i (fun x =>
      { x with
        wpPin := !x.wpPin
        wpDebounce := if (!x.wpPin) = x.wp then .stopped else .running 10 })).kick ∧
    ((s.slot i).wpDebounce = .stopped → exec (.wpDebounceExpiry i) s = .next s.kick) ∧
    ((s.slot i).wpDebounce ≠ .stopped →
      ∀ u : State, u = s.onSlot i (fun x => { x with wp := x.wpPin, wpDebounce := .stopped }) →
      ((s.slot i).state = .empty → exec (.wpDebounceExpiry i) s = .next u.kick) ∧
      ((s.slot i).state ≠ .empty → exec (.wpDebounceExpiry i) s = .next (u.raiseBoth (.wpChanged i)).kick)) ∧
    exec .baylatchPinChange s = .next ({ s with
      latchPin := !s.latchPin
      latchDebounce := if (s.latchPin = false ↔ s.latch = LatchState.closed) then .stopped else .running 10 }).kick ∧
    (s.latchDebounce = .stopped → ∀ first l, exec (.latchDebounceExpiry first l) s = .next s.kick)

/-- R58, R61, R62, R70, R73, R74, R75: a latch opening and a latch closing, in each order that R154 leaves open: at each
link by itself, the condition or the Job Scheduler's part first, and either link first at the Job Scheduler. The orders are
operands of the command (log entry 14). Behind a closing the lanes go on, that of the link served first: an IDLE one starts
its QUEUED head, and a job that has resumed goes on. -/
def Obligations.LatchReportsReachTheJobs : Prop :=
  ∀ (conditionsFirst : ConditionsFirst) (first : Link) (s : State), s.inReset = false → s.latchDebounce ≠ .stopped →
    (s.latchPin = false →
      ∃ t, exec (.latchDebounceExpiry conditionsFirst first) s = .next t ∧ t.latch = .opened ∧ t.latchHold = true ∧
        t.latchDebounce = .stopped ∧ t.slots = s.slots ∧ t.windows = s.windows ∧ t.buffers = s.buffers ∧
        ∀ m, (t.link m).session = (s.link m).session ∧
          ((s.link m).session = .opened → (t.link m).conditions = (s.link m).conditions ||| BitVec.twoPow 25 20) ∧
          ((s.link m).session ≠ .opened → (t.link m).conditions = (s.link m).conditions) ∧
          ((s.link m).live = [] → (t.link m).live = []) ∧
          (∀ (j : Job) (js : List Job), (s.link m).live = j :: js →
            (j.state = .queued ∨ j.state = .cancelling → (t.link m).live = j :: js) ∧
            (j.state = .pausing ∨ j.state = .paused → (t.link m).live = { j with causeLatch := true } :: js) ∧
            (j.state = .running → s.bus.laneInFlight m = true →
              (t.link m).live =
                { j with
                  state := .pausing
                  causeLatch := true
                  dataTimer :=
                    if j.kind = .write ∧ 0 < j.credits then .running ((s.link m).dataTimeout.getD 1000)
                    else .stopped } :: js) ∧
            (j.state = .running → s.bus.laneInFlight m = false → j.causeHost = false →
              (t.link m).live =
                { j with state := .paused, causeLatch := true, holdTimer := .stopped, dataTimer := .stopped } :: js ∧
              m ∉ t.waitList ∧ t.bus.request m = none ∧
              ((s.link m).notices < 11 →
                .notice (.jobPaused j.tag false true j.nextBlock j.completed) ∈ (t.link m).outbound)))) ∧
    (s.latchPin = true →
      ∀ resumed : LinkState → LinkState, resumed = (fun x => match x.live with
        | [] => x
        | j :: js =>
          if j.state = .pausing ∨ j.state = .paused then
            if j.causeHost = true then { x with live := { j with causeLatch := false } :: js }
            else
              let y := { x with live :=
                { j with
                  state := .running
                  causeLatch := false
                  holdTimer := .stopped
                  dataTimer :=
                    if j.kind = .write ∧ 0 < j.credits then .running (x.dataTimeout.getD 1000) else .stopped } :: js }
              if j.state = .paused then y.offer (.jobResumed j.tag j.nextBlock j.completed) else y
          else x) →
      ∀ raised : Bool → Bool → State → State, raised = (fun atA atB u =>
        { u with
          linkA := if atA then u.linkA.raise .latchClosed else u.linkA
          linkB := if atB then u.linkB.raise .latchClosed else u.linkB }) →
      ∀ closed : State, closed = raised conditionsFirst.atA conditionsFirst.atB
        { s with latch := .closed, latchHold := false, latchDebounce := .stopped } →
      exec (.latchDebounceExpiry conditionsFirst first) s = .next (raised (!conditionsFirst.atA) (!conditionsFirst.atB)
        ({ closed with linkA := resumed closed.linkA, linkB := resumed closed.linkB }.settle first)).kick) ∧
    (s.latchPin = true →
      ∃ t, exec (.latchDebounceExpiry conditionsFirst first) s = .next t ∧ t.latch = .closed ∧ t.latchHold = false ∧
        t.latchDebounce = .stopped ∧ t.slots = s.slots ∧ t.windows = s.windows ∧
        ∀ m, (t.link m).session = (s.link m).session ∧
          ((s.link m).session = .opened → (t.link m).conditions = (s.link m).conditions ||| BitVec.twoPow 25 21) ∧
          ((s.link m).session ≠ .opened → (t.link m).conditions = (s.link m).conditions) ∧
          (∀ (j : Job) (js : List Job), (s.link m).live = j :: js → (s.link m).lane.state = .busy →
            (j.state = .cancelling → (t.link m).live = j :: js) ∧
            (j.state = .pausing ∨ j.state = .paused → j.causeHost = true →
              (t.link m).live = { j with causeLatch := false } :: js) ∧
            (j.state = .pausing → j.causeHost = false → j.kind = .read → s.bus.laneInFlight m = true →
              (∃ b tag n, s.useOf m b = some (.inTransfer tag n)) →
              (t.link m).live =
                { j with state := .running, causeLatch := false, holdTimer := .stopped, dataTimer := .stopped } :: js) ∧
            (j.state = .paused → j.causeHost = false → (s.link m).notices < 11 →
              .notice (.jobResumed j.tag j.nextBlock j.completed) ∈ (t.link m).outbound)))

/-! ## The module bus -/

/-- R37, R107, R108, R128, R129, R130: the arbiter, whenever the bus is FREE: the Identify Sequencer first, then the lanes
by the round-robin pointer. A grant is taken, with its transfer record; or it finds the slot changed, which is a segment
error; or it is returned, by a lane that has withdrawn, or by the Identify Sequencer whose new head then stands before the
lanes (log entry 14). The Identify Sequencer asks for the head of its queue where the head's read is neither requested, nor
granted, nor in flight. -/
def Obligations.GrantsAreMadeTakenOrReturned : Prop :=
  (∀ b : Bus,
    (b.state ≠ .free → b.decide = b) ∧
    (b.state = .free →
      (∀ i, b.requestIdentify = some i →
        b.decide = { b with state := .granted (.identify i), requestIdentify := none }) ∧
      (b.requestIdentify = none →
        (∀ r, b.requestA = some r → (b.requestB = none ∨ b.pointer = .A) →
          b.decide = { b with state := .granted (.lane .A r false), requestA := none, pointer := .B }) ∧
        (∀ r, b.requestB = some r → (b.requestA = none ∨ b.pointer = .B) →
          b.decide = { b with state := .granted (.lane .B r false), requestB := none, pointer := .A }) ∧
        (b.requestA = none → b.requestB = none → b.decide = b)))) ∧
  (∀ s : State, (s.identQueue = [] → s.identStep = s.onBus Bus.decide) ∧
    ∀ i rest, s.identQueue = i :: rest →
      (s.bus.requestIdentify ≠ none ∨ s.bus.state = .granted (.identify i) ∨
          (∃ x, s.bus.state = .inFlight x ∧ x.requester = .identify) → s.identStep = s.onBus Bus.decide) ∧
      (s.bus.requestIdentify = none → s.bus.state ≠ .granted (.identify i) →
        (∀ x, s.bus.state = .inFlight x → x.requester ≠ .identify) →
        s.identStep = s.onBus (fun bus => Bus.decide { bus with requestIdentify := some i }))) ∧
  (∀ s : State, s.inReset = false →
    (∀ l r j js bind d b, s.bus.state = .granted (.lane l r false) → (s.link l).live = j :: js → j.state = .running →
      (if j.kind = .copy ∧ r.direction = .write then j.bindDestination else j.bindPrimary) = some bind →
      (s.slot r.slot).state = .ready → (s.slot r.slot).generation = bind.generation →
      (s.slot r.slot).identity = some d → s.transferBuffer l j (j.kind.listOf r.direction) = some b →
      ∀ x : Transfer, x =
        { requester := .lane l
          slot := r.slot
          direction := r.direction
          dataWidth := d.dataWidth
          address := r.address
          wordCount := r.blockSize / (d.dataWidth / 8)
          waits := r.waits
          limit := r.limit
          retriesLeft := r.retries
          wordIndex := 0
          buffer := some b
          phase := if s.bus.mack || s.bus.mrej then .release else .waitTime (40 + r.waits * 40)
          watchdog := .running r.limit } →
      (j.kind ≠ .fill →
        exec .grant s = .next ((s.setHolder b (.lane l (.inTransfer j.tag j.nextBlock))).onBus
          (fun bus => { bus with state := .inFlight x })).kick) ∧
      (j.kind = .fill → exec .grant s = .next (s.onBus (fun bus => { bus with state := .inFlight x })).kick)) ∧
    (∀ l r withdrawn, s.bus.state = .granted (.lane l r withdrawn) →
      (withdrawn = true ∨ ∀ j, (s.link l).working j → j.state ≠ .running) →
      exec .grant s =
        .next ((s.onBus (fun bus => Bus.decide { bus with state := .free })).settle l).kick) ∧
    (∀ i, s.bus.state = .granted (.identify i) → s.identQueue.head? = some i → (s.slot i).state = .identifying →
      ∀ x : Transfer, x =
        { requester := .identify
          slot := i
          direction := .read
          dataWidth := 8
          address := 0
          wordCount := 32
          waits := 7
          limit := 1000
          retriesLeft := 1
          wordIndex := 0
          buffer := none
          phase := if s.bus.mack || s.bus.mrej then .release else .waitTime 320
          watchdog := .running 1000 } →
      exec .grant s = .next (s.onBus (fun bus => { bus with state := .inFlight x })).kick) ∧
    (∀ l r j js bind e, s.bus.state = .granted (.lane l r false) → (s.link l).live = j :: js → j.state = .running →
      (if j.kind = .copy ∧ r.direction = .write then j.bindDestination else j.bindPrimary) = some bind →
      (((s.slot r.slot).generation ≠ bind.generation ∧ e = .slotGone) ∨
        ((s.slot r.slot).generation = bind.generation ∧ (s.slot r.slot).state ≠ .ready ∧ e = .slotNotReady)) →
      exec .grant s = .next (((s.onBus (fun bus => Bus.decide { bus with state := .free })).segmentError l
        (if j.kind = .copy ∧ r.direction = .write then .destination else .primary) e).settle l).kick) ∧
    (∀ i, s.bus.state = .granted (.identify i) → (s.identQueue.head? ≠ some i ∨ (s.slot i).state ≠ .identifying) →
      ∀ regrant : SlotId → State, regrant = (fun k =>
        s.onBus (fun bus => { bus with state := .granted (.identify k), requestIdentify := none })) →
      (∀ k, s.bus.requestIdentify = some k → exec .grant s = .next (regrant k).kick) ∧
      (s.bus.requestIdentify = none →
        (∀ k ks, s.identQueue = k :: ks → exec .grant s = .next (regrant k).kick) ∧
        (s.identQueue = [] →
          exec .grant s = .next (s.onBus (fun bus => Bus.decide { bus with state := .free })).kick))))

/-- R101, R130, R131, R134: the pins that follow the state. PWRENs is high exactly while slot s has power; SELs, MSTB and
the word address are those of the transfer in flight; data is driven for a write alone, in the byte order of the block and
with good parity. -/
def Obligations.OutputPinsFollowTheState : Prop :=
  ∀ s : State,
    (∀ i, s.pwren i = true ↔ (s.slot i).state ∈ [.ramping, .identifying, .ready, .draining]) ∧
    (∀ i, s.sel i = true ↔ ∃ x, s.bus.state = .inFlight x ∧ x.slot = i) ∧
    (s.mstb = true ↔ ∃ x, s.bus.state = .inFlight x ∧ x.phase ≠ .release) ∧
    ((∀ x, s.bus.state ≠ .inFlight x) → s.driven = none) ∧
    (∀ x, s.bus.state = .inFlight x → (x.dataWidth = 8 ∨ x.dataWidth = 16) →
      (x.mwr = true ↔ x.direction = .write) ∧
      (x.address / (x.dataWidth / 8) + x.wordIndex < 2 ^ 28 →
        x.wordAddress.toNat = x.address / (x.dataWidth / 8) + x.wordIndex) ∧
      (x.direction = .read → s.driven = none) ∧
      (x.direction = .write → ∀ b, x.buffer = some b → ∃ md mdp, s.driven = some (md, mdp) ∧
        parityGood x.dataWidth md mdp = true ∧
        (x.dataWidth = 16 → (md >>> 8).setWidth 8 = (s.buffers.get b).bytes.read (2 * x.wordIndex) ∧
          md.setWidth 8 = (s.buffers.get b).bytes.read (2 * x.wordIndex + 1)) ∧
        (x.dataWidth = 8 → md >>> 8 = 0 ∧ md.setWidth 8 = (s.buffers.get b).bytes.read x.wordIndex)))

/-- R131 to R135: the steps of a word cycle that do not end the transfer: the response lines before their time, the wait
time, the release, a word stored or written, and a new attempt. A response that comes after the watchdog of its word has
expired is not taken for a later word, though its levels stand; that it is known as late, by an operand, is the model's
choice (log entry 19). -/
def Obligations.WordsFollowTheirSteps : Prop :=
  ∀ (x : Transfer) (s : State), s.inReset = false → s.bus.state = .inFlight x →
    (∀ (r : Response) (md : Half) (mdp mperr : Bool),
      ∀ u : State, u = s.onBus (fun b =>
        { b with
          mack := r.lines != .reject
          mrej := r.lines != .ack
          md := md
          mdp := mdp
          mperr := mperr
          late := r.late }) →
      (x.phase ≠ .response ∨ r.late = true → exec (.wordResponse r md mdp mperr) s = .next u.kick) ∧
      (x.phase = .response → r = ⟨.ack, false⟩ →
        ∀ next : Transfer, next =
          { x with wordIndex := x.wordIndex + 1, phase := .release, watchdog := .running x.limit } →
        (x.wordIndex + 1 < x.wordCount →
          (∀ b, x.direction = .read → x.requester ≠ .identify → x.buffer = some b →
            parityGood x.dataWidth md mdp = true →
            ∀ bytes, (x.dataWidth = 16 ∧ bytes = ((s.buffers.get b).bytes.write (2 * x.wordIndex)
                  ((md >>> 8).setWidth 8)).write (2 * x.wordIndex + 1) (md.setWidth 8)) ∨
                (x.dataWidth = 8 ∧ bytes = (s.buffers.get b).bytes.write x.wordIndex (md.setWidth 8)) →
            exec (.wordResponse r md mdp mperr) s =
              .next ((u.setBytes b bytes).onBus (fun bus => { bus with state := .inFlight next })).kick) ∧
          (x.direction = .write → mperr = false →
            exec (.wordResponse r md mdp mperr) s =
              .next (u.onBus (fun bus => { bus with state := .inFlight next })).kick)) ∧
        (∀ n, x.retriesLeft = n + 1 →
          ((x.direction = .read ∧ parityGood x.dataWidth md mdp = false) ∨ (x.direction = .write ∧ mperr = true)) →
          ∀ again : Transfer, again =
            { x with retriesLeft := n, wordIndex := 0, phase := .release, watchdog := .running x.limit } →
          exec (.wordResponse r md mdp mperr) s =
            .next (u.onBus (fun bus => { bus with state := .inFlight again })).kick))) ∧
    (∀ ns, x.phase = .waitTime ns →
      ∀ waits : State, waits = s.onBus (fun b => { b with state := .inFlight { x with phase := .response } }) →
      ((s.bus.mack = false ∧ s.bus.mrej = false) ∨ s.bus.late = true → exec .waitTimeEnd s = .next waits.kick) ∧
      (∀ lines : ResponseLines, s.bus.late = false → s.bus.mack = (lines != .reject) → s.bus.mrej = (lines != .ack) →
        exec .waitTimeEnd s = exec (.wordResponse ⟨lines, false⟩ s.bus.md s.bus.mdp s.bus.mperr) waits)) ∧
    (∀ u : State, u = s.onBus (fun b => { b with mack := false, mrej := false, late := false }) →
      (x.phase = .release → exec .responseLinesReleased s =
        .next (u.onBus (fun b => { b with state := .inFlight { x with phase := .waitTime (40 + x.waits * 40) } })).kick) ∧
      (x.phase ≠ .release → exec .responseLinesReleased s = .next u.kick)) ∧
    (∀ n, x.retriesLeft = n + 1 → x.watchdog ≠ .stopped →
      ∀ again : Transfer, again =
        { x with
          retriesLeft := n
          wordIndex := 0
          phase := if s.bus.mack || s.bus.mrej then .release else .waitTime (40 + x.waits * 40)
          watchdog := .running x.limit } →
      exec .responseWatchdogExpiry s = .next (s.onBus (fun b => { b with state := .inFlight again })).kick)

/-- R115, R118, R124, R132 to R137, R139: how a block transfer of a lane ends: with success at the response of its last
word, with MODULE_REJECT, with DATA_CHECK or NO_RESPONSE when no retry is left, or abandoned at a removal or a trip. The
count of no-responses follows, the third in a row faults the slot UNRESPONSIVE, a DRAINING slot goes to PRESENT, and the
lane takes the report before the arbiter decides. The lanes then go on, that of the report first (log entry 14). What the
lane makes of the report is stated above. -/
def Obligations.TransferEndsAreHandedOn : Prop :=
  ∀ (l : Link) (x : Transfer) (s : State), s.inReset = false → s.bus.state = .inFlight x → x.requester = .lane l →
    ∀ handedOn : State → Report → State, handedOn = (fun u r =>
      ((((u.onBus (fun bus => { bus with state := .free })).takeReport l x.direction r).onBus Bus.decide).settle l).kick) →
    ∀ counted : State → Nat → State, counted = (fun u n => u.onSlot x.slot (fun y =>
      if y.state = .draining then { y.enter .present with noResponse := n } else { y with noResponse := n })) →
    (∀ (r : Response) (md : Half) (mdp mperr : Bool), x.phase = .response → r.late = false →
      ∀ u : State, u = s.onBus (fun b =>
        { b with
          mack := r.lines != .reject
          mrej := r.lines != .ack
          md := md
          mdp := mdp
          mperr := mperr
          late := false }) →
      (r.lines ≠ .ack → exec (.wordResponse r md mdp mperr) s =
        .next (handedOn (counted u (s.slot x.slot).noResponse) (.error .moduleReject))) ∧
      (r.lines = .ack →
        (x.retriesLeft = 0 →
          ((x.direction = .read ∧ parityGood x.dataWidth md mdp = false) ∨ (x.direction = .write ∧ mperr = true)) →
          exec (.wordResponse r md mdp mperr) s =
            .next (handedOn (counted u (s.slot x.slot).noResponse) (.error .dataCheck))) ∧
        (x.wordCount ≤ x.wordIndex + 1 →
          (x.direction = .write → mperr = false → exec (.wordResponse r md mdp mperr) s =
            .next (handedOn (counted u 0) .success)) ∧
          (∀ b, x.direction = .read → parityGood x.dataWidth md mdp = true → x.buffer = some b →
            ∀ bytes, (x.dataWidth = 16 ∧ bytes = ((s.buffers.get b).bytes.write (2 * x.wordIndex)
                  ((md >>> 8).setWidth 8)).write (2 * x.wordIndex + 1) (md.setWidth 8)) ∨
                (x.dataWidth = 8 ∧ bytes = (s.buffers.get b).bytes.write x.wordIndex (md.setWidth 8)) →
            exec (.wordResponse r md mdp mperr) s =
              .next (handedOn (counted (u.setBytes b bytes) 0) .success))))) ∧
    (x.watchdog ≠ .stopped → x.retriesLeft = 0 →
      ((s.slot x.slot).noResponse ≠ 2 → exec .responseWatchdogExpiry s =
        .next (handedOn (counted s ((s.slot x.slot).noResponse + 1)) (.error .noResponse))) ∧
      ((s.slot x.slot).noResponse = 2 → (s.slot x.slot).state ∈ [.ready, .draining] →
        exec .responseWatchdogExpiry s = .next (handedOn
          ((s.onSlot x.slot (fun y => { y.fail .unresponsive with noResponse := 3 })).raiseBoth (.fault x.slot))
          (.error .noResponse)))) ∧
    ((s.slot x.slot).state ∈ [.ready, .draining] → x.slot ∉ s.powerWait → s.ramping ≠ some x.slot →
      x.slot ∉ s.identQueue → s.bus.requestIdentify = none →
      ∀ abandoned : State → ErrorKind → State, abandoned = (fun u e =>
        ((((u.onBus (fun bus => { bus with state := .free })).takeReport l x.direction (.error e)).identStep).settle
          l).kick) →
      exec (.presDeassert x.slot) s = .next (abandoned
        ((s.onSlot x.slot (fun y => { y.enter .empty with presPin := false })).raiseBoth (.removed x.slot)) .slotGone) ∧
      exec (.trip x.slot true) s = .next (abandoned
        ((s.onSlot x.slot (fun y => { y.fail .overcurrent with tripPin := true })).raiseBoth (.fault x.slot))
          .slotFault))

/-- R17, R18, R23, R37, R124, R135, R137, R139: a block error ends a job with STOP_ON_ERROR set FAILED, with that error, the
list, the segment and the block as its first error: a rejected word, the last attempt without an answer or with bad
parity, a removal, a trip, and a grant that finds the slot changed. -/
def Obligations.BlockErrorsStopTheJob : Prop :=
  ∀ (l : Link) (j : Job) (c : Instr) (dir : Direction) (e : ErrorKind) (s : State), s.inReset = false →
    (s.link l).live = [j] → (s.link l).lane.state = .busy → j.stopOnError = true →
    ((∃ x : Transfer, s.bus.state = .inFlight x ∧ x.requester = .lane l ∧ x.direction = dir ∧
        (j.state = .running ∨ j.state = .pausing) ∧
        ((∃ (r : Response) (md : Half) (mdp mperr : Bool), c = .wordResponse r md mdp mperr ∧ r.lines ≠ .ack ∧
            r.late = false ∧ x.phase = .response ∧ e = .moduleReject) ∨
          (∃ md mdp mperr, c = .wordResponse ⟨.ack, false⟩ md mdp mperr ∧ x.phase = .response ∧ x.retriesLeft = 0 ∧
            ((dir = .read ∧ parityGood x.dataWidth md mdp = false) ∨ (dir = .write ∧ mperr = true)) ∧ e = .dataCheck) ∨
          (c = .responseWatchdogExpiry ∧ x.watchdog ≠ .stopped ∧ x.retriesLeft = 0 ∧ e = .noResponse) ∨
          (c = .presDeassert x.slot ∧ (s.slot x.slot).state ∈ [.ready, .draining] ∧ e = .slotGone) ∨
          (c = .trip x.slot true ∧ (s.slot x.slot).state ∈ [.ready, .draining] ∧ e = .slotFault))) ∨
      (∃ (r : BusRequest) (bind : Binding), s.bus.state = .granted (.lane l r false) ∧ c = .grant ∧ r.direction = dir ∧
        j.state = .running ∧
        (if j.kind = .copy ∧ dir = .write then j.bindDestination else j.bindPrimary) = some bind ∧
        (((s.slot r.slot).generation ≠ bind.generation ∧ e = .slotGone) ∨
          ((s.slot r.slot).generation = bind.generation ∧ (s.slot r.slot).state ≠ .ready ∧ e = .slotNotReady)))) →
    ∃ (t : State) (i : ListId) (p : Position), exec c s = .next t ∧
      (i = if j.kind = .copy ∧ dir = .write then .destination else .primary) ∧
      (p = if j.kind = .copy ∧ dir = .write then j.posDestination else j.posPrimary) ∧
      (t.link l).live = [] ∧ (t.link l).lane = ⟨.idle, 0, 0⟩ ∧
      (t.link l).history =
        ((s.link l).history ++
          [HistoryEntry.mk j.tag j.kind .failed j.completed 1 (some ⟨e, i, p.segment, p.block⟩)]).drop
          ((s.link l).history.length + 1 - 8) ∧
      (t.link l).session = (s.link l).session ∧ (t.link l).mask = (s.link l).mask ∧ t.windows = s.windows ∧
      t.latch = s.latch ∧ t.bus.laneInFlight l = false ∧ t.bus.request l = none

/-- R14, R25, R36, R38, R136: the last word of a READ block that is not the job's last. The block stands in an OUTBOUND
buffer, its DATA entry has joined the queue behind what stood there, and the count of no-responses is 0. That no waiting
CREDIT is another job's is a law that every step keeps (`EveryStepKeepsTheLanes`). -/
def Obligations.ReadBlocksJoinTheQueue : Prop :=
  ∀ (l : Link) (j : Job) (js : List Job) (x : Transfer) (b : BufId) (md : Half) (mdp mperr : Bool) (s : State),
    s.inReset = false → (s.link l).live = j :: js → (s.link l).lane.state = .busy → j.kind = .read →
    (j.state = .running ∨ j.state = .pausing) → j.nextBlock + 1 < j.total →
    s.bus.state = .inFlight x → x.requester = .lane l → x.direction = .read → x.phase = .response →
    x.wordIndex + 1 = x.wordCount → parityGood x.dataWidth md mdp = true → x.dataWidth = 8 ∨ x.dataWidth = 16 →
    x.buffer = some b → s.findUse l BufferUse.isInTransfer = some b → (s.link l).creditPlaceLaw = true →
    ∃ t es, exec (.wordResponse ⟨.ack, false⟩ md mdp mperr) s = .next t ∧
      (t.link l).outbound = (s.link l).outbound ++ .data j.tag j.nextBlock j.blockSize b :: es ∧
      (∀ e ∈ es, e.isReply = false ∧ e.isData = false) ∧
      (t.buffers.get b).holder = .lane l (.outbound j.tag j.nextBlock) ∧
      (t.buffers.get b).bytes = (if x.dataWidth = 16 then
        ((s.buffers.get b).bytes.write (2 * x.wordIndex) ((md >>> 8).setWidth 8)).write (2 * x.wordIndex + 1)
          (md.setWidth 8)
        else (s.buffers.get b).bytes.write x.wordIndex (md.setWidth 8)) ∧
      (t.slot x.slot).noResponse = 0 ∧ ((s.slot x.slot).state ≠ .draining → t.slot x.slot =
        { s.slot x.slot with noResponse := 0 }) ∧
      ((s.slot x.slot).state = .draining → (t.slot x.slot).state = .present) ∧
      t.bus.laneInFlight l = false ∧ t.windows = s.windows ∧ t.latch = s.latch

/-- R109, R190: which 32 bytes are an accepted identity record, and what is stored of it. -/
def Obligations.IdentityRecordsAreChecked : Prop :=
  ∀ (m : Memory) (d : Identity), parseIdentity m = some d ↔
    m.read 0 = 0xB7 ∧ m.read 1 = 0x3C ∧ m.read 2 = 1 ∧ (m.read 3).toNat = moduleClassCode d.moduleClass ∧
      d.capacityCode = (m.read 4).toNat ∧ 12 ≤ d.capacityCode ∧ d.capacityCode ≤ 28 ∧
      d.dataWidth = (m.read 5).toNat ∧ (d.dataWidth = 8 ∨ d.dataWidth = 16) ∧
      d.minWaits = (m.read 6).toNat ∧ d.minWaits ≤ 7 ∧
      d.serial = [m.read 7, m.read 8, m.read 9, m.read 10, m.read 11, m.read 12, m.read 13, m.read 14] ∧
      d.model = (List.range 16).map (fun k => m.read (15 + k)) ∧
      256 ∣ ((List.range 32).map (fun k => (m.read k).toNat)).sum

/-- R107, R109, R110, R116, R138: the end of an identity read. An accepted record makes the slot READY with the next
generation; anything else faults it. Either way the slot leaves the identify queue. -/
def Obligations.IdentityReadsDecideTheSlot : Prop :=
  ∀ (x : Transfer) (i : SlotId) (c : Instr) (s : State), s.inReset = false → s.bus.state = .inFlight x →
    x.requester = .identify → x.slot = i → x.direction = .read → x.dataWidth = 8 → x.wordCount = 32 →
    ∀ (condition : Condition) (after : Slot),
    ((∃ (md : Half) (mdp mperr : Bool), c = .wordResponse ⟨.ack, false⟩ md mdp mperr ∧ x.phase = .response ∧
        x.wordIndex = 31 ∧ parityGood 8 md mdp = true ∧
        ((∃ d, parseIdentity (s.identStore.write 31 (md.setWidth 8)) = some d ∧ condition = .ready i ∧
            after = { s.slot i with
              state := .ready
              faultKind := none
              identity := some d
              noResponse := 0
              generation := (s.slot i).generation + 1
              settleTimer := .stopped
              rampTimer := .stopped }) ∨
          (parseIdentity (s.identStore.write 31 (md.setWidth 8)) = none ∧ condition = .fault i ∧
            after = (s.slot i).fail .identBad))) ∨
      (∃ (r : Response) (md : Half) (mdp mperr : Bool), c = .wordResponse r md mdp mperr ∧ x.phase = .response ∧
        r.late = false ∧ (r.lines ≠ .ack ∨ (parityGood 8 md mdp = false ∧ x.retriesLeft = 0)) ∧ condition = .fault i ∧
        after = (s.slot i).fail .identBad) ∨
      (c = .responseWatchdogExpiry ∧ x.watchdog ≠ .stopped ∧ x.retriesLeft = 0 ∧ condition = .fault i ∧
        after = (s.slot i).fail .identNoResponse)) →
    ∃ t, exec c s = .next t ∧ t.slot i = after ∧ (∀ k, k ≠ i → t.slot k = s.slot k) ∧
      t.identQueue = s.identQueue.filter (· ≠ i) ∧ (∀ m, t.link m = ((s.link m).raise condition).kick) ∧
      t.sel i = false ∧ t.powerWait = s.powerWait ∧ t.ramping = s.ramping ∧ t.windows = s.windows ∧
      t.buffers = s.buffers ∧ t.latch = s.latch

end Slice0Obligations
end

