-- ==== Sys2Proof/Laws/State.lean ====
section
/-! SUPPORT. What each update of the state leaves as it is, field by field. -/

namespace Sys2Proof.Machine

/-! The serial form of a character -/

/-- The receiver finds the byte in its own character (R157). -/
@[simp] theorem receiveCharacter_serialOf (b : Byte) : receiveCharacter (serialOf b) = some (.byte b) := by
  revert b; decide +kernel

/-- All that the receiver can make of ten levels: idle line, character error, or the byte whose character they are. -/
theorem receiveCharacter_cases (levels : LineLevels) :
    (levels.getLsbD 0 = true ∧ receiveCharacter levels = none) ∨
      (levels.getLsbD 0 = false ∧ levels.getLsbD 9 = false ∧ receiveCharacter levels = some .error) ∨
      (∃ b, levels = serialOf b ∧ receiveCharacter levels = some (.byte b)) := by
  have key : ∀ w : LineLevels, (w.getLsbD 0 = true ∧ receiveCharacter w = none) ∨
      (w.getLsbD 0 = false ∧ w.getLsbD 9 = false ∧ receiveCharacter w = some .error) ∨
      (w = serialOf (w.extractLsb' 1 8) ∧ receiveCharacter w = some (.byte (w.extractLsb' 1 8))) := by decide +kernel
  exact (key levels).imp id (Or.imp id fun h => ⟨_, h⟩)

/-! Links -/

@[simp] theorem Link_other_other (l : Link) : l.other.other = l := by cases l <;> rfl
@[simp] theorem Link_other_ne (l : Link) : l.other ≠ l := by cases l <;> decide
@[simp] theorem Link_ne_other (l : Link) : l ≠ l.other := by cases l <;> decide

@[simp] theorem State.setLink_link (s : State) (l : Link) (x : LinkState) : (s.setLink l x).link l = x := by
  cases l <;> rfl
@[simp] theorem State.setLink_other (s : State) (l : Link) (x : LinkState) :
    (s.setLink l x).link l.other = s.link l.other := by cases l <;> rfl
@[simp] theorem State.onLink_link (s : State) (l : Link) (f : LinkState → LinkState) :
    (s.onLink l f).link l = f (s.link l) := by cases l <;> rfl
@[simp] theorem State.onLink_other (s : State) (l : Link) (f : LinkState → LinkState) :
    (s.onLink l f).link l.other = s.link l.other := by cases l <;> rfl
@[simp] theorem State.onLink_of_other (s : State) (l : Link) (f : LinkState → LinkState) :
    (s.onLink l.other f).link l = s.link l := by cases l <;> rfl
theorem State.onLink_ne (s : State) {l m : Link} (h : m ≠ l) (f : LinkState → LinkState) :
    (s.onLink l f).link m = s.link m := by cases l <;> cases m <;> first | rfl | exact absurd rfl h
theorem State.onLink_id (s : State) (l : Link) : s.onLink l id = s := by cases l <;> rfl
theorem State.onLink_onLink (s : State) (l : Link) (f g : LinkState → LinkState) :
    (s.onLink l f).onLink l g = s.onLink l (fun x => g (f x)) := by cases l <;> rfl
@[simp] theorem State.onLinks_link (s : State) (l : Link) (f : LinkState → LinkState) :
    (s.onLinks f).link l = f (s.link l) := by cases l <;> rfl
@[simp] theorem State.link_A (s : State) : s.link .A = s.linkA := rfl
@[simp] theorem State.link_B (s : State) : s.link .B = s.linkB := rfl

@[simp] theorem State.setLink_pending (s : State) (l : Link) (x : LinkState) : (s.setLink l x).pending = s.pending := by
  cases l <;> rfl
@[simp] theorem State.onLink_pending (s : State) (l : Link) (f : LinkState → LinkState) : (s.onLink l f).pending = s.pending := by
  cases l <;> rfl
@[simp] theorem State.onLinks_pending (s : State) (f : LinkState → LinkState) : (s.onLinks f).pending = s.pending := rfl
@[simp] theorem State.setLink_inReset (s : State) (l : Link) (x : LinkState) : (s.setLink l x).inReset = s.inReset := by
  cases l <;> rfl
@[simp] theorem State.onLink_inReset (s : State) (l : Link) (f : LinkState → LinkState) : (s.onLink l f).inReset = s.inReset := by
  cases l <;> rfl
@[simp] theorem State.onLinks_inReset (s : State) (f : LinkState → LinkState) : (s.onLinks f).inReset = s.inReset := rfl
@[simp] theorem State.setLink_rate (s : State) (l : Link) (x : LinkState) : (s.setLink l x).rate = s.rate := by
  cases l <;> rfl
@[simp] theorem State.onLink_rate (s : State) (l : Link) (f : LinkState → LinkState) : (s.onLink l f).rate = s.rate := by
  cases l <;> rfl
@[simp] theorem State.onLinks_rate (s : State) (f : LinkState → LinkState) : (s.onLinks f).rate = s.rate := rfl
@[simp] theorem State.setLink_rate1 (s : State) (l : Link) (x : LinkState) : (s.setLink l x).rate1 = s.rate1 := by
  cases l <;> rfl
@[simp] theorem State.onLink_rate1 (s : State) (l : Link) (f : LinkState → LinkState) : (s.onLink l f).rate1 = s.rate1 := by
  cases l <;> rfl
@[simp] theorem State.onLinks_rate1 (s : State) (f : LinkState → LinkState) : (s.onLinks f).rate1 = s.rate1 := rfl
@[simp] theorem State.setLink_rate0 (s : State) (l : Link) (x : LinkState) : (s.setLink l x).rate0 = s.rate0 := by
  cases l <;> rfl
@[simp] theorem State.onLink_rate0 (s : State) (l : Link) (f : LinkState → LinkState) : (s.onLink l f).rate0 = s.rate0 := by
  cases l <;> rfl
@[simp] theorem State.onLinks_rate0 (s : State) (f : LinkState → LinkState) : (s.onLinks f).rate0 = s.rate0 := rfl
@[simp] theorem State.setLink_latchPin (s : State) (l : Link) (x : LinkState) : (s.setLink l x).latchPin = s.latchPin := by
  cases l <;> rfl
@[simp] theorem State.onLink_latchPin (s : State) (l : Link) (f : LinkState → LinkState) : (s.onLink l f).latchPin = s.latchPin := by
  cases l <;> rfl
@[simp] theorem State.onLinks_latchPin (s : State) (f : LinkState → LinkState) : (s.onLinks f).latchPin = s.latchPin := rfl
@[simp] theorem State.setLink_latch (s : State) (l : Link) (x : LinkState) : (s.setLink l x).latch = s.latch := by
  cases l <;> rfl
@[simp] theorem State.onLink_latch (s : State) (l : Link) (f : LinkState → LinkState) : (s.onLink l f).latch = s.latch := by
  cases l <;> rfl
@[simp] theorem State.onLinks_latch (s : State) (f : LinkState → LinkState) : (s.onLinks f).latch = s.latch := rfl
@[simp] theorem State.setLink_latchDebounce (s : State) (l : Link) (x : LinkState) : (s.setLink l x).latchDebounce = s.latchDebounce := by
  cases l <;> rfl
@[simp] theorem State.onLink_latchDebounce (s : State) (l : Link) (f : LinkState → LinkState) : (s.onLink l f).latchDebounce = s.latchDebounce := by
  cases l <;> rfl
@[simp] theorem State.onLinks_latchDebounce (s : State) (f : LinkState → LinkState) : (s.onLinks f).latchDebounce = s.latchDebounce := rfl
@[simp] theorem State.setLink_latchHold (s : State) (l : Link) (x : LinkState) : (s.setLink l x).latchHold = s.latchHold := by
  cases l <;> rfl
@[simp] theorem State.onLink_latchHold (s : State) (l : Link) (f : LinkState → LinkState) : (s.onLink l f).latchHold = s.latchHold := by
  cases l <;> rfl
@[simp] theorem State.onLinks_latchHold (s : State) (f : LinkState → LinkState) : (s.onLinks f).latchHold = s.latchHold := rfl
@[simp] theorem State.setLink_buffers (s : State) (l : Link) (x : LinkState) : (s.setLink l x).buffers = s.buffers := by
  cases l <;> rfl
@[simp] theorem State.onLink_buffers (s : State) (l : Link) (f : LinkState → LinkState) : (s.onLink l f).buffers = s.buffers := by
  cases l <;> rfl
@[simp] theorem State.onLinks_buffers (s : State) (f : LinkState → LinkState) : (s.onLinks f).buffers = s.buffers := rfl
@[simp] theorem State.setLink_waitList (s : State) (l : Link) (x : LinkState) : (s.setLink l x).waitList = s.waitList := by
  cases l <;> rfl
@[simp] theorem State.onLink_waitList (s : State) (l : Link) (f : LinkState → LinkState) : (s.onLink l f).waitList = s.waitList := by
  cases l <;> rfl
@[simp] theorem State.onLinks_waitList (s : State) (f : LinkState → LinkState) : (s.onLinks f).waitList = s.waitList := rfl
@[simp] theorem State.setLink_windows (s : State) (l : Link) (x : LinkState) : (s.setLink l x).windows = s.windows := by
  cases l <;> rfl
@[simp] theorem State.onLink_windows (s : State) (l : Link) (f : LinkState → LinkState) : (s.onLink l f).windows = s.windows := by
  cases l <;> rfl
@[simp] theorem State.onLinks_windows (s : State) (f : LinkState → LinkState) : (s.onLinks f).windows = s.windows := rfl
@[simp] theorem State.setLink_slots (s : State) (l : Link) (x : LinkState) : (s.setLink l x).slots = s.slots := by
  cases l <;> rfl
@[simp] theorem State.onLink_slots (s : State) (l : Link) (f : LinkState → LinkState) : (s.onLink l f).slots = s.slots := by
  cases l <;> rfl
@[simp] theorem State.onLinks_slots (s : State) (f : LinkState → LinkState) : (s.onLinks f).slots = s.slots := rfl
@[simp] theorem State.setLink_powerWait (s : State) (l : Link) (x : LinkState) : (s.setLink l x).powerWait = s.powerWait := by
  cases l <;> rfl
@[simp] theorem State.onLink_powerWait (s : State) (l : Link) (f : LinkState → LinkState) : (s.onLink l f).powerWait = s.powerWait := by
  cases l <;> rfl
@[simp] theorem State.onLinks_powerWait (s : State) (f : LinkState → LinkState) : (s.onLinks f).powerWait = s.powerWait := rfl
@[simp] theorem State.setLink_ramping (s : State) (l : Link) (x : LinkState) : (s.setLink l x).ramping = s.ramping := by
  cases l <;> rfl
@[simp] theorem State.onLink_ramping (s : State) (l : Link) (f : LinkState → LinkState) : (s.onLink l f).ramping = s.ramping := by
  cases l <;> rfl
@[simp] theorem State.onLinks_ramping (s : State) (f : LinkState → LinkState) : (s.onLinks f).ramping = s.ramping := rfl
@[simp] theorem State.setLink_identQueue (s : State) (l : Link) (x : LinkState) : (s.setLink l x).identQueue = s.identQueue := by
  cases l <;> rfl
@[simp] theorem State.onLink_identQueue (s : State) (l : Link) (f : LinkState → LinkState) : (s.onLink l f).identQueue = s.identQueue := by
  cases l <;> rfl
@[simp] theorem State.onLinks_identQueue (s : State) (f : LinkState → LinkState) : (s.onLinks f).identQueue = s.identQueue := rfl
@[simp] theorem State.setLink_identStore (s : State) (l : Link) (x : LinkState) : (s.setLink l x).identStore = s.identStore := by
  cases l <;> rfl
@[simp] theorem State.onLink_identStore (s : State) (l : Link) (f : LinkState → LinkState) : (s.onLink l f).identStore = s.identStore := by
  cases l <;> rfl
@[simp] theorem State.onLinks_identStore (s : State) (f : LinkState → LinkState) : (s.onLinks f).identStore = s.identStore := rfl
@[simp] theorem State.setLink_bus (s : State) (l : Link) (x : LinkState) : (s.setLink l x).bus = s.bus := by
  cases l <;> rfl
@[simp] theorem State.onLink_bus (s : State) (l : Link) (f : LinkState → LinkState) : (s.onLink l f).bus = s.bus := by
  cases l <;> rfl
@[simp] theorem State.onLinks_bus (s : State) (f : LinkState → LinkState) : (s.onLinks f).bus = s.bus := rfl

/-! The bus -/

@[simp] theorem State.onBus_pending (s : State) (f : Bus → Bus) : (s.onBus f).pending = s.pending := rfl
@[simp] theorem State.onBus_inReset (s : State) (f : Bus → Bus) : (s.onBus f).inReset = s.inReset := rfl
@[simp] theorem State.onBus_rate (s : State) (f : Bus → Bus) : (s.onBus f).rate = s.rate := rfl
@[simp] theorem State.onBus_rate1 (s : State) (f : Bus → Bus) : (s.onBus f).rate1 = s.rate1 := rfl
@[simp] theorem State.onBus_rate0 (s : State) (f : Bus → Bus) : (s.onBus f).rate0 = s.rate0 := rfl
@[simp] theorem State.onBus_latchPin (s : State) (f : Bus → Bus) : (s.onBus f).latchPin = s.latchPin := rfl
@[simp] theorem State.onBus_latch (s : State) (f : Bus → Bus) : (s.onBus f).latch = s.latch := rfl
@[simp] theorem State.onBus_latchDebounce (s : State) (f : Bus → Bus) : (s.onBus f).latchDebounce = s.latchDebounce := rfl
@[simp] theorem State.onBus_latchHold (s : State) (f : Bus → Bus) : (s.onBus f).latchHold = s.latchHold := rfl
@[simp] theorem State.onBus_linkA (s : State) (f : Bus → Bus) : (s.onBus f).linkA = s.linkA := rfl
@[simp] theorem State.onBus_linkB (s : State) (f : Bus → Bus) : (s.onBus f).linkB = s.linkB := rfl
@[simp] theorem State.onBus_buffers (s : State) (f : Bus → Bus) : (s.onBus f).buffers = s.buffers := rfl
@[simp] theorem State.onBus_waitList (s : State) (f : Bus → Bus) : (s.onBus f).waitList = s.waitList := rfl
@[simp] theorem State.onBus_windows (s : State) (f : Bus → Bus) : (s.onBus f).windows = s.windows := rfl
@[simp] theorem State.onBus_slots (s : State) (f : Bus → Bus) : (s.onBus f).slots = s.slots := rfl
@[simp] theorem State.onBus_powerWait (s : State) (f : Bus → Bus) : (s.onBus f).powerWait = s.powerWait := rfl
@[simp] theorem State.onBus_ramping (s : State) (f : Bus → Bus) : (s.onBus f).ramping = s.ramping := rfl
@[simp] theorem State.onBus_identQueue (s : State) (f : Bus → Bus) : (s.onBus f).identQueue = s.identQueue := rfl
@[simp] theorem State.onBus_identStore (s : State) (f : Bus → Bus) : (s.onBus f).identStore = s.identStore := rfl
@[simp] theorem State.onBus_link (s : State) (f : Bus → Bus) (l : Link) : (s.onBus f).link l = s.link l := by
  cases l <;> rfl
@[simp] theorem State.onBus_bus (s : State) (f : Bus → Bus) : (s.onBus f).bus = f s.bus := rfl

/-! Slots -/

@[simp] theorem State.onSlot_pending (s : State) (i : SlotId) (f : Slot → Slot) : (s.onSlot i f).pending = s.pending := rfl
@[simp] theorem State.onSlot_inReset (s : State) (i : SlotId) (f : Slot → Slot) : (s.onSlot i f).inReset = s.inReset := rfl
@[simp] theorem State.onSlot_rate (s : State) (i : SlotId) (f : Slot → Slot) : (s.onSlot i f).rate = s.rate := rfl
@[simp] theorem State.onSlot_rate1 (s : State) (i : SlotId) (f : Slot → Slot) : (s.onSlot i f).rate1 = s.rate1 := rfl
@[simp] theorem State.onSlot_rate0 (s : State) (i : SlotId) (f : Slot → Slot) : (s.onSlot i f).rate0 = s.rate0 := rfl
@[simp] theorem State.onSlot_latchPin (s : State) (i : SlotId) (f : Slot → Slot) : (s.onSlot i f).latchPin = s.latchPin := rfl
@[simp] theorem State.onSlot_latch (s : State) (i : SlotId) (f : Slot → Slot) : (s.onSlot i f).latch = s.latch := rfl
@[simp] theorem State.onSlot_latchDebounce (s : State) (i : SlotId) (f : Slot → Slot) : (s.onSlot i f).latchDebounce = s.latchDebounce := rfl
@[simp] theorem State.onSlot_latchHold (s : State) (i : SlotId) (f : Slot → Slot) : (s.onSlot i f).latchHold = s.latchHold := rfl
@[simp] theorem State.onSlot_linkA (s : State) (i : SlotId) (f : Slot → Slot) : (s.onSlot i f).linkA = s.linkA := rfl
@[simp] theorem State.onSlot_linkB (s : State) (i : SlotId) (f : Slot → Slot) : (s.onSlot i f).linkB = s.linkB := rfl
@[simp] theorem State.onSlot_buffers (s : State) (i : SlotId) (f : Slot → Slot) : (s.onSlot i f).buffers = s.buffers := rfl
@[simp] theorem State.onSlot_waitList (s : State) (i : SlotId) (f : Slot → Slot) : (s.onSlot i f).waitList = s.waitList := rfl
@[simp] theorem State.onSlot_windows (s : State) (i : SlotId) (f : Slot → Slot) : (s.onSlot i f).windows = s.windows := rfl
@[simp] theorem State.onSlot_powerWait (s : State) (i : SlotId) (f : Slot → Slot) : (s.onSlot i f).powerWait = s.powerWait := rfl
@[simp] theorem State.onSlot_ramping (s : State) (i : SlotId) (f : Slot → Slot) : (s.onSlot i f).ramping = s.ramping := rfl
@[simp] theorem State.onSlot_identQueue (s : State) (i : SlotId) (f : Slot → Slot) : (s.onSlot i f).identQueue = s.identQueue := rfl
@[simp] theorem State.onSlot_identStore (s : State) (i : SlotId) (f : Slot → Slot) : (s.onSlot i f).identStore = s.identStore := rfl
@[simp] theorem State.onSlot_bus (s : State) (i : SlotId) (f : Slot → Slot) : (s.onSlot i f).bus = s.bus := rfl
@[simp] theorem State.onSlot_link (s : State) (i : SlotId) (f : Slot → Slot) (l : Link) : (s.onSlot i f).link l = s.link l := by
  cases l <;> rfl
theorem get_set_self {α : Type} {n : Nat} (v : Vector α n) (i : Fin n) (x : α) : (v.set i.val x i.isLt).get i = x := by
  show (v.set i.val x i.isLt)[i.val] = x
  simp
theorem get_set_ne {α : Type} {n : Nat} (v : Vector α n) {i k : Fin n} (h : k ≠ i) (x : α) :
    (v.set i.val x i.isLt).get k = v.get k := by
  show (v.set i.val x i.isLt)[k.val] = v[k.val]
  exact Vector.getElem_set_ne (xs := v) i.isLt k.isLt (fun e => h (Fin.ext e.symm))
theorem get_ofFn {α : Type} {n : Nat} (f : Fin n → α) (i : Fin n) : (Vector.ofFn f).get i = f i := by
  show (Vector.ofFn f)[i.val] = f i
  simp
@[simp] theorem State.onSlot_slot (s : State) (i : SlotId) (f : Slot → Slot) : (s.onSlot i f).slot i = f (s.slot i) :=
  get_set_self s.slots i _
theorem State.onSlot_slot_ne (s : State) {i k : SlotId} (h : k ≠ i) (f : Slot → Slot) :
    (s.onSlot i f).slot k = s.slot k := get_set_ne s.slots h _
@[simp] theorem State.onLink_slot (s : State) (l : Link) (f : LinkState → LinkState) (i : SlotId) :
    (s.onLink l f).slot i = s.slot i := by cases l <;> rfl
@[simp] theorem State.onLinks_slot (s : State) (f : LinkState → LinkState) (i : SlotId) :
    (s.onLinks f).slot i = s.slot i := rfl
@[simp] theorem State.onBus_slot (s : State) (f : Bus → Bus) (i : SlotId) : (s.onBus f).slot i = s.slot i := rfl

/-! Buffers -/

@[simp] theorem State.setHolder_pending (s : State) (b : BufId) (h : Holder) : (s.setHolder b h).pending = s.pending := rfl
@[simp] theorem State.setHolder_inReset (s : State) (b : BufId) (h : Holder) : (s.setHolder b h).inReset = s.inReset := rfl
@[simp] theorem State.setHolder_rate (s : State) (b : BufId) (h : Holder) : (s.setHolder b h).rate = s.rate := rfl
@[simp] theorem State.setHolder_rate1 (s : State) (b : BufId) (h : Holder) : (s.setHolder b h).rate1 = s.rate1 := rfl
@[simp] theorem State.setHolder_rate0 (s : State) (b : BufId) (h : Holder) : (s.setHolder b h).rate0 = s.rate0 := rfl
@[simp] theorem State.setHolder_latchPin (s : State) (b : BufId) (h : Holder) : (s.setHolder b h).latchPin = s.latchPin := rfl
@[simp] theorem State.setHolder_latch (s : State) (b : BufId) (h : Holder) : (s.setHolder b h).latch = s.latch := rfl
@[simp] theorem State.setHolder_latchDebounce (s : State) (b : BufId) (h : Holder) : (s.setHolder b h).latchDebounce = s.latchDebounce := rfl
@[simp] theorem State.setHolder_latchHold (s : State) (b : BufId) (h : Holder) : (s.setHolder b h).latchHold = s.latchHold := rfl
@[simp] theorem State.setHolder_linkA (s : State) (b : BufId) (h : Holder) : (s.setHolder b h).linkA = s.linkA := rfl
@[simp] theorem State.setHolder_linkB (s : State) (b : BufId) (h : Holder) : (s.setHolder b h).linkB = s.linkB := rfl
@[simp] theorem State.setHolder_waitList (s : State) (b : BufId) (h : Holder) : (s.setHolder b h).waitList = s.waitList := rfl
@[simp] theorem State.setHolder_windows (s : State) (b : BufId) (h : Holder) : (s.setHolder b h).windows = s.windows := rfl
@[simp] theorem State.setHolder_slots (s : State) (b : BufId) (h : Holder) : (s.setHolder b h).slots = s.slots := rfl
@[simp] theorem State.setHolder_powerWait (s : State) (b : BufId) (h : Holder) : (s.setHolder b h).powerWait = s.powerWait := rfl
@[simp] theorem State.setHolder_ramping (s : State) (b : BufId) (h : Holder) : (s.setHolder b h).ramping = s.ramping := rfl
@[simp] theorem State.setHolder_identQueue (s : State) (b : BufId) (h : Holder) : (s.setHolder b h).identQueue = s.identQueue := rfl
@[simp] theorem State.setHolder_identStore (s : State) (b : BufId) (h : Holder) : (s.setHolder b h).identStore = s.identStore := rfl
@[simp] theorem State.setHolder_bus (s : State) (b : BufId) (h : Holder) : (s.setHolder b h).bus = s.bus := rfl
@[simp] theorem State.setHolder_link (s : State) (b : BufId) (h : Holder) (l : Link) : (s.setHolder b h).link l = s.link l := by
  cases l <;> rfl

/-! Buffer contents -/

@[simp] theorem State.setBytes_pending (s : State) (b : BufId) (m : Memory) : (s.setBytes b m).pending = s.pending := rfl
@[simp] theorem State.setBytes_inReset (s : State) (b : BufId) (m : Memory) : (s.setBytes b m).inReset = s.inReset := rfl
@[simp] theorem State.setBytes_rate (s : State) (b : BufId) (m : Memory) : (s.setBytes b m).rate = s.rate := rfl
@[simp] theorem State.setBytes_rate1 (s : State) (b : BufId) (m : Memory) : (s.setBytes b m).rate1 = s.rate1 := rfl
@[simp] theorem State.setBytes_rate0 (s : State) (b : BufId) (m : Memory) : (s.setBytes b m).rate0 = s.rate0 := rfl
@[simp] theorem State.setBytes_latchPin (s : State) (b : BufId) (m : Memory) : (s.setBytes b m).latchPin = s.latchPin := rfl
@[simp] theorem State.setBytes_latch (s : State) (b : BufId) (m : Memory) : (s.setBytes b m).latch = s.latch := rfl
@[simp] theorem State.setBytes_latchDebounce (s : State) (b : BufId) (m : Memory) : (s.setBytes b m).latchDebounce = s.latchDebounce := rfl
@[simp] theorem State.setBytes_latchHold (s : State) (b : BufId) (m : Memory) : (s.setBytes b m).latchHold = s.latchHold := rfl
@[simp] theorem State.setBytes_linkA (s : State) (b : BufId) (m : Memory) : (s.setBytes b m).linkA = s.linkA := rfl
@[simp] theorem State.setBytes_linkB (s : State) (b : BufId) (m : Memory) : (s.setBytes b m).linkB = s.linkB := rfl
@[simp] theorem State.setBytes_waitList (s : State) (b : BufId) (m : Memory) : (s.setBytes b m).waitList = s.waitList := rfl
@[simp] theorem State.setBytes_windows (s : State) (b : BufId) (m : Memory) : (s.setBytes b m).windows = s.windows := rfl
@[simp] theorem State.setBytes_slots (s : State) (b : BufId) (m : Memory) : (s.setBytes b m).slots = s.slots := rfl
@[simp] theorem State.setBytes_powerWait (s : State) (b : BufId) (m : Memory) : (s.setBytes b m).powerWait = s.powerWait := rfl
@[simp] theorem State.setBytes_ramping (s : State) (b : BufId) (m : Memory) : (s.setBytes b m).ramping = s.ramping := rfl
@[simp] theorem State.setBytes_identQueue (s : State) (b : BufId) (m : Memory) : (s.setBytes b m).identQueue = s.identQueue := rfl
@[simp] theorem State.setBytes_identStore (s : State) (b : BufId) (m : Memory) : (s.setBytes b m).identStore = s.identStore := rfl
@[simp] theorem State.setBytes_bus (s : State) (b : BufId) (m : Memory) : (s.setBytes b m).bus = s.bus := rfl
@[simp] theorem State.setBytes_link (s : State) (b : BufId) (m : Memory) (l : Link) : (s.setBytes b m).link l = s.link l := by
  cases l <;> rfl
@[simp] theorem State.setHolder_slot (s : State) (b : BufId) (h : Holder) (i : SlotId) :
    (s.setHolder b h).slot i = s.slot i := rfl
@[simp] theorem State.setBytes_slot (s : State) (b : BufId) (m : Memory) (i : SlotId) :
    (s.setBytes b m).slot i = s.slot i := rfl
@[simp] theorem State.setHolder_holder (s : State) (b : BufId) (h : Holder) :
    ((s.setHolder b h).buffers.get b).holder = h := by
  simp only [State.setHolder, get_set_self]
@[simp] theorem State.setHolder_bytes (s : State) (b c : BufId) (h : Holder) :
    ((s.setHolder b h).buffers.get c).bytes = (s.buffers.get c).bytes := by
  by_cases e : c = b
  · subst e; simp only [State.setHolder, get_set_self]
  · simp only [State.setHolder, get_set_ne _ e]
theorem State.setHolder_ne (s : State) {b c : BufId} (e : c ≠ b) (h : Holder) :
    (s.setHolder b h).buffers.get c = s.buffers.get c := get_set_ne s.buffers e _
@[simp] theorem State.setBytes_bytes (s : State) (b : BufId) (m : Memory) :
    ((s.setBytes b m).buffers.get b).bytes = m := by
  simp only [State.setBytes, get_set_self]
theorem State.setBytes_ne (s : State) {b c : BufId} (e : c ≠ b) (m : Memory) :
    (s.setBytes b m).buffers.get c = s.buffers.get c := get_set_ne s.buffers e _
@[simp] theorem State.setBytes_holder (s : State) (b c : BufId) (m : Memory) :
    ((s.setBytes b m).buffers.get c).holder = (s.buffers.get c).holder := by
  by_cases e : c = b
  · subst e; simp only [State.setBytes, get_set_self]
  · simp only [State.setBytes, get_set_ne _ e]

/-! The wait list -/

@[simp] theorem State.withdrawWait_pending (s : State) (m : Link) : (s.withdrawWait m).pending = s.pending := rfl
@[simp] theorem State.withdrawWait_inReset (s : State) (m : Link) : (s.withdrawWait m).inReset = s.inReset := rfl
@[simp] theorem State.withdrawWait_rate (s : State) (m : Link) : (s.withdrawWait m).rate = s.rate := rfl
@[simp] theorem State.withdrawWait_rate1 (s : State) (m : Link) : (s.withdrawWait m).rate1 = s.rate1 := rfl
@[simp] theorem State.withdrawWait_rate0 (s : State) (m : Link) : (s.withdrawWait m).rate0 = s.rate0 := rfl
@[simp] theorem State.withdrawWait_latchPin (s : State) (m : Link) : (s.withdrawWait m).latchPin = s.latchPin := rfl
@[simp] theorem State.withdrawWait_latch (s : State) (m : Link) : (s.withdrawWait m).latch = s.latch := rfl
@[simp] theorem State.withdrawWait_latchDebounce (s : State) (m : Link) : (s.withdrawWait m).latchDebounce = s.latchDebounce := rfl
@[simp] theorem State.withdrawWait_latchHold (s : State) (m : Link) : (s.withdrawWait m).latchHold = s.latchHold := rfl
@[simp] theorem State.withdrawWait_linkA (s : State) (m : Link) : (s.withdrawWait m).linkA = s.linkA := rfl
@[simp] theorem State.withdrawWait_linkB (s : State) (m : Link) : (s.withdrawWait m).linkB = s.linkB := rfl
@[simp] theorem State.withdrawWait_buffers (s : State) (m : Link) : (s.withdrawWait m).buffers = s.buffers := rfl
@[simp] theorem State.withdrawWait_windows (s : State) (m : Link) : (s.withdrawWait m).windows = s.windows := rfl
@[simp] theorem State.withdrawWait_slots (s : State) (m : Link) : (s.withdrawWait m).slots = s.slots := rfl
@[simp] theorem State.withdrawWait_powerWait (s : State) (m : Link) : (s.withdrawWait m).powerWait = s.powerWait := rfl
@[simp] theorem State.withdrawWait_ramping (s : State) (m : Link) : (s.withdrawWait m).ramping = s.ramping := rfl
@[simp] theorem State.withdrawWait_identQueue (s : State) (m : Link) : (s.withdrawWait m).identQueue = s.identQueue := rfl
@[simp] theorem State.withdrawWait_identStore (s : State) (m : Link) : (s.withdrawWait m).identStore = s.identStore := rfl
@[simp] theorem State.withdrawWait_bus (s : State) (m : Link) : (s.withdrawWait m).bus = s.bus := rfl
@[simp] theorem State.withdrawWait_link (s : State) (m : Link) (l : Link) : (s.withdrawWait m).link l = s.link l := by
  cases l <;> rfl

/-! Windows -/

@[simp] theorem State.setWindow_pending (s : State) (i : Fin 8) (w : Option Window) : (s.setWindow i w).pending = s.pending := rfl
@[simp] theorem State.setWindow_inReset (s : State) (i : Fin 8) (w : Option Window) : (s.setWindow i w).inReset = s.inReset := rfl
@[simp] theorem State.setWindow_rate (s : State) (i : Fin 8) (w : Option Window) : (s.setWindow i w).rate = s.rate := rfl
@[simp] theorem State.setWindow_rate1 (s : State) (i : Fin 8) (w : Option Window) : (s.setWindow i w).rate1 = s.rate1 := rfl
@[simp] theorem State.setWindow_rate0 (s : State) (i : Fin 8) (w : Option Window) : (s.setWindow i w).rate0 = s.rate0 := rfl
@[simp] theorem State.setWindow_latchPin (s : State) (i : Fin 8) (w : Option Window) : (s.setWindow i w).latchPin = s.latchPin := rfl
@[simp] theorem State.setWindow_latch (s : State) (i : Fin 8) (w : Option Window) : (s.setWindow i w).latch = s.latch := rfl
@[simp] theorem State.setWindow_latchDebounce (s : State) (i : Fin 8) (w : Option Window) : (s.setWindow i w).latchDebounce = s.latchDebounce := rfl
@[simp] theorem State.setWindow_latchHold (s : State) (i : Fin 8) (w : Option Window) : (s.setWindow i w).latchHold = s.latchHold := rfl
@[simp] theorem State.setWindow_linkA (s : State) (i : Fin 8) (w : Option Window) : (s.setWindow i w).linkA = s.linkA := rfl
@[simp] theorem State.setWindow_linkB (s : State) (i : Fin 8) (w : Option Window) : (s.setWindow i w).linkB = s.linkB := rfl
@[simp] theorem State.setWindow_buffers (s : State) (i : Fin 8) (w : Option Window) : (s.setWindow i w).buffers = s.buffers := rfl
@[simp] theorem State.setWindow_waitList (s : State) (i : Fin 8) (w : Option Window) : (s.setWindow i w).waitList = s.waitList := rfl
@[simp] theorem State.setWindow_slots (s : State) (i : Fin 8) (w : Option Window) : (s.setWindow i w).slots = s.slots := rfl
@[simp] theorem State.setWindow_powerWait (s : State) (i : Fin 8) (w : Option Window) : (s.setWindow i w).powerWait = s.powerWait := rfl
@[simp] theorem State.setWindow_ramping (s : State) (i : Fin 8) (w : Option Window) : (s.setWindow i w).ramping = s.ramping := rfl
@[simp] theorem State.setWindow_identQueue (s : State) (i : Fin 8) (w : Option Window) : (s.setWindow i w).identQueue = s.identQueue := rfl
@[simp] theorem State.setWindow_identStore (s : State) (i : Fin 8) (w : Option Window) : (s.setWindow i w).identStore = s.identStore := rfl
@[simp] theorem State.setWindow_bus (s : State) (i : Fin 8) (w : Option Window) : (s.setWindow i w).bus = s.bus := rfl
@[simp] theorem State.setWindow_link (s : State) (i : Fin 8) (w : Option Window) (l : Link) : (s.setWindow i w).link l = s.link l := by
  cases l <;> rfl

/-! Windows of a link -/

@[simp] theorem State.freeWindows_pending (s : State) (m : Link) : (s.freeWindows m).pending = s.pending := rfl
@[simp] theorem State.freeWindows_inReset (s : State) (m : Link) : (s.freeWindows m).inReset = s.inReset := rfl
@[simp] theorem State.freeWindows_rate (s : State) (m : Link) : (s.freeWindows m).rate = s.rate := rfl
@[simp] theorem State.freeWindows_rate1 (s : State) (m : Link) : (s.freeWindows m).rate1 = s.rate1 := rfl
@[simp] theorem State.freeWindows_rate0 (s : State) (m : Link) : (s.freeWindows m).rate0 = s.rate0 := rfl
@[simp] theorem State.freeWindows_latchPin (s : State) (m : Link) : (s.freeWindows m).latchPin = s.latchPin := rfl
@[simp] theorem State.freeWindows_latch (s : State) (m : Link) : (s.freeWindows m).latch = s.latch := rfl
@[simp] theorem State.freeWindows_latchDebounce (s : State) (m : Link) : (s.freeWindows m).latchDebounce = s.latchDebounce := rfl
@[simp] theorem State.freeWindows_latchHold (s : State) (m : Link) : (s.freeWindows m).latchHold = s.latchHold := rfl
@[simp] theorem State.freeWindows_linkA (s : State) (m : Link) : (s.freeWindows m).linkA = s.linkA := rfl
@[simp] theorem State.freeWindows_linkB (s : State) (m : Link) : (s.freeWindows m).linkB = s.linkB := rfl
@[simp] theorem State.freeWindows_buffers (s : State) (m : Link) : (s.freeWindows m).buffers = s.buffers := rfl
@[simp] theorem State.freeWindows_waitList (s : State) (m : Link) : (s.freeWindows m).waitList = s.waitList := rfl
@[simp] theorem State.freeWindows_slots (s : State) (m : Link) : (s.freeWindows m).slots = s.slots := rfl
@[simp] theorem State.freeWindows_powerWait (s : State) (m : Link) : (s.freeWindows m).powerWait = s.powerWait := rfl
@[simp] theorem State.freeWindows_ramping (s : State) (m : Link) : (s.freeWindows m).ramping = s.ramping := rfl
@[simp] theorem State.freeWindows_identQueue (s : State) (m : Link) : (s.freeWindows m).identQueue = s.identQueue := rfl
@[simp] theorem State.freeWindows_identStore (s : State) (m : Link) : (s.freeWindows m).identStore = s.identStore := rfl
@[simp] theorem State.freeWindows_bus (s : State) (m : Link) : (s.freeWindows m).bus = s.bus := rfl
@[simp] theorem State.freeWindows_link (s : State) (m : Link) (l : Link) : (s.freeWindows m).link l = s.link l := by
  cases l <;> rfl

/-! Leaving the sequencers -/

@[simp] theorem State.leaveSequencers_pending (s : State) (i : SlotId) : (s.leaveSequencers i).pending = s.pending := rfl
@[simp] theorem State.leaveSequencers_inReset (s : State) (i : SlotId) : (s.leaveSequencers i).inReset = s.inReset := rfl
@[simp] theorem State.leaveSequencers_rate (s : State) (i : SlotId) : (s.leaveSequencers i).rate = s.rate := rfl
@[simp] theorem State.leaveSequencers_rate1 (s : State) (i : SlotId) : (s.leaveSequencers i).rate1 = s.rate1 := rfl
@[simp] theorem State.leaveSequencers_rate0 (s : State) (i : SlotId) : (s.leaveSequencers i).rate0 = s.rate0 := rfl
@[simp] theorem State.leaveSequencers_latchPin (s : State) (i : SlotId) : (s.leaveSequencers i).latchPin = s.latchPin := rfl
@[simp] theorem State.leaveSequencers_latch (s : State) (i : SlotId) : (s.leaveSequencers i).latch = s.latch := rfl
@[simp] theorem State.leaveSequencers_latchDebounce (s : State) (i : SlotId) : (s.leaveSequencers i).latchDebounce = s.latchDebounce := rfl
@[simp] theorem State.leaveSequencers_latchHold (s : State) (i : SlotId) : (s.leaveSequencers i).latchHold = s.latchHold := rfl
@[simp] theorem State.leaveSequencers_linkA (s : State) (i : SlotId) : (s.leaveSequencers i).linkA = s.linkA := rfl
@[simp] theorem State.leaveSequencers_linkB (s : State) (i : SlotId) : (s.leaveSequencers i).linkB = s.linkB := rfl
@[simp] theorem State.leaveSequencers_buffers (s : State) (i : SlotId) : (s.leaveSequencers i).buffers = s.buffers := rfl
@[simp] theorem State.leaveSequencers_waitList (s : State) (i : SlotId) : (s.leaveSequencers i).waitList = s.waitList := rfl
@[simp] theorem State.leaveSequencers_windows (s : State) (i : SlotId) : (s.leaveSequencers i).windows = s.windows := rfl
@[simp] theorem State.leaveSequencers_slots (s : State) (i : SlotId) : (s.leaveSequencers i).slots = s.slots := rfl
@[simp] theorem State.leaveSequencers_identStore (s : State) (i : SlotId) : (s.leaveSequencers i).identStore = s.identStore := rfl
@[simp] theorem State.leaveSequencers_link (s : State) (i : SlotId) (l : Link) : (s.leaveSequencers i).link l = s.link l := by
  cases l <;> rfl

/-! The latch report, the Identify Sequencer's request, and responses -/

/-- At each link a condition is raised if it is raised there. -/
theorem State.raiseAt_link (s : State) (c : Condition) (atA atB : Bool) (l : Link) :
    (s.raiseAt c atA atB).link l =
      if (match l with | .A => atA | .B => atB) then (s.link l).raise c else s.link l := by
  unfold State.raiseAt
  cases l <;> cases atA <;> cases atB <;> rfl

/-- A raise at either link touches no slot, no buffer, no window and not the bus. -/
theorem State.raiseAt_rest (s : State) (c : Condition) (atA atB : Bool) :
    (s.raiseAt c atA atB).slots = s.slots ∧ (s.raiseAt c atA atB).buffers = s.buffers ∧
      (s.raiseAt c atA atB).windows = s.windows ∧ (s.raiseAt c atA atB).bus = s.bus := by
  unfold State.raiseAt
  cases atA <;> cases atB <;> constructor <;> simp

/-- The Identify Sequencer makes no request, or one for the head of its queue. -/
theorem State.identJoin_cases (s : State) :
    s.identJoin = s ∨ ∃ i is, s.identQueue = i :: is ∧
      s.identJoin = s.onBus (fun b => { b with requestIdentify := some i }) := by
  unfold State.identJoin
  split
  · exact .inl rfl
  · rename_i i is h
    split
    · exact .inr ⟨i, is, h, rfl⟩
    · exact .inl rfl

/-- A late response answers no word. -/
theorem Bus.answers_of_late {b : Bus} (h : b.late = true) : b.answers = false := by simp [Bus.answers, h]

@[simp] theorem Bus.respond_state (r : Response) (md : Half) (mdp mperr : Bool) (b : Bus) :
    (b.respond r md mdp mperr).state = b.state := rfl
@[simp] theorem Bus.respond_late (r : Response) (md : Half) (mdp mperr : Bool) (b : Bus) :
    (b.respond r md mdp mperr).late = r.late := rfl

end Sys2Proof.Machine
end

