-- ==== Sys2Proof/Laws/Lanes.lean ====
section
/-! SUPPORT. What the Job Scheduler and its lanes can change: jobs, histories, outbound entries, overflow counts, lanes,
buffers, the wait list and the bus. Everything else stays as it is, for every operation of a lane. -/

namespace Sys2Proof.Machine

/-- What lane operations leave of a link. -/
structure LinkFrame (x y : LinkState) : Prop where
  session : y.session = x.session
  dataTimeout : y.dataTimeout = x.dataTimeout
  holdLimit : y.holdLimit = x.holdLimit
  framer : y.framer = x.framer
  gapTimer : y.gapTimer = x.gapTimer
  breakDetected : y.breakDetected = x.breakDetected
  intake : y.intake = x.intake
  conditions : y.conditions = x.conditions
  mask : y.mask = x.mask
  transmitting : y.transmitting = x.transmitting
  replies : y.outbound.filter Entry.isReply = x.outbound.filter Entry.isReply

/-- What lane operations leave of the state. -/
structure LaneFrame (s t : State) : Prop where
  pending : t.pending = s.pending
  inReset : t.inReset = s.inReset
  rate : t.rate = s.rate
  rate1 : t.rate1 = s.rate1
  rate0 : t.rate0 = s.rate0
  latchPin : t.latchPin = s.latchPin
  latch : t.latch = s.latch
  latchDebounce : t.latchDebounce = s.latchDebounce
  latchHold : t.latchHold = s.latchHold
  windows : t.windows = s.windows
  slots : t.slots = s.slots
  powerWait : t.powerWait = s.powerWait
  ramping : t.ramping = s.ramping
  identQueue : t.identQueue = s.identQueue
  identStore : t.identStore = s.identStore
  requestIdentify : t.bus.requestIdentify = s.bus.requestIdentify ∨ t.bus.requestIdentify = none
  flight : ∀ f, t.bus.state = .inFlight f ↔ s.bus.state = .inFlight f
  link : ∀ l, LinkFrame (s.link l) (t.link l)

theorem LinkFrame.refl (x : LinkState) : LinkFrame x x := by constructor <;> rfl

theorem LinkFrame.trans {x y z : LinkState} (h : LinkFrame x y) (k : LinkFrame y z) : LinkFrame x z :=
  ⟨k.1.trans h.1, k.2.trans h.2, k.3.trans h.3, k.4.trans h.4, k.5.trans h.5, k.6.trans h.6, k.7.trans h.7,
    k.8.trans h.8, k.9.trans h.9, k.10.trans h.10, k.11.trans h.11⟩

theorem LaneFrame.refl (s : State) : LaneFrame s s := by
  constructor
  case requestIdentify => exact .inl rfl
  case flight => exact fun _ => Iff.rfl
  case link => exact fun l => LinkFrame.refl (s.link l)
  all_goals rfl

theorem LaneFrame.trans {s t u : State} (h : LaneFrame s t) (k : LaneFrame t u) : LaneFrame s u where
  pending := k.1.trans h.1
  inReset := k.2.trans h.2
  rate := k.3.trans h.3
  rate1 := k.4.trans h.4
  rate0 := k.5.trans h.5
  latchPin := k.6.trans h.6
  latch := k.7.trans h.7
  latchDebounce := k.8.trans h.8
  latchHold := k.9.trans h.9
  windows := k.10.trans h.10
  slots := k.11.trans h.11
  powerWait := k.12.trans h.12
  ramping := k.13.trans h.13
  identQueue := k.14.trans h.14
  identStore := k.15.trans h.15
  requestIdentify := by
    rcases k.16 with e | e
    · rw [e]; exact h.16
    · exact .inr e
  flight := fun f => (k.17 f).trans (h.17 f)
  link := fun l => (h.18 l).trans (k.18 l)

theorem LaneFrame.slot {s t : State} (h : LaneFrame s t) (i : SlotId) : t.slot i = s.slot i := by
  show t.slots.get i = s.slots.get i
  rw [h.slots]

/-! Primitive operations -/

/-- An update that touches links, buffers or the wait list alone is a lane operation if its links are. -/
theorem LaneFrame.of_link {s t : State}
    (e : { t with linkA := s.linkA, linkB := s.linkB, buffers := s.buffers, waitList := s.waitList } = s)
    (h : ∀ l, LinkFrame (s.link l) (t.link l)) : LaneFrame s t := by
  constructor
  case requestIdentify => exact .inl (congrArg (fun u => u.bus.requestIdentify) e)
  case flight => exact fun f => by rw [show t.bus = s.bus from (congrArg State.bus e :)]
  case link => exact h
  case pending => exact (congrArg State.pending e :)
  case inReset => exact (congrArg State.inReset e :)
  case rate => exact (congrArg State.rate e :)
  case rate1 => exact (congrArg State.rate1 e :)
  case rate0 => exact (congrArg State.rate0 e :)
  case latchPin => exact (congrArg State.latchPin e :)
  case latch => exact (congrArg State.latch e :)
  case latchDebounce => exact (congrArg State.latchDebounce e :)
  case latchHold => exact (congrArg State.latchHold e :)
  case windows => exact (congrArg State.windows e :)
  case slots => exact (congrArg State.slots e :)
  case powerWait => exact (congrArg State.powerWait e :)
  case ramping => exact (congrArg State.ramping e :)
  case identQueue => exact (congrArg State.identQueue e :)
  case identStore => exact (congrArg State.identStore e :)

theorem LaneFrame.onLink (s : State) (l : Link) {f : LinkState → LinkState} (h : ∀ x, LinkFrame x (f x)) :
    LaneFrame s (s.onLink l f) := by
  refine LaneFrame.of_link (by cases l <;> rfl) (fun m => ?_)
  by_cases e : m = l
  · rw [e, State.onLink_link]; exact h _
  · rw [State.onLink_ne s e]; exact LinkFrame.refl _

theorem LaneFrame.setHolder (s : State) (b : BufId) (h : Holder) : LaneFrame s (s.setHolder b h) :=
  LaneFrame.of_link rfl (fun l => by rw [State.setHolder_link]; exact LinkFrame.refl _)

theorem LaneFrame.setBytes (s : State) (b : BufId) (m : Memory) : LaneFrame s (s.setBytes b m) :=
  LaneFrame.of_link rfl (fun l => by rw [State.setBytes_link]; exact LinkFrame.refl _)

theorem LaneFrame.waitList (s : State) (w : List Link) : LaneFrame s { s with waitList := w } :=
  LaneFrame.of_link rfl (fun l => by cases l <;> exact LinkFrame.refl _)

theorem LaneFrame.onBus (s : State) {f : Bus → Bus}
    (h : (f s.bus).requestIdentify = s.bus.requestIdentify ∨ (f s.bus).requestIdentify = none)
    (k : ∀ t, (f s.bus).state = .inFlight t ↔ s.bus.state = .inFlight t) : LaneFrame s (s.onBus f) := by
  constructor
  case requestIdentify => exact h
  case flight => exact k
  case link => exact fun l => by rw [State.onBus_link]; exact LinkFrame.refl _
  all_goals rfl

/-! Operations on a link that are lane operations -/

theorem LinkFrame.outbound (x : LinkState) {es : List Entry}
    (h : es.filter Entry.isReply = x.outbound.filter Entry.isReply) : LinkFrame x { x with outbound := es } := by
  constructor
  case replies => exact h
  all_goals rfl

theorem LinkFrame.push {e : Entry} (h : e.isReply = false) (x : LinkState) : LinkFrame x (x.push e) :=
  LinkFrame.outbound x (by simp [List.filter_append, h])

theorem LinkState.sending_append_waiting (x : LinkState) : x.sending ++ x.waiting = x.outbound :=
  List.take_append_drop _ _

/-- Entries behind the one in transmission are replaced, with the same replies among them. -/
theorem LinkFrame.waiting (x : LinkState) {es : List Entry}
    (h : es.filter Entry.isReply = x.waiting.filter Entry.isReply) :
    LinkFrame x { x with outbound := x.sending ++ es } := by
  refine LinkFrame.outbound x ?_
  rw [List.filter_append, h, ← List.filter_append, x.sending_append_waiting]

/-- A merge changes no entry but a CREDIT. -/
theorem mergeCredit_replies {tag n : Nat} {es fs : List Entry} (h : mergeCredit tag n es = some fs) :
    fs.filter Entry.isReply = es.filter Entry.isReply := by
  induction es generalizing fs with
  | nil => simp [mergeCredit] at h
  | cons e es ih =>
    cases e
    case credit t k =>
      by_cases ht : t = tag
      · rw [mergeCredit, if_pos ht] at h
        simp [← Option.some.inj h, Entry.isReply]
      · rw [mergeCredit, if_neg ht] at h
        obtain ⟨gs, hg, rfl⟩ := Option.map_eq_some_iff.1 h
        simp [Entry.isReply, ih hg]
    all_goals
      obtain ⟨gs, hg, rfl⟩ := Option.map_eq_some_iff.1 h
      simp [List.filter_cons, ih hg]

/-- A merge changes no entry but a CONDITION notice. -/
theorem mergeCondition_replies {set : ConditionSet} {es fs : List Entry} (h : mergeCondition set es = some fs) :
    fs.filter Entry.isReply = es.filter Entry.isReply := by
  induction es generalizing fs with
  | nil => simp [mergeCondition] at h
  | cons e es ih =>
    cases e
    case notice n =>
      cases n
      case condition c =>
        simp only [mergeCondition, Option.some.injEq] at h
        simp [← h, Entry.isReply]
      all_goals
        obtain ⟨gs, hg, rfl⟩ := Option.map_eq_some_iff.1 h
        simp [List.filter_cons, ih hg]
    all_goals
      obtain ⟨gs, hg, rfl⟩ := Option.map_eq_some_iff.1 h
      simp [List.filter_cons, ih hg]

theorem LinkFrame.offer (n : Notice) (x : LinkState) : LinkFrame x (x.offer n) := by
  unfold LinkState.offer
  split
  · exact LinkFrame.push rfl x
  · constructor <;> rfl

theorem LinkFrame.onHead (f : Job → Job) (x : LinkState) : LinkFrame x (x.onHead f) := by
  unfold LinkState.onHead
  split
  · exact LinkFrame.refl x
  · constructor <;> rfl

theorem LinkFrame.offerCredit (tag n : Nat) (x : LinkState) : LinkFrame x (x.offerCredit tag n) := by
  unfold LinkState.offerCredit
  split
  · rename_i es h
    exact LinkFrame.waiting x (mergeCredit_replies h)
  · split
    · exact LinkFrame.push rfl x
    · constructor <;> rfl

theorem LinkFrame.removeCredit (tag : Nat) (x : LinkState) : LinkFrame x (x.removeCredit tag) := by
  refine LinkFrame.waiting x ?_
  rw [List.filter_filter]
  refine List.filter_congr (fun e _ => ?_)
  cases e <;> simp [Entry.isReply]

theorem LaneFrame.offer (s : State) (l : Link) (n : Notice) : LaneFrame s (s.offer l n) :=
  LaneFrame.onLink s l (fun x => LinkFrame.offer n x)

theorem LaneFrame.offers (s : State) (l : Link) (ns : List Notice) : LaneFrame s (s.offers l ns) := by
  induction ns generalizing s with
  | nil => exact LaneFrame.refl s
  | cons n ns ih => exact (LaneFrame.offer s l n).trans (ih _)

theorem LaneFrame.onJob (s : State) (l : Link) (f : Job → Job) : LaneFrame s (s.onJob l f) :=
  LaneFrame.onLink s l (fun x => LinkFrame.onHead f x)

theorem LaneFrame.onTimedJob (s : State) (l : Link) (f : Job → Job) : LaneFrame s (s.onTimedJob l f) :=
  LaneFrame.onLink s l (fun x => LinkFrame.onHead _ x)

/-! The pool (R32 to R34, R40, R44) -/

theorem LaneFrame.withdrawWait (s : State) (l : Link) : LaneFrame s (s.withdrawWait l) := LaneFrame.waitList s _

theorem LaneFrame.joinWait (s : State) (l : Link) : LaneFrame s (s.joinWait l) := by
  unfold State.joinWait
  split
  · exact LaneFrame.refl s
  · exact LaneFrame.waitList s _

theorem LaneFrame.grantCredit (s : State) (l : Link) : LaneFrame s (s.grantCredit l) := by
  unfold State.grantCredit
  split
  · exact LaneFrame.refl s
  · refine (LaneFrame.onTimedJob s l _).trans (LaneFrame.onLink _ l (fun x => ?_))
    exact LinkFrame.trans (y := { x with lane := { x.lane with blocksCredited := x.lane.blocksCredited + 1 } })
      (by constructor <;> rfl) (LinkFrame.offerCredit _ _ _)

theorem LaneFrame.dropIdleWait (s : State) (l : Link) : LaneFrame s (s.dropIdleWait l) := by
  unfold State.dropIdleWait
  split
  · exact LaneFrame.refl s
  · split
    · exact LaneFrame.withdrawWait s l
    · exact LaneFrame.refl s

theorem LaneFrame.assign (s : State) (l : Link) (b : BufId) : LaneFrame s (s.assign l b) := by
  unfold State.assign
  split
  · exact LaneFrame.refl s
  · split
    · exact LaneFrame.setHolder s b _
    · exact LaneFrame.setHolder s b _
    · exact (LaneFrame.setHolder s b _).trans (LaneFrame.setBytes _ b _)
    · exact (LaneFrame.setHolder s b _).trans (LaneFrame.grantCredit _ l)

theorem LaneFrame.giveBuffer (w : List Link) (b : BufId) (s : State) : LaneFrame s (giveBuffer w b s) := by
  induction w generalizing s with
  | nil => exact LaneFrame.waitList s []
  | cons l rest ih =>
    have h0 := LaneFrame.waitList s rest
    unfold Machine.giveBuffer
    simp only
    split
    · have h1 := h0.trans (LaneFrame.assign _ l b)
      split
      · exact h1.trans (LaneFrame.joinWait _ l)
      · exact h1
    · exact h0.trans (ih _)

theorem LaneFrame.freeBuf (s : State) (b : BufId) : LaneFrame s (s.freeBuf b) :=
  (LaneFrame.setHolder s b .free).trans (LaneFrame.giveBuffer _ b _)

theorem LaneFrame.freeBufs (s : State) (bs : List BufId) : LaneFrame s (s.freeBufs bs) := by
  unfold State.freeBufs
  induction bs generalizing s with
  | nil => exact LaneFrame.refl s
  | cons b bs ih => exact (LaneFrame.freeBuf s b).trans (ih _)

theorem LaneFrame.askBuffer (s : State) (l : Link) : LaneFrame s (s.askBuffer l) := by
  unfold State.askBuffer
  split
  · exact LaneFrame.assign s l _
  · exact LaneFrame.joinWait s l

theorem LaneFrame.emptyWriteBuffer (s : State) (l : Link) (b : BufId) : LaneFrame s (s.emptyWriteBuffer l b) := by
  unfold State.emptyWriteBuffer
  split
  · exact LaneFrame.freeBuf s b
  · split
    · exact ((LaneFrame.setHolder s b _).trans (LaneFrame.grantCredit _ l)).trans (LaneFrame.dropIdleWait _ l)
    · exact LaneFrame.freeBuf s b

/-! The arbiter (R127, R128) -/

theorem Bus.setRequest_requestIdentify (b : Bus) (l : Link) (r : Option BusRequest) :
    (b.setRequest l r).requestIdentify = b.requestIdentify := by cases l <;> rfl

theorem Bus.setRequest_state (b : Bus) (l : Link) (r : Option BusRequest) : (b.setRequest l r).state = b.state := by
  cases l <;> rfl

theorem Bus.decide_requestIdentify (b : Bus) :
    b.decide.requestIdentify = b.requestIdentify ∨ b.decide.requestIdentify = none := by
  unfold Bus.decide
  split
  · exact .inl rfl
  · exact .inl rfl
  · split
    · exact .inr rfl
    · exact .inl (by unfold Bus.grantLane; exact Bus.setRequest_requestIdentify b _ none)
    · exact .inl (by unfold Bus.grantLane; exact Bus.setRequest_requestIdentify b _ none)
    · exact .inl rfl

theorem Bus.ask_requestIdentify (b : Bus) (l : Link) (r : BusRequest) :
    (b.ask l r).requestIdentify = b.requestIdentify ∨ (b.ask l r).requestIdentify = none := by
  unfold Bus.ask
  have := Bus.decide_requestIdentify (b.setRequest l (some r))
  rwa [Bus.setRequest_requestIdentify] at this

theorem Bus.withdraw_requestIdentify (b : Bus) (l : Link) : (b.withdraw l).requestIdentify = b.requestIdentify := by
  unfold Bus.withdraw
  simp only
  split
  · split
    · exact Bus.setRequest_requestIdentify b l none
    · exact Bus.setRequest_requestIdentify b l none
  all_goals exact Bus.setRequest_requestIdentify b l none

/-- The arbiter and the lanes' requests leave a transfer in flight as it is, and begin none. -/
theorem Bus.decide_flight (b : Bus) (t : Transfer) : b.decide.state = .inFlight t ↔ b.state = .inFlight t := by
  unfold Bus.decide
  split
  · rename_i h; simp [h]
  · rename_i h; simp [h]
  · rename_i h
    split <;> simp [h, Bus.grantLane]

theorem Bus.ask_flight (b : Bus) (l : Link) (r : BusRequest) (t : Transfer) :
    (b.ask l r).state = .inFlight t ↔ b.state = .inFlight t := by
  unfold Bus.ask
  rw [Bus.decide_flight, Bus.setRequest_state]

theorem Bus.withdraw_flight (b : Bus) (l : Link) (t : Transfer) :
    (b.withdraw l).state = .inFlight t ↔ b.state = .inFlight t := by
  have e := Bus.setRequest_state b l none
  unfold Bus.withdraw
  simp only
  split
  · rename_i h
    split
    · simp [← e, h]
    · rw [e]
  all_goals rw [e]

theorem LaneFrame.decide (s : State) : LaneFrame s (s.onBus Bus.decide) :=
  LaneFrame.onBus s (Bus.decide_requestIdentify s.bus) (Bus.decide_flight s.bus)

theorem LaneFrame.withdrawAll (s : State) (l : Link) : LaneFrame s (s.withdrawAll l) :=
  (LaneFrame.withdrawWait s l).trans (LaneFrame.onBus _ (.inl (Bus.withdraw_requestIdentify _ l)) (Bus.withdraw_flight _ l))

/-! The end of a job, errors, completion, pause and resume (R14, R18 to R23, R61, R62) -/

theorem LaneFrame.endJob (s : State) (l : Link) (o : JobOutcome) : LaneFrame s (s.endJob l o) := by
  unfold State.endJob
  split
  · exact LaneFrame.refl s
  · rename_i j _
    refine ((LaneFrame.withdrawAll s l).trans (LaneFrame.onLink _ l (fun x => ?_))).trans (LaneFrame.freeBufs _ _)
    have h1 : LinkFrame x (LinkState.offer (j.endedNotice o)
        { x with live := x.live.tail, history := addHistory x.history (j.entry o) }) :=
      LinkFrame.trans (y := { x with live := x.live.tail, history := addHistory x.history (j.entry o) })
        (by constructor <;> rfl) (LinkFrame.offer _ _)
    simp only
    split
    · exact (h1.trans (LinkFrame.removeCredit j.tag _)).trans (by constructor <;> rfl)
    · exact h1.trans (by constructor <;> rfl)

theorem LaneFrame.unloadCopy (s : State) (l : Link) : LaneFrame s (s.unloadCopy l) := by
  unfold State.unloadCopy
  split
  · exact LaneFrame.refl s
  · exact LaneFrame.setHolder s _ _

theorem LaneFrame.foldl_empty (l : Link) (bs : List BufId) (s : State) :
    LaneFrame s (bs.foldl (fun t b => t.emptyWriteBuffer l b) s) := by
  induction bs generalizing s with
  | nil => exact LaneFrame.refl s
  | cons b bs ih => exact (LaneFrame.emptyWriteBuffer s l b).trans (ih _)

theorem LaneFrame.discardSkipped (s : State) (l : Link) (j : Job) : LaneFrame s (s.discardSkipped l j) := by
  unfold State.discardSkipped
  split
  · exact LaneFrame.refl s
  · exact LaneFrame.refl s
  · exact LaneFrame.unloadCopy s l
  · exact LaneFrame.foldl_empty l _ s

theorem LaneFrame.abandonSegment (s : State) (l : Link) (j : Job) (i : ListId) (e : ErrorKind) :
    LaneFrame s (s.abandonSegment l j i e) := by
  unfold State.abandonSegment
  have h := (LaneFrame.onJob s l (fun _ => j.abandon i e (j.restOfSegment i))).trans
    (LaneFrame.offers _ l (j.abandonNotices i e (j.restOfSegment i)))
  simp only
  split
  · exact h.trans (LaneFrame.endJob _ l _)
  · exact h.trans (LaneFrame.discardSkipped _ l _)

theorem LaneFrame.segmentError (s : State) (l : Link) (i : ListId) (e : ErrorKind) :
    LaneFrame s (s.segmentError l i e) := by
  unfold State.segmentError
  split
  · exact LaneFrame.refl s
  · split
    · exact (LaneFrame.onJob s l _).trans (LaneFrame.endJob _ l _)
    · exact LaneFrame.abandonSegment s l _ i e

theorem LaneFrame.fatalError (s : State) (l : Link) (e : ErrorKind) : LaneFrame s (s.fatalError l e) := by
  unfold State.fatalError
  split
  · exact LaneFrame.refl s
  · exact (LaneFrame.onJob s l _).trans (LaneFrame.endJob _ l _)

theorem LaneFrame.completeBlock (s : State) (l : Link) (j : Job) : LaneFrame s (s.completeBlock l j) :=
  (LaneFrame.onJob s l _).trans (LaneFrame.offers _ l _)

theorem LaneFrame.endIfPast (s : State) (l : Link) {go : State → State} (h : ∀ t, LaneFrame t (go t)) :
    LaneFrame s (s.endIfPast l go) := by
  unfold State.endIfPast
  split
  · exact LaneFrame.refl s
  · split
    · exact LaneFrame.endJob s l _
    · exact h s

theorem LaneFrame.enterPaused (s : State) (l : Link) : LaneFrame s (s.enterPaused l) := by
  unfold State.enterPaused
  split
  · exact LaneFrame.refl s
  · exact ((LaneFrame.withdrawAll s l).trans (LaneFrame.onTimedJob _ l _)).trans (LaneFrame.offer _ l _)

theorem LaneFrame.pauseRunning (s : State) (l : Link) : LaneFrame s (s.pauseRunning l) := by
  unfold State.pauseRunning
  split
  · exact (LaneFrame.withdrawWait s l).trans (LaneFrame.onTimedJob _ l _)
  · exact LaneFrame.enterPaused s l

theorem LaneFrame.resumeJob (s : State) (l : Link) : LaneFrame s (s.resumeJob l) := by
  unfold State.resumeJob
  split
  · exact LaneFrame.refl s
  · simp only
    split
    · exact (LaneFrame.onTimedJob s l _).trans (LaneFrame.offer _ l _)
    · exact LaneFrame.onTimedJob s l _

/-! Reports (R38, R44, R47, R49, R12, R60) -/

theorem LaneFrame.useTransfer (s : State) (l : Link) (u : BufferUse) : LaneFrame s (s.useTransfer l u) := by
  unfold State.useTransfer
  split
  · exact LaneFrame.refl s
  · exact LaneFrame.setHolder s _ _

theorem LaneFrame.queueData (s : State) (l : Link) (j : Job) : LaneFrame s (s.queueData l j) := by
  unfold State.queueData
  split
  · exact LaneFrame.refl s
  · exact (LaneFrame.setHolder s _ _).trans (LaneFrame.onLink _ l (fun x => LinkFrame.push rfl x))

theorem LaneFrame.emptyTransfer (s : State) (l : Link) : LaneFrame s (s.emptyTransfer l) := by
  unfold State.emptyTransfer
  split
  · exact LaneFrame.refl s
  · exact LaneFrame.emptyWriteBuffer s l _

theorem LaneFrame.applyReport (s : State) (l : Link) (j : Job) (d : Direction) (r : Report) :
    LaneFrame s (s.applyReport l j d r) := by
  cases r with
  | success =>
    cases hk : j.kind <;> simp only [State.applyReport, hk]
    · exact ((LaneFrame.queueData s l j).trans (LaneFrame.completeBlock _ l j)).trans
        (LaneFrame.endIfPast _ l (fun t => LaneFrame.refl t))
    · exact (LaneFrame.completeBlock s l j).trans (LaneFrame.endIfPast _ l (fun t => LaneFrame.emptyTransfer t l))
    · cases d
      · exact LaneFrame.useTransfer s l _
      · exact ((LaneFrame.useTransfer s l _).trans (LaneFrame.completeBlock _ l j)).trans
          (LaneFrame.endIfPast _ l (fun t => LaneFrame.refl t))
    · exact (LaneFrame.completeBlock s l j).trans (LaneFrame.endIfPast _ l (fun t => LaneFrame.refl t))
  | error e =>
    cases hk : j.kind <;> simp only [State.applyReport, hk]
    · exact (LaneFrame.useTransfer s l _).trans (LaneFrame.segmentError _ l _ e)
    · exact (LaneFrame.emptyTransfer s l).trans (LaneFrame.segmentError _ l _ e)
    · exact (LaneFrame.useTransfer s l _).trans (LaneFrame.segmentError _ l _ e)
    · exact LaneFrame.segmentError s l _ e

theorem LaneFrame.applyCancelReport (s : State) (l : Link) (j : Job) (d : Direction) (r : Report) :
    LaneFrame s (s.applyCancelReport l j d r) := by
  cases r with
  | success =>
    cases hk : j.kind <;> simp only [State.applyCancelReport, hk]
    · exact (LaneFrame.queueData s l j).trans (LaneFrame.onJob _ l _)
    · exact LaneFrame.onJob s l _
    · cases d
      · exact LaneFrame.useTransfer s l _
      · exact LaneFrame.onJob s l _
    · exact LaneFrame.onJob s l _
  | error e => exact LaneFrame.onJob s l _

theorem LaneFrame.settlePausing (s : State) (l : Link) : LaneFrame s (s.settlePausing l) := by
  unfold State.settlePausing
  split
  · exact LaneFrame.refl s
  · split
    · exact LaneFrame.enterPaused s l
    · exact LaneFrame.refl s

theorem LaneFrame.stoppingReport (s : State) (l : Link) : LaneFrame s (s.stoppingReport l) :=
  LaneFrame.trans (t := s.onLink l (fun x => { x with lane := { x.lane with state := .idle } }))
    (LaneFrame.onLink s l (fun _ => (by constructor <;> rfl))) (LaneFrame.freeBufs _ _)

theorem LaneFrame.takeReport (s : State) (l : Link) (d : Direction) (r : Report) : LaneFrame s (s.takeReport l d r) := by
  unfold State.takeReport
  split
  · exact LaneFrame.stoppingReport s l
  · split
    · exact (LaneFrame.applyCancelReport s l _ d r).trans (LaneFrame.endJob _ l _)
    · exact (LaneFrame.applyReport s l _ d r).trans (LaneFrame.settlePausing _ l)
  · exact LaneFrame.refl s
  · exact LaneFrame.refl s

/-! What a lane does on its own (R11, R33, R37) -/

theorem LaneFrame.startJob (s : State) (l : Link) : LaneFrame s (s.startJob l) :=
  LaneFrame.onLink s l (fun x => (LinkFrame.onHead (fun j => { j with state := .running }) x).trans
    (by constructor <;> rfl))

theorem LaneFrame.startBlock (s : State) (l : Link) (j : Job) (i : ListId) (b : Binding) :
    LaneFrame s (s.startBlock l j i b) := by
  unfold State.startBlock
  split
  · exact LaneFrame.segmentError s l i _
  · exact LaneFrame.onBus s (Bus.ask_requestIdentify s.bus l _) (Bus.ask_flight s.bus l _)

theorem LaneFrame.startTransfer (s : State) (l : Link) (j : Job) (i : ListId) : LaneFrame s (s.startTransfer l j i) := by
  unfold State.startTransfer
  split
  · exact LaneFrame.startBlock s l j i _
  · split
    · exact LaneFrame.refl s
    · split
      · exact LaneFrame.segmentError s l i _
      · exact (LaneFrame.onJob s l _).trans (LaneFrame.startBlock _ l j i _)

theorem LaneFrame.laneStep {s t : State} {l : Link} (h : s.laneStep l = some t) : LaneFrame s t := by
  unfold State.laneStep at h
  split at h
  · exact Option.some.inj h ▸ LaneFrame.startJob s l
  · split at h
    · split at h
      · exact absurd h (by simp)
      · split at h
        · exact Option.some.inj h ▸ LaneFrame.askBuffer s l
        · split at h
          · obtain ⟨i, -, e⟩ := Option.map_eq_some_iff.1 h
            exact e ▸ LaneFrame.startTransfer s l _ i
          · exact absurd h (by simp)
    all_goals exact absurd h (by simp)

theorem LaneFrame.settleFrom (l : Link) (n : Nat) (s : State) : LaneFrame s (settleFrom l n s) := by
  induction n generalizing s with
  | zero => exact LaneFrame.refl s
  | succ n ih =>
    unfold Machine.settleFrom
    split
    · rename_i t h
      exact (LaneFrame.laneStep h).trans (ih t)
    · split
      · rename_i t h
        exact (LaneFrame.laneStep h).trans (ih t)
      · exact LaneFrame.refl s

theorem LaneFrame.settle (s : State) (l : Link) : LaneFrame s (s.settle l) := LaneFrame.settleFrom l _ s

end Sys2Proof.Machine
end

