-- ==== Sys2Proof/Laws/Memory.lean ====
section
/-! SUPPORT. Reads after writes, and the canonical form that every memory operation keeps. -/

namespace Sys2Proof.Machine

theorem Memory.wf_iff (m : Memory) :
    m.wf = true ↔ m.Pairwise (fun c d => c.1 < d.1) ∧ ∀ c ∈ m, c.2 ≠ 0 := by
  simp [Memory.wf]

theorem Memory.wf_nil : Memory.wf [] = true := by decide

theorem Memory.wf_tail {c : Host.Cell} {m : Memory} (h : Memory.wf (c :: m) = true) : Memory.wf m = true := by
  rw [Memory.wf_iff] at h ⊢
  exact ⟨(List.pairwise_cons.1 h.1).2, fun d hd => h.2 d (List.mem_cons_of_mem _ hd)⟩

theorem Memory.wf_cons {c : Host.Cell} {m : Memory} (hm : Memory.wf m = true) (hv : c.2 ≠ 0)
    (hlt : ∀ d ∈ m, c.1 < d.1) : Memory.wf (c :: m) = true := by
  rw [Memory.wf_iff] at hm ⊢
  refine ⟨List.pairwise_cons.2 ⟨hlt, hm.1⟩, fun d hd => ?_⟩
  rcases List.mem_cons.1 hd with rfl | hd
  · exact hv
  · exact hm.2 d hd

theorem Memory.wf_head {c : Host.Cell} {m : Memory} (h : Memory.wf (c :: m) = true) :
    c.2 ≠ 0 ∧ ∀ d ∈ m, c.1 < d.1 := by
  rw [Memory.wf_iff] at h
  exact ⟨h.2 c (List.mem_cons_self ..), (List.pairwise_cons.1 h.1).1⟩

/-- Every cell of a written memory is the one written or stood there before. -/
theorem Memory.mem_write {m : Memory} {a : Nat} {v : Byte} {d : Host.Cell} (h : d ∈ m.write a v) :
    d = (a, v) ∨ d ∈ m := by
  induction m with
  | nil =>
    unfold Memory.write at h
    split at h <;> simp_all
  | cons c m ih =>
    unfold Memory.write at h
    split at h
    · split at h <;> simp_all
    · split at h
      · split at h
        · exact .inr (List.mem_cons_of_mem _ h)
        · rcases List.mem_cons.1 h with h | h
          · exact .inl h
          · exact .inr (List.mem_cons_of_mem _ h)
      · rcases List.mem_cons.1 h with h | h
        · exact .inr (h ▸ List.mem_cons_self ..)
        · rcases ih h with h | h
          · exact .inl h
          · exact .inr (List.mem_cons_of_mem _ h)

/-- A write keeps the canonical form. -/
theorem Memory.wf_write {m : Memory} (h : m.wf = true) (a : Nat) (v : Byte) : (m.write a v).wf = true := by
  induction m with
  | nil =>
    unfold Memory.write
    split
    · exact Memory.wf_nil
    · rename_i hv
      exact Memory.wf_cons Memory.wf_nil hv (by simp)
  | cons c m ih =>
    have hh := Memory.wf_head h
    have ht := Memory.wf_tail h
    unfold Memory.write
    split
    · rename_i hlt
      split
      · exact h
      · rename_i hv
        refine Memory.wf_cons h hv (fun d hd => ?_)
        rcases List.mem_cons.1 hd with rfl | hd
        · exact hlt
        · exact Nat.lt_trans hlt (hh.2 d hd)
    · split
      · rename_i he
        split
        · exact ht
        · rename_i hv
          exact Memory.wf_cons ht hv (fun d hd => by simpa [he] using hh.2 d hd)
      · rename_i h1 h2
        refine Memory.wf_cons (ih ht) hh.1 (fun d hd => ?_)
        rcases Memory.mem_write hd with rfl | hd
        · show c.1 < a
          omega
        · exact hh.2 d hd

theorem Memory.wf_writes {m : Memory} (h : m.wf = true) (a : Nat) (bytes : List Byte) : (m.writes a bytes).wf = true := by
  induction bytes generalizing m a with
  | nil => exact h
  | cons v vs ih => exact ih (Memory.wf_write h a v) (a + 1)

/-- The cells of a run of bytes lie in its range, and hold no 0. -/
theorem Memory.mem_cells {a : Nat} {bytes : List Byte} {d : Host.Cell} (h : d ∈ Memory.cells a bytes) :
    a ≤ d.1 ∧ d.1 < a + bytes.length ∧ d.2 ≠ 0 := by
  induction bytes generalizing a with
  | nil => simp [Memory.cells] at h
  | cons v vs ih =>
    unfold Memory.cells at h
    split at h
    · have := ih h
      simp only [List.length_cons]
      exact ⟨by omega, by omega, this.2.2⟩
    · rename_i hv
      rcases List.mem_cons.1 h with rfl | h
      · refine ⟨Nat.le_refl _, ?_, hv⟩
        simp only [List.length_cons]
        omega
      · have := ih h
        simp only [List.length_cons]
        exact ⟨by omega, by omega, this.2.2⟩

theorem Memory.wf_cells (a : Nat) (bytes : List Byte) : (Memory.cells a bytes).wf = true := by
  induction bytes generalizing a with
  | nil => exact Memory.wf_nil
  | cons v vs ih =>
    unfold Memory.cells
    split
    · exact ih _
    · rename_i hv
      refine Memory.wf_cons (ih _) hv (fun d hd => ?_)
      have := Memory.mem_cells hd
      show a < d.1
      omega

/-- A load keeps the canonical form. -/
theorem Memory.wf_load {m : Memory} (h : m.wf = true) (bytes : List Byte) : (m.load bytes).wf = true := by
  have hc := (Memory.wf_iff _).1 (Memory.wf_cells 0 bytes)
  have hm := (Memory.wf_iff _).1 h
  rw [Memory.wf_iff]
  unfold Memory.load
  refine ⟨List.pairwise_append.2 ⟨hc.1, hm.1.filter _, fun c hcm d hd => ?_⟩, fun d hd => ?_⟩
  · have h1 := Memory.mem_cells hcm
    have h2 := (List.mem_filter.1 hd).2
    simp only [decide_eq_true_eq] at h2
    omega
  · rcases List.mem_append.1 hd with hd | hd
    · exact hc.2 d hd
    · exact hm.2 d (List.mem_filter.1 hd).1

/-- An offset below every cell reads as an unlisted one. -/
theorem Memory.read_below {m : Memory} {a : Nat} (h : ∀ d ∈ m, a < d.1) : m.read a = 0 := by
  induction m with
  | nil => rfl
  | cons c m ih =>
    unfold Memory.read
    have hc := h c (List.mem_cons_self ..)
    rw [if_neg (by omega)]
    exact ih (fun d hd => h d (List.mem_cons_of_mem _ hd))

/-- A read after a write to the same offset. -/
theorem Memory.read_write_self {m : Memory} (h : m.wf = true) (a : Nat) (v : Byte) : (m.write a v).read a = v := by
  induction m with
  | nil =>
    unfold Memory.write
    split
    · rename_i hv; rw [hv]; rfl
    · simp [Memory.read]
  | cons c m ih =>
    have hh := Memory.wf_head h
    unfold Memory.write
    split
    · rename_i hlt
      split
      · rename_i hv
        rw [hv]
        refine Memory.read_below (fun d hd => ?_)
        rcases List.mem_cons.1 hd with rfl | hd
        · exact hlt
        · exact Nat.lt_trans hlt (hh.2 d hd)
      · simp [Memory.read]
    · split
      · rename_i he
        split
        · rename_i hv
          rw [hv, he]
          exact Memory.read_below hh.2
        · simp [Memory.read]
      · rename_i h1 h2
        unfold Memory.read
        rw [if_neg (by omega)]
        exact ih (Memory.wf_tail h)

/-- A read after a write to another offset. -/
theorem Memory.read_write_ne (m : Memory) {a b : Nat} (e : b ≠ a) (v : Byte) : (m.write a v).read b = m.read b := by
  induction m with
  | nil =>
    unfold Memory.write
    split
    · rfl
    · simp [Memory.read, Ne.symm e]
  | cons c m ih =>
    unfold Memory.write
    split
    · split
      · rfl
      · simp [Memory.read, Ne.symm e]
    · split
      · rename_i he
        split
        · simp [Memory.read, ← he, Ne.symm e]
        · simp [Memory.read, ← he, Ne.symm e]
      · simp [Memory.read, ih]

/-- A read in a run of cells. -/
theorem Memory.read_cells (a : Nat) (bytes : List Byte) (i : Nat) (h : i < bytes.length) :
    (Memory.cells a bytes).read (a + i) = bytes[i] := by
  induction bytes generalizing a i with
  | nil => simp at h
  | cons v vs ih =>
    unfold Memory.cells
    cases i with
    | zero =>
      split
      · rename_i hv
        rw [Memory.read_below (fun d hd => ?_)]
        · simp [hv]
        · have := (Memory.mem_cells hd).1
          omega
      · simp [Memory.read]
    | succ i =>
      have hi : i < vs.length := by simpa using h
      have := ih (a + 1) i hi
      have e : a + (i + 1) = a + 1 + i := by omega
      split
      · simpa [e] using this
      · rw [e]
        unfold Memory.read
        rw [if_neg (by show ¬a = a + 1 + i; omega)]
        simpa using this

theorem Memory.read_append {m k : Memory} {a : Nat} (h : ∀ d ∈ k, d.1 ≠ a) : Memory.read (m ++ k) a = m.read a := by
  induction m with
  | nil =>
    induction k with
    | nil => rfl
    | cons c k ih =>
      simp only [List.nil_append] at ih ⊢
      unfold Memory.read
      rw [if_neg (h c (List.mem_cons_self ..))]
      exact ih (fun d hd => h d (List.mem_cons_of_mem _ hd))
  | cons c m ih => simp [Memory.read, ih]

/-- A loaded byte reads as it was given. -/
theorem Memory.read_load (m : Memory) (bytes : List Byte) (i : Nat) (h : i < bytes.length) :
    (m.load bytes).read i = bytes[i] := by
  unfold Memory.load
  rw [Memory.read_append (fun d hd => ?_)]
  · simpa using Memory.read_cells 0 bytes i h
  · have := (List.mem_filter.1 hd).2
    simp only [decide_eq_true_eq] at this
    omega

/-- The first bytes of a loaded memory are those given. -/
theorem Memory.bytes_load (m : Memory) (bytes : List Byte) : (m.load bytes).bytes bytes.length = bytes := by
  apply List.ext_getElem
  · simp [Memory.bytes]
  · intro i h1 h2
    simp [Memory.bytes, Memory.read_load m bytes i h2]

theorem Buffer.reset_wf : Buffer.reset.bytes.wf = true := by decide

end Sys2Proof.Machine
end

