-- ==== Sys2Proof/Laws/Requests.lean ====
section
/-! SUPPORT. Events and hand-off: what an event of a part out of reset is, and when a request reaches its owner. -/

namespace Sys2Proof.Machine

@[simp] theorem State.kick_link (s : State) (l : Link) : s.kick.link l = (s.link l).kick := State.onLinks_link s l _
@[simp] theorem State.kick_pending (s : State) : s.kick.pending = s.pending := rfl
@[simp] theorem State.kick_inReset (s : State) : s.kick.inReset = s.inReset := rfl
@[simp] theorem State.kick_slots (s : State) : s.kick.slots = s.slots := rfl
@[simp] theorem State.kick_slot (s : State) (i : SlotId) : s.kick.slot i = s.slot i := rfl
@[simp] theorem State.kick_windows (s : State) : s.kick.windows = s.windows := rfl
@[simp] theorem State.kick_buffers (s : State) : s.kick.buffers = s.buffers := rfl
@[simp] theorem State.kick_bus (s : State) : s.kick.bus = s.bus := rfl
@[simp] theorem LinkState.kick_outbound (x : LinkState) : x.kick.outbound = x.outbound := rfl
@[simp] theorem LinkState.kick_live (x : LinkState) : x.kick.live = x.live := rfl
@[simp] theorem LinkState.kick_session (x : LinkState) : x.kick.session = x.session := rfl
@[simp] theorem LinkState.kick_conditions (x : LinkState) : x.kick.conditions = x.conditions := rfl

/-- An event of a part out of reset takes its effect, and idle transmitters begin. -/
theorem event_of_running {s : State} (h : s.inReset = false) (f : State → State) : event s f = (f s).kick := by
  simp [event, h]

/-- An event of a part held in reset has no effect. -/
theorem event_of_reset {s : State} (h : s.inReset = true) (f : State → State) : event s f = s := by
  simp [event, h]

/-- A pin event of a part out of reset changes the level and is then taken. -/
theorem pinEvent_of_running {s : State} (h : s.inReset = false) (p f : State → State) :
    pinEvent s p f = (f (p s)).kick := by
  simp [pinEvent, event, h]

/-- A ready link can hand a request on. -/
theorem State.ready.canHandOn {s : State} {l : Link} (h : s.ready l) : (s.link l).canHandOn = true := by
  simp [LinkState.canHandOn, h.2.1, h.2.2]

/-- In OPEN, a request handed on is decided by its owner. -/
theorem State.answer_of_open {s : State} {l : Link} (h : (s.link l).session ≠ .closed) (code : Nat)
    (owner : State → State) : s.answer l code owner = owner s := by
  simp [State.answer, h]

/-- A request command of a ready link takes its owner's effect. -/
theorem handed_of_ready {s : State} {l : Link} (h : s.ready l) (code : Nat) (owner : State → State) :
    handed s l code owner = .next (owner s).kick := by
  have hs : (s.link l).session ≠ .closed := by rw [h.2.1]; decide
  simp [handed, h.canHandOn, event_of_running h.1, State.answer_of_open hs]

/-- A request command in CLOSED with a free reply place is answered NO_SESSION, unless it is taken without a session. -/
theorem handed_of_closed {s : State} {l : Link} (h0 : s.inReset = false) (h : (s.link l).session = .closed)
    (h1 : (s.link l).replies < Config.replyPlaces) {code : Nat} (hc : takenClosed code = false) (owner : State → State) :
    handed s l code owner = .next (s.reply l code .noSession []).kick := by
  simp [handed, LinkState.canHandOn, h, h1, event_of_running h0, State.answer, hc]

end Sys2Proof.Machine
end

