-- ==== Sys2Proof/Tests/Slice0.lean ====
section
/-! SUPPORT. Tests of the model: what WellFormed refuses, worked examples of the manual, and for each statement that has
premises states that meet them, clause by clause (`test_met_<statement>`). Expected values are the manual's. -/

namespace Sys2Proof.Tests

open Sys2Proof.Machine

-- One theorem at a time: the kernel evaluations below would otherwise each take a thread with a large stack.
set_option Elab.async false

/-! ## WellFormed refuses an ill-formed term of each check -/

def wset : WsetArgs := ⟨0, 0, 12, 0, 0, none, none, none, none, none⟩
def jsub : JsubArgs := ⟨3, 1, 256, none, none, [⟨0, 2⟩], []⟩

theorem test_wellFormed_accepts :
    (Instr.wset .A wset).wellFormed = true ∧ (Instr.jsub .A jsub).wellFormed = true ∧
    (Instr.openSession .B (some 65535) (some 65535)).wellFormed = true ∧ (Instr.jget .A 255).wellFormed = true ∧
    (Instr.unknownRequest .A 0x99).wellFormed = true := by decide

theorem test_wellFormed_open :
    (Instr.openSession .A (some 65536) none).wellFormed = false ∧
    (Instr.openSession .A none (some 65536)).wellFormed = false := by decide

theorem test_wellFormed_wset :
    (Instr.wset .A { wset with index := 256 }).wellFormed = false ∧
    (Instr.wset .A { wset with base := 2 ^ 32 }).wellFormed = false ∧
    (Instr.wset .A { wset with sizePower := 256 }).wellFormed = false ∧
    (Instr.wset .A { wset with slot := 256 }).wellFormed = false ∧
    (Instr.wset .A { wset with offset := 2 ^ 32 }).wellFormed = false ∧
    (Instr.wset .A { wset with rightsA := some 256 }).wellFormed = false ∧
    (Instr.wset .A { wset with rightsB := some 256 }).wellFormed = false ∧
    (Instr.wset .A { wset with waits := some 256 }).wellFormed = false ∧
    (Instr.wset .A { wset with limit := some 65536 }).wellFormed = false ∧
    (Instr.wset .A { wset with retries := some 256 }).wellFormed = false := by decide

theorem test_wellFormed_indices :
    (Instr.wrel .A 256).wellFormed = false ∧ (Instr.wget .A 256).wellFormed = false ∧
    (Instr.spwrOn .A 256 false).wellFormed = false ∧ (Instr.spwrOff .A 256 true).wellFormed = false ∧
    (Instr.scfg .A 256 0).wellFormed = false ∧ (Instr.scfg .A 0 256).wellFormed = false ∧
    (Instr.sclr .A 256).wellFormed = false ∧ (Instr.sget .A 256).wellFormed = false ∧
    (Instr.jpau .A 256).wellFormed = false ∧ (Instr.jres .A 256).wellFormed = false ∧
    (Instr.jcan .A 256).wellFormed = false ∧ (Instr.jget .A 256).wellFormed = false := by decide

theorem test_wellFormed_jsub :
    (Instr.jsub .A { jsub with tag := 256 }).wellFormed = false ∧
    (Instr.jsub .A { jsub with kind := 256 }).wellFormed = false ∧
    (Instr.jsub .A { jsub with blockSize := 65536 }).wellFormed = false ∧
    (Instr.jsub .A { jsub with flags := some 256 }).wellFormed = false ∧
    (Instr.jsub .A { jsub with primary := [⟨2 ^ 32, 1⟩] }).wellFormed = false ∧
    (Instr.jsub .A { jsub with destination := [⟨0, 65536⟩] }).wellFormed = false ∧
    (Instr.jsub .A { jsub with primary := List.replicate 63 ⟨0, 1⟩ }).wellFormed = false := by decide

theorem test_wellFormed_frames :
    (Instr.unknownRequest .A 0x50).wellFormed = false ∧
    (Instr.reqFrameArrives .A 0x50 (List.replicate 513 0)).wellFormed = false ∧
    (Instr.datFrameArrives .A 3 (List.replicate 2051 0)).wellFormed = false ∧
    (Instr.characterReceived .A 0x3FF).wellFormed = false := by
  refine ⟨by decide, ?_, ?_, by decide⟩ <;> simp only [Instr.wellFormed, List.length_replicate] <;> decide

/-! ## Small states -/

/-- Link A with an open session and nothing else. -/
def opened : LinkState := { LinkState.reset with session := .opened, dataTimeout := some 1000, holdLimit := some 5 }

/-- The reset state with link A as given and nothing on either line. -/
def withA (x : LinkState) : State := { State.reset with linkA := x, linkB := LinkState.reset }

/-- A session is open on link A. -/
def base : State := withA opened

def job (kind : JobKind) (state : JobState) : Job where
  tag := 3
  kind := kind
  blockSize := 256
  stopOnError := true
  segmentNotices := false
  pattern := none
  primary := [⟨0, 2⟩]
  destination := []
  total := 2
  state := state
  causeHost := false
  causeLatch := false
  nextBlock := 0
  posPrimary := ⟨0, 0, 0⟩
  posDestination := ⟨0, 0, 0⟩
  bindPrimary := none
  bindDestination := none
  completed := 0
  failed := 0
  firstError := none
  credits := 0
  nextExpected := 0
  holdTimer := .stopped
  dataTimer := .stopped

/-- Link A with one job on a BUSY lane. -/
def withJob (j : Job) : State := withA { opened with live := [j], lane := ⟨.busy, 0, 0⟩ }

def identity : Identity := ⟨.readWrite, 13, 16, 1, List.replicate 8 0, List.replicate 16 0⟩

/-- A READY slot with a module of 8 KiB. -/
def readySlot : Slot := { Slot.reset with state := .ready, generation := 1, identity := some identity, presPin := true }

def withSlot0 (x : Slot) (s : State) : State := s.onSlot 0 (fun _ => x)

def busRequest : BusRequest := ⟨0, 0, .read, 1, 100, 1, 256⟩
def binding : Binding := ⟨0, 0, 1, 100, 1, 1⟩

/-- A READ block of lane A in flight to slot 0, its word waiting for the response. -/
def flight : Transfer where
  requester := .lane .A
  slot := 0
  direction := .read
  dataWidth := 16
  address := 0
  wordCount := 128
  waits := 1
  limit := 100
  retriesLeft := 0
  wordIndex := 0
  buffer := some 0
  phase := .response
  watchdog := .running 100

/-- The identity read of slot 0 in flight, its last word waiting for the response. -/
def identFlight : Transfer :=
  { flight with
    requester := .identify, dataWidth := 8, wordCount := 32, waits := 7, limit := 1000, wordIndex := 31, buffer := none,
    watchdog := .running 1000 }

def inFlight (t : Transfer) (s : State) : State := s.onBus (fun b => { b with state := .inFlight t })
def granted (g : Grant) (s : State) : State := s.onBus (fun b => { b with state := .granted g })

/-- An 8 KiB window of link A on slot 0. -/
def window : Window := ⟨.A, 0, 13, 0, 0, .readWrite, .none, 7, 1000, 1⟩

def setWindow (i : Fin 8) (w : Window) (s : State) : State := { s with windows := s.windows.set i.val (some w) i.isLt }

/-! ## States that meet the premises of the statements, clause by clause -/

/-- The state after one command. -/
def after (c : Instr) (s : State) : State :=
  match exec c s with
  | .next t => t
  | .fault _ => s
  | .refused _ => s

theorem test_met_StepTakesTheFrontCommand : { base with pending := [.grant] }.pending = .grant :: [] := by decide

/-- A READ of link A with a block in flight, three commands waiting, and a window: it meets every law. -/
def busy : State :=
  setWindow 0 window (withSlot0 readySlot (inFlight flight (withJob { job .read .running with bindPrimary := some binding })))

theorem test_met_the_laws :
    busy.limitsKept = true ∧ busy.windowsKept = true ∧ busy.linkA.closedLaw = true ∧ busy.linkB.closedLaw = true ∧
    busy.listsKept = true ∧ busy.slotsKept = true ∧ busy.sequencersLaw = true ∧ busy.memoriesKept = true ∧
    busy.poolKept = true ∧ busy.waitLaw = true ∧ busy.lanesKept = true ∧ busy.placesKept = true ∧
    busy.latchLaw = true ∧ busy.arbiterLaw = true ∧ busy.linkA.framerLaw = true ∧ busy.linkA.overflowLaw = true ∧
    busy.linkB.overflowLaw = true := by decide

theorem test_met_the_steps_of_the_laws : ∃ t, step { busy with pending := [.jcan .A 3] } = .next t := ⟨_, rfl⟩

theorem test_met_RequestPayloadsReadBack :
    Request.nget.wellFormed = true ∧ (Request.nsub 0xFFFFFFFF).wellFormed = true ∧
    (Request.openSession (some 65535) (some 0)).wellFormed = true ∧ (Request.jsub jsub).wellFormed = true ∧
    (Request.wset wset).wellFormed = true ∧ (Request.spwr 0 255 true).wellFormed = true := by decide

theorem test_met_RequestFramesActAsTheirCommands :
    Request.nget.wellFormed = true ∧ Request.nget.command .A = some (.nget .A) ∧ base.inReset = false ∧
    (base.link .A).session ≠ .resetPending ∧ (base.link .A).replies < Config.replyPlaces ∧
    (base.link .A).intake = [] ∧ (base.link .A).breakDetected = false ∧ (base.link .A).framer = .hunt ∧
    (base.link .A).gapTimer = .stopped := by decide

/-- The bytes of an NGET frame, and of a DATA frame of 2 bytes, wait at link A. -/
theorem test_met_ReceivedBytesActAsTheirFrame :
    base.inReset = false ∧ (base.link .A).breakDetected = false ∧ (base.link .A).framer = .hunt ∧
    (base.link .A).gapTimer = .stopped ∧ base.kick = base ∧
    { base with pending := (frameBytes 0x01 0x22 []).map (fun b => Instr.characterReceived .A (serialOf b)) }.kick =
      { base with pending := (frameBytes 0x01 0x22 []).map (fun b => Instr.characterReceived .A (serialOf b)) } ∧
    { base with pending := (frameBytes 0x04 3 [0, 0]).map (fun b => Instr.characterReceived .A (serialOf b)) }.kick =
      { base with pending := (frameBytes 0x04 3 [0, 0]).map (fun b => Instr.characterReceived .A (serialOf b)) } := by
  repeat' constructor

theorem test_met_OpenIsDecided :
    State.reset.inReset = false ∧ (State.reset.link .A).replies < Config.replyPlaces ∧
    (base.link .A).replies < Config.replyPlaces ∧ (base.link .A).session = .opened ∧
    (State.reset.link .A).session = .closed ∧ (some 9).getD 1000 < 10 ∧ 10000 < (some 10001).getD 1000 ∧
    600 < (some 601).getD 0 ∧ 10 ≤ (some 10).getD 1000 ∧ (some 10000).getD 1000 ≤ 10000 ∧ (some 600).getD 0 ≤ 600 := by
  decide

/-- A session is open on link A: the premise `ready` of the request statements. -/
theorem test_met_ready : base.ready .A := by unfold State.ready; decide

/-- Link A with a DATA entry on the line and one behind it, and a grant outstanding to its lane. -/
def dataWaits (x : LinkState) : State :=
  granted (.lane .A busRequest false)
    (((withA { x with outbound := [.data 3 0 256 1, .data 3 1 256 2], transmitting := true }).setHolder 1
      (.lane .A (.outbound 3 0))).setHolder 2 (.lane .A (.outbound 3 1)))

theorem test_met_CloseTearsTheSessionDown :
    busy.ready .A ∧ (busy.link .A).lane.state = .busy ∧ busy.bus.laneInFlight .A = true ∧
    busy.bus.state = .inFlight flight ∧ (dataWaits opened).ready .A ∧
    (dataWaits opened).bus.state = .granted (.lane .A busRequest false) ∧
    ((dataWaits opened).link .A).waiting.filterMap Entry.buffer? = [2] ∧
    (dataWaits opened).useOf .A 1 = some (.outbound 3 0) := by unfold State.ready; decide

theorem test_met_LinkResetAnnouncesItself :
    (∀ s ∈ [busy, State.reset], s.inReset = false ∧ (s.link .A).closedLaw = true ∧
      (s.link .A).session ≠ .resetPending ∧ (s.link .A).replies < Config.replyPlaces) ∧
    (busy.link .A).session ≠ .closed ∧ (State.reset.link .A).session = .closed ∧
    ((dataWaits LinkState.reset).link .A).session = .closed ∧
    ((dataWaits LinkState.reset).link .A).closedLaw = true ∧
    ((dataWaits LinkState.reset).link .A).waiting.filterMap Entry.buffer? = [2] := by
  refine ⟨?_, by decide⟩
  simp only [List.mem_cons, List.not_mem_nil, or_false]
  rintro s (rfl | rfl) <;> decide

/-- The OK reply to the RSTP of link A is on the line. -/
def rstpSent : State :=
  withA { opened with session := .resetPending, outbound := [.reply 0x13 .ok []], transmitting := true }

theorem test_met_RstpEndsInAPartReset :
    busy.ready .A ∧ rstpSent.inReset = false ∧ (rstpSent.link .A).transmitting = true ∧
    (rstpSent.link .A).outbound = .reply 0x13 .ok [] :: [] ∧ (∀ e ∈ ([] : List Entry), e.isRstpReply = false) ∧
    (rstpSent.link .A).session = .resetPending := by unfold State.ready; decide

/-- A DATA frame on the other line keeps its buffer. -/
theorem test_met_RstpEndsInAPartReset_frame :
    ((({ rstpSent with linkB := { opened with outbound := [.data 3 0 256 5], transmitting := true } }.setHolder 5
      (.lane .B (.outbound 3 0))).link .B).sending.filterMap Entry.buffer?) = [5] := by decide

theorem test_met_NrstHoldsThePart :
    { base with inReset := true }.inReset = true ∧
    ∃ t, exec (.presAssert 0) { base with inReset := true } = .next t := ⟨rfl, _, rfl⟩

/-- Conditions 0 and 1 are raised and condition 1 is subscribed; `out` waits behind the frame on the line. -/
def raised (out : List Entry) : State :=
  withA { opened with conditions := 3, mask := 2, outbound := .credit 1 1 :: out, transmitting := true }

theorem test_met_NsubNackAndNgetServeTheConditions :
    (raised []).ready .A ∧ (0x2000000#32 >>> 25) ≠ 0 ∧ (0x1FFFFFF#32 >>> 25) = 0 ∧
    (2#32).setWidth 25 &&& ~~~((raised []).link .A).mask &&& ((raised []).link .A).conditions = 0 ∧
    (1#32).setWidth 25 &&& ~~~((raised []).link .A).mask &&& ((raised []).link .A).conditions ≠ 0 ∧
    ((raised []).link .A).waiting = [] ∧ ((raised []).link .A).notices < Config.noticePlaces ∧
    ((raised (List.replicate 11 (.notice (.overflow 1)))).link .A).notices < Config.noticePlaces ∧
    Config.noticePlaces ≤ ((raised (List.replicate 12 (.notice (.overflow 1)))).link .A).notices ∧
    ((raised [.notice (.condition 4)]).link .A).waiting = [] ++ .notice (.condition 4) :: [] := by
  unfold State.ready; decide

theorem test_met_RaiseRecordsAndAnnounces :
    LinkState.reset.session ≠ .opened ∧ ((raised []).link .A).conditions.getLsbD (Condition.inserted 0).bit = true ∧
    opened.session = .opened ∧ opened.conditions.getLsbD (Condition.ready 0).bit = false ∧
    opened.mask.getLsbD (Condition.ready 0).bit = false ∧
    { opened with mask := 0x1FFFFFF }.mask.getLsbD (Condition.ready 0).bit = true ∧
    { opened with outbound := [.notice (.condition 1)] }.waiting = [] ++ .notice (.condition 1) :: [] ∧
    opened.waiting = [] ∧ opened.notices < 12 ∧
    12 ≤ { opened with outbound := List.replicate 12 (.notice (.overflow 1)) }.notices := by decide

theorem test_met_WindowsChangeByTheirOwner :
    base.ready .A ∧ windowOfArgs .A { wset with index := 8 } = none ∧ (windowOfArgs .A wset).isSome = true ∧
    (setWindow 0 { window with owner := .B } base).ready .A ∧
    (setWindow 0 { window with owner := .B } base).windows.get 0 = some { window with owner := .B } ∧
    (setWindow 0 window base).ready .A ∧ (setWindow 0 window base).windows.get 0 = some window ∧
    base.windows.get 0 = none ∧ 7 < 8 ∧ windowOfArgs .A wset = some { window with sizePower := 12 } := by
  unfold State.ready; decide

theorem test_met_WgetReportsTheWindow :
    (setWindow 0 window base).ready .A ∧ 7 < 8 ∧ (setWindow 0 window base).windows.get 1 = none ∧
    (setWindow 0 window base).windows.get 0 = some window := by unfold State.ready; decide

/-- Windows that meet the extent [a, a + len). -/
def hits (s : State) (a len : Nat) : List Window :=
  s.enabledWindows.filter (fun w => decide (w.base < a + len) && decide (a < w.base + 2 ^ w.sizePower))

/-- One window of link A on slot 0, which holds the module given. -/
def mapped (x : Slot) : State := withSlot0 x (setWindow 0 window base)

theorem test_met_DecodeMakesItsChecksInOrder :
    hits base 0 1 = [] ∧ 2 ≤ (hits (setWindow 1 window (mapped readySlot)) 0 1).length ∧
    hits (mapped readySlot) 8192 256 = [] ∧ hits (mapped readySlot) 8191 256 = [window] ∧
    ¬ (window.base ≤ 8191 ∧ 8191 + 256 ≤ window.base + 2 ^ window.sizePower) ∧
    hits (mapped readySlot) 7936 256 = [window] ∧ 7936 + 256 ≤ window.base + 2 ^ window.sizePower ∧
    window.rightsB = .none ∧ window.rightsA = .readWrite ∧ ((mapped Slot.reset).slot window.slot).state ≠ .ready ∧
    ((mapped readySlot).slot window.slot).state = .ready ∧
    ((mapped readySlot).slot window.slot).identity = some identity ∧
    2 ^ 12 < window.offset + (7936 - window.base) + 256 ∧
    window.offset + (7936 - window.base) + 256 ≤ 2 ^ identity.capacityCode ∧
    { readySlot with wp := true }.wp = true ∧ readySlot.wp = false ∧ identity.moduleClass = .readWrite := by decide

def phase (p : SlotPhase) : State := withSlot0 { Slot.reset with state := p, presPin := true } base

/-- Slot 0 is RAMPING, and so says the Ramp Sequencer. -/
def rampingSlot : State :=
  { withSlot0 { Slot.reset with state := .ramping, presPin := true, rampTimer := .running 20 } base with ramping := some 0 }

/-- Slot 0 is IDENTIFYING, its identity read in flight at its last word. -/
def identifying : State :=
  { inFlight identFlight (phase .identifying) with identQueue := [0] }

theorem test_met_SpwrOnScfgAndSclrFollowTheSlotState :
    base.ready .A ∧ 3 < 4 ∧ (base.slot 0).state ∈ [SlotPhase.empty, .settling, .draining, .faulted] ∧
    ((phase .ready).slot 0).state ∈ [SlotPhase.queuedForPower, .ramping, .identifying, .ready] ∧
    ((phase .present).slot 0).state = .present ∧ ({ phase .present with ramping := some 1 }).ramping ≠ none ∧
    (phase .present).ramping = none ∧ (phase .present).powerWait = [] ∧ ((phase .present).slot 0).tripPin = false ∧
    ((withSlot0 { Slot.reset with state := .present, tripPin := true } base).slot 0).tripPin = true ∧
    (withSlot0 { Slot.reset with state := .present, tripPin := true } base).powerWait = [] ∧ (3 < 4 ∨ 1 < 0) ∧
    (base.slot 0).state ≠ .faulted ∧ ((phase .faulted).slot 0).state = .faulted ∧ (phase .faulted).ready .A := by
  unfold State.ready; decide

/-- Slot 0 RAMPING, slot 1 waiting. -/
def rampingTwo : State :=
  { rampingSlot.onSlot 1 (Slot.enter .queuedForPower) with powerWait := [1] }

/-- The same with slot 2 waiting before slot 1 and TRIP2 asserted. -/
def rampingThree (waits : List SlotId) : State :=
  { rampingTwo.onSlot 2 (fun x => { x.enter .queuedForPower with tripPin := true }) with powerWait := waits }

theorem test_met_SpwrOffFollowsTheSlotState_waiting :
    (rampingThree [2, 1]).ready .A ∧ (rampingThree [2]).ready .A ∧ ((rampingThree [2, 1]).slot 0).state = .ramping ∧
    (rampingThree [2, 1]).ramping = some 0 ∧ (rampingThree [2, 1]).powerWait = [2] ++ [1] ∧
    (rampingThree [2]).powerWait = [2] ++ [] ∧ (rampingThree [2, 1]).powerWait.Nodup ∧
    0 ∉ (rampingThree [2, 1]).powerWait ∧ 0 ∉ (rampingThree [2, 1]).identQueue ∧
    (rampingThree [2, 1]).bus.requestIdentify ≠ some 0 ∧ (∀ n ∈ [(2 : SlotId)], ((rampingThree [2, 1]).slot n).tripPin = true) ∧
    ((rampingThree [2, 1]).slot 1).tripPin = false := by unfold State.ready; decide

theorem test_met_SpwrOffFollowsTheSlotState :
    base.ready .A ∧ 3 < 4 ∧ (base.slot 0).state ∈ [SlotPhase.empty, .settling, .faulted] ∧
    ((phase .draining).slot 0).state ∈ [SlotPhase.present, .draining] ∧
    ((phase .queuedForPower).slot 0).state = .queuedForPower ∧ (phase .queuedForPower).ramping ≠ some 0 ∧
    0 ∉ (phase .queuedForPower).identQueue ∧ (phase .queuedForPower).bus.requestIdentify ≠ some 0 ∧
    (rampingSlot.slot 0).state = .ramping ∧ rampingSlot.ramping = some 0 ∧ rampingSlot.powerWait = [] ∧
    0 ∉ rampingSlot.identQueue ∧ rampingSlot.bus.requestIdentify ≠ some 0 ∧
    (identifying.slot 0).state = .identifying ∧ identifying.flightLaw = true ∧ identifying.ready .A := by
  unfold State.ready; decide

/-- A READY slot that is not in use, and one in use by a transfer of lane A or by a binding alone. -/
theorem test_met_SpwrOffFollowsTheSlotState_inUse :
    ((phase .ready).slot 0).state = .ready ∧ ¬ (phase .ready).inUse 0 ∧ (busy.slot 0).state = .ready ∧ busy.inUse 0 ∧
    (∃ x m, busy.bus.state = .inFlight x ∧ x.slot = 0 ∧ x.requester = .lane m) := by
  refine ⟨by decide, ?_, by decide, .inl ⟨flight, .A, rfl, rfl, rfl⟩, ⟨flight, .A, rfl, rfl, rfl⟩⟩
  rintro (⟨x, l, h, -⟩ | ⟨l, j, b, h, -⟩)
  · simp [phase, base, withA, withSlot0, State.reset, Bus.reset, State.onSlot] at h
  · cases l <;> simp [LinkState.working, phase, base, withA, withSlot0, State.onSlot, State.link, opened,
      LinkState.reset] at h

theorem test_met_SpwrOffFollowsTheSlotState_bound :
    ∃ s : State, (s.slot 0).state = .ready ∧ s.inUse 0 ∧
      ¬ ∃ x m, s.bus.state = .inFlight x ∧ x.slot = 0 ∧ x.requester = .lane m := by
  refine ⟨withSlot0 readySlot (withJob { job .read .running with bindPrimary := some binding }), by decide,
    .inr ⟨.A, _, binding, ⟨rfl, by decide⟩, .inl rfl, rfl, by decide⟩, ?_⟩
  rintro ⟨x, m, h, -⟩
  simp [withJob, withA, withSlot0, State.reset, Bus.reset, State.onSlot] at h

/-- Slot 0 FAULTED, slot 1 QUEUED_FOR_POWER, slot 2 READY. -/
def mixed : State :=
  { (((base.onSlot 0 (Slot.fail .overcurrent)).onSlot 1 (Slot.enter .queuedForPower)).onSlot 2 (fun _ => readySlot)) with
    powerWait := [1] }

theorem test_met_SgetReportsTheSlot :
    mixed.ready .A ∧ (∀ i, (mixed.slot i).law = true) ∧ mixed.sequencersLaw = true ∧ 3 < 4 ∧
    (mixed.slot 0).state = .faulted ∧ (mixed.slot 1).state = .queuedForPower ∧ (mixed.slot 2).state = .ready := by
  unfold State.ready; decide

/-! ### Jobs -/

theorem test_met_JsubParametersAreChecked : (jobOfArgs jsub).isSome = true := by decide

def eightJobs : State := withA { opened with live := (List.range 8).map (fun k => { job .read .queued with tag := k + 10 }) }
def stopping : State := withA { opened with lane := ⟨.stopping, 0, 0⟩ }

theorem test_met_JsubJoinsTheLiveList :
    base.ready .A ∧ jobOfArgs { jsub with tag := 0 } = none ∧ (jobOfArgs jsub).isSome = true ∧
    8 ≤ (eightJobs.link .A).live.length ∧ (busy.link .A).live.length < 8 ∧ (busy.link .A).live.map Job.tag = [3] ∧
    (jobOfArgs { jsub with tag := 255 }).map Job.tag = some 255 ∧ { base with latchHold := true }.latchHold = true ∧
    (stopping.link .A).lane.state ≠ .idle ∧ (busy.link .A).live = { job .read .running with bindPrimary := some binding } :: []
    ∧ base.latchHold = false ∧ (base.link .A).lane.state = .idle ∧ (base.link .A).live = [] := by unfold State.ready; decide

/-- The premises of the start of a WRITE with 1 block, and with 4096 blocks. -/
theorem test_met_WriteStartsWithItsCredits :
    base.ready .A ∧ (jobOfArgs { jsub with kind := 2, primary := [⟨0, 1⟩] }).map Job.kind = some .write ∧
    (jobOfArgs { jsub with kind := 2, primary := [⟨0, 1⟩] }).map Job.total = some 1 ∧
    (jobOfArgs { jsub with kind := 2, primary := [⟨0, 4096⟩] }).map Job.total = some 4096 ∧
    (base.link .A).live = [] ∧ (base.link .A).lane.state = .idle ∧ base.latchHold = false ∧ base.heldCount .A = 0 ∧
    (base.link .A).creditEntries = 0 ∧ base.laneStep (Link.A).other = none ∧ base.waitList = [] ∧
    4 ≤ bufferIds.countP (fun b => (base.buffers.get b).holder = .free) := by unfold State.ready; decide

def ended : HistoryEntry := ⟨3, .read, .done, 2, 0, none⟩

theorem test_met_JobRequestsAreRefused :
    (withA { opened with history := [ended] }).ready .A ∧ base.ready .A ∧
    (∀ k ∈ (base.link .A).live, k.tag ≠ 3) ∧ (∃ e ∈ ((withA { opened with history := [ended] }).link .A).history, e.tag = 3) ∧
    (∀ e ∈ (base.link .A).history, e.tag ≠ 3) ∧
    (∀ st : JobState, ((withJob (job .read st)).link .A).live = [] ++ job .read st :: [] ∧ (job .read st).tag = 3) ∧
    { job .read .paused with causeHost := true }.causeHost = true ∧ (job .read .paused).causeHost = false := by
  repeat' apply And.intro
  case right.right.right.right.right.left => exact fun _ => ⟨rfl, rfl⟩
  all_goals decide

theorem test_met_JpauPausesTheActiveJob :
    (withJob (job .write .running)).ready .A ∧ ((withJob (job .write .running)).link .A).live = job .write .running :: [] ∧
    (job .write .running).causeHost = false ∧ (withJob (job .write .running)).bus.laneInFlight .A = false ∧
    busy.ready .A ∧ busy.bus.laneInFlight .A = true ∧ (withJob (job .read .pausing)).ready .A ∧
    (withJob { job .read .paused with causeLatch := true }).ready .A := by unfold State.ready; decide

theorem test_met_JresWithdrawsTheHost :
    (withJob { job .read .paused with causeHost := true }).ready .A ∧
    ((withJob { job .read .paused with causeHost := true }).link .A).live =
      { job .read .paused with causeHost := true } :: [] ∧
    (withJob { job .read .pausing with causeHost := true, causeLatch := true }).ready .A ∧
    (withJob { job .read .pausing with causeHost := true }).ready .A := by unfold State.ready; decide

/-- A job waits behind another, with the latch hold active or not, and on an IDLE lane. -/
def queue (hold : Bool) (lane : LaneState) : State :=
  { withA { opened with live := [job .read .queued, { job .read .queued with tag := 4 }], lane := ⟨lane, 0, 0⟩ } with
    latchHold := hold }

theorem test_met_JcanCancelsAJob :
    (queue true .idle).ready .A ∧ ((queue true .idle).link .A).live = [] ++ job .read .queued :: [{ job .read .queued with tag := 4 }] ∧
    (∀ k ∈ [] ++ [{ job .read .queued with tag := 4 }], k.tag ≠ 3) ∧ (queue true .idle).latchHold = true ∧
    ((queue false .stopping).link .A).lane.state ≠ .idle ∧ (queue false .idle).latchHold = false ∧
    ((queue false .idle).link .A).lane.state = .idle ∧
    ([] ++ [{ job .read .queued with tag := 4 }]).head? = some { job .read .queued with tag := 4 } ∧
    busy.ready .A ∧ busy.bus.laneInFlight .A = true ∧ (withJob (job .read .pausing)).ready .A := by
  unfold State.ready; decide

theorem test_met_JgetAndJlstReportTheJobs :
    busy.ready .A ∧ (busy.link .A).live = [] ++ { job .read .running with bindPrimary := some binding } :: [] ∧
    (withA { opened with history := [ended] }).ready .A ∧
    ((withA { opened with history := [ended] }).link .A).history = [] ++ ended :: [] ∧ ended.tag = 3 ∧
    (∀ k ∈ ((withA { opened with history := [ended] }).link .A).live, k.tag ≠ 3) ∧
    (∀ e ∈ (base.link .A).history, e.tag ≠ 3) ∧ (job .copy .running).kind = .copy ∧ (job .write .running).kind = .write ∧
    { job .read .running with firstError := some ⟨.noResponse, .primary, 0, 0⟩ }.firstError =
      some ⟨.noResponse, .primary, 0, 0⟩ := by unfold State.ready; decide

/-- A WRITE with one credit that expects its second block, and with none. -/
def writing (credits : Nat) : Job := { job .write .running with credits := credits, nextExpected := 1 }

theorem test_met_JobsEndWithTheirOutcome :
    (withJob (job .read .running)).inReset = false ∧ ((withJob (job .read .running)).link .A).live = [job .read .running] ∧
    ((withJob (job .read .running)).link .A).notices < Config.noticePlaces ∧ (withJob (job .read .running)).ready .A ∧
    (withJob (job .read .running)).bus.laneInFlight .A = false ∧
    { job .read .paused with causeHost := true, holdTimer := .running 5 }.holdTimer ≠ .stopped ∧
    { writing 1 with dataTimer := .running 1000 }.dataTimer ≠ .stopped ∧ (writing 0).credits = 0 ∧ 0 < (writing 1).credits ∧
    (writing 1).primary[0]? = some ⟨0, 2⟩ ∧ 1 < (Segment.mk 0 2).blocks ∧
    (((writing 1).primary.take 0).map Segment.blocks).sum + 1 = (writing 1).nextExpected := by
  unfold State.ready; decide

/-- A DATA payload for that job: a sequence number and 256 bytes. -/
def block (sequence : Byte) : List Byte := 0 :: sequence :: List.replicate 256 0

theorem test_met_JobsEndWithTheirOutcome_data :
    (block 0).length = 2 + (writing 1).blockSize ∧ beNat ((block 0).take 2) ≠ (writing 1).nextExpected ∧
    beNat ((block 1).take 2) = (writing 1).nextExpected := by
  refine ⟨?_, by decide, by decide⟩
  simp only [block, List.length_cons, List.length_replicate]; decide

def sending (e : Entry) (x : LinkState) : State := withA { x with outbound := [e], transmitting := true }

theorem test_met_LanesActOnTheirOwn :
    (stopping.link .A).lane.state = .stopping ∧ (base.link .A).lane.state = .idle ∧ (base.link .A).live = [] ∧
    ((queue true .idle).link .A).lane.state = .idle ∧ (queue true .idle).latchHold = true ∧
    (queue false .idle).latchHold = false ∧ (job .read .queued).state = .queued ∧
    ((withJob (job .read .paused)).link .A).lane.state = .busy ∧ (job .read .paused).state ≠ .running ∧
    ((withJob (job .read .running)).link .A).lane.state = .busy ∧ (job .read .running).nextBlock < (job .read .running).total ∧
    (∀ b, (withJob (job .read .running)).useOf .A b = none) ∧ (withJob (job .read .running)).heldCount .A < 8 ∧
    (withJob (job .read .running)).heldCount .A = 0 ∧ .A ∉ (withJob (job .read .running)).waitList ∧
    ((withJob (job .read .running)).buffers.get 0).holder = .free := by
  (repeat' apply And.intro) <;> decide

/-- A job of each kind with two segments in its list or lists, at its first block, with STOP_ON_ERROR clear and
SEGMENT_NOTICES set. -/
def segmented (kind : JobKind) : Job :=
  { job kind .running with
    stopOnError := false
    segmentNotices := true
    pattern := if kind = .fill then some 0x1234 else none
    primary := [⟨0, 2⟩, ⟨512, 2⟩]
    destination := if kind = .copy then [⟨1024, 3⟩, ⟨2048, 1⟩] else []
    total := 4 }

/-- That job on a BUSY lane that has credited all its blocks, with a READY slot and buffer 0 in the use given. -/
def holding (j : Job) (u : BufferUse) : State :=
  withSlot0 readySlot (((withJob j).onLink .A (fun x => { x with lane := ⟨.busy, 4, 0⟩ })).setHolder 0 (.lane .A u))

theorem test_met_LanesActOnTheirOwn_kinds :
    (∀ k ∈ [JobKind.read, .write, .copy, .fill],
      ((withJob (segmented k)).link .A).lane.state = .busy ∧ (segmented k).state = .running ∧ (segmented k).kind = k ∧
      (∀ b, (withJob (segmented k)).useOf .A b = none) ∧ ((withJob (segmented k)).buffers.get 0).holder = .free) ∧
    (segmented .write).credits < 4 ∧ ((withJob (segmented .write)).link .A).lane.blocksCredited < 4 ∧
    (segmented .fill).pattern = some 0x1234 ∧ ((withJob (segmented .write)).link .A).creditEntries = 0 ∧
    (sending (.credit 3 1) opened).linkA.waiting = [] ∧ 0 < (sending (.credit 3 1) opened).linkA.creditEntries ∧
    { opened with outbound := [.credit 3 1] }.waiting = [] ++ .credit 3 1 :: [] := by decide

/-- Lane A waits for a buffer that it needs, and one that it does not. -/
theorem test_met_LanesActOnTheirOwn_waits :
    { withJob (segmented .read) with waitList := [.A] }.waitList = .A :: [] ∧
    (withJob (segmented .read)).wantsBuffer .A = true ∧ base.wantsBuffer .A = false := by decide

theorem test_met_LanesGoOnUntilTheyRest :
    (queue false .idle).listsKept = true ∧ (queue false .idle).placesKept = true ∧
    ((queue false .idle).laneStep .A).isSome = true ∧ (queue false .idle).laneStep (Link.B) = none ∧
    base.listsKept = true ∧ base.placesKept = true ∧ base.laneStep .A = none ∧ base.laneStep .B = none := by decide +kernel

theorem test_met_LanesStartTheirBlocks :
    (∀ s ∈ [holding (segmented .read) .staged, holding (segmented .write) (.filled 3 0), holding (segmented .fill) .pattern,
        holding (segmented .copy) (.loaded 3 0)],
      (s.link .A).lane.state = .busy ∧ s.wantsBuffer .A = false ∧ s.bus.laneInFlight .A = false ∧
      s.bus.request .A = none ∧ s.bus.laneGranted .A = false) ∧
    (∀ k ∈ [JobKind.read, .write, .copy, .fill], (segmented k).state = .running ∧
      (segmented k).nextBlock < (segmented k).total ∧ (segmented k).binding .primary = none ∧
      ((segmented k).segments .primary)[((segmented k).position .primary).segment]? = some ⟨0, 2⟩) ∧
    (holding (segmented .read) .staged).useOf .A 0 = some .staged ∧
    ((segmented .copy).segments .destination)[((segmented .copy).position .destination).segment]? = some ⟨1024, 3⟩ ∧
    (setWindow 0 window (holding (segmented .read) .staged)).decode .A .read 0 512 = .ok ⟨0, 0, 7, 1000, 1, 1⟩ ∧
    (holding (segmented .read) .staged).decode .A .read 0 512 = .error .decodeMiss ∧
    (readySlot.generation = binding.generation) ∧ { readySlot with generation := 2 }.generation ≠ binding.generation ∧
    busy.bus.laneInFlight .A = true ∧ { withJob (segmented .write) with waitList := [.A] }.waitList = [.A] := by decide

/-- R15, R37: segment start of a COPY's destination list stores the binding there, and the request follows. -/
theorem test_segment_start : ((setWindow 0 window (holding (segmented .copy) (.loaded 3 0))).laneStep .A).map
    (fun t => ((t.link .A).live.map (fun j => (j.bindPrimary, j.bindDestination)), t.bus.state)) =
    some ([(none, some ⟨0, 1024, 7, 1000, 1, 1⟩)],
      .granted (.lane .A ⟨0, 1024, .write, 7, 1000, 1, 256⟩ false)) := by decide +kernel

theorem test_met_ReportsCompleteBlocks :
    (∀ k ∈ [JobKind.read, .write, .copy, .fill],
      ((holding (segmented k) (.inTransfer 3 0)).link .A).live = segmented k :: [] ∧
      ((holding (segmented k) (.inTransfer 3 0)).link .A).lane.state = .busy ∧ (segmented k).placeLaw = true ∧
      (holding (segmented k) (.inTransfer 3 0)).findUse .A BufferUse.isInTransfer = some 0) ∧
    (∀ m ∈ ([] : List Job), m.state = .queued) ∧ (job .read .pausing).state = .pausing ∧
    ((withJob (segmented .write)).link .A).lane.blocksCredited < 4 ∧ 4 ≤ { job .write .running with credits := 4 }.credits ∧
    { segmented .read with nextBlock := 3, posPrimary := ⟨1, 1, 1⟩ }.placeLaw = true ∧
    { segmented .copy with nextBlock := 3, posPrimary := ⟨1, 1, 1⟩, posDestination := ⟨1, 0, 0⟩ }.placeLaw = true := by
  decide

/-- R13, R27, R59: the second block of a READ leaves its segment, which is announced; a PAUSING job is then PAUSED. -/
theorem test_report_leaves_a_segment :
    (∀ t, t = (holding { segmented .read with state := .pausing, causeHost := true, nextBlock := 1, posPrimary := ⟨0, 1, 1⟩ }
        (.inTransfer 3 1)).takeReport .A .read .success →
      (t.link .A).live.map (fun j => (j.state, j.posPrimary)) = [(.paused, ⟨1, 0, 0⟩)] ∧
      (t.link .A).outbound = [.data 3 1 256 0, .notice (.segmentDone 3 0 2 none),
        .notice (.jobPaused 3 true false 2 1)]) := by
  rintro t rfl; decide +kernel

theorem test_met_SegmentErrorsFollowThePolicy :
    (∀ k ∈ [JobKind.read, .write, .copy, .fill], (segmented k).stopOnError = false ∧ (segmented k).placeLaw = true ∧
      (segmented k).state ≠ .queued ∧ ((segmented k).segments .primary)[((segmented k).position .primary).segment]? =
        some ⟨0, 2⟩) ∧
    (job .read .running).stopOnError = true ∧ ListId.primary ≠ .destination ∧ 2 < 3 - (segmented .copy).posDestination.block ∧
    2 - (segmented .copy).posPrimary.block ≤ 3 ∧ (job .read .running).placeLaw = true ∧
    (job .read .running).total ≤ (job .read .running).nextBlock + 2 ∧ (job .read .running).segmentNotices = false ∧
    (holding (segmented .copy) (.loaded 3 0)).findUse .A BufferUse.isLoaded = some 0 ∧
    (holding (segmented .copy) .staged).findUse .A BufferUse.isLoaded = none ∧
    (holding (segmented .write) (.inTransfer 3 0)).findUse .A BufferUse.isInTransfer = some 0 := by decide

/-- R19, R20, R27: an error in a COPY's destination list abandons its 3 blocks, and moves the primary list into its second
segment. -/
theorem test_abandonment :
    (∀ t, t = (holding (segmented .copy) (.loaded 3 0)).segmentError .A .destination .protection →
      (t.link .A).live.map (fun j => (j.nextBlock, j.posPrimary, j.posDestination, j.failed)) =
        [(3, ⟨1, 1, 0⟩, ⟨1, 0, 0⟩, 1)] ∧
      (t.link .A).outbound = [.notice (.segmentDone 3 0 0 (some (.protection, 0)))] ∧
      t.useOf .A 0 = some .staged) := by
  rintro t rfl; decide +kernel

theorem test_met_JobsEndAndLanesComeToRest :
    (∀ k ∈ [JobKind.read, .write, .copy, .fill], ∀ s, s = holding { segmented k with state := .cancelling } (.inTransfer 3 0) →
      (s.link .A).live = { segmented k with state := .cancelling } :: [] ∧ (s.link .A).lane.state = .busy ∧
      s.findUse .A BufferUse.isInTransfer = some 0) ∧
    (stopping.link .A).lane.state = .stopping ∧ (∀ m ∈ (stopping.link .A).live, m.state = .queued) := by
  refine ⟨?_, by decide, by decide⟩
  intro k _ s e
  subst e
  cases k <;> decide

/-- All buffers are lane B's, so lane A waits; and lane A has a STAGED buffer for the block at its position. -/
theorem test_met_LanesActOnTheirOwn_buffers :
    (∀ b, ({ withJob (job .read .running) with
      buffers := Vector.replicate 16 ⟨.lane .B .staged, []⟩ }.buffers.get b).holder ≠ .free) ∧
    (∀ s, s = withSlot0 readySlot ((withJob { job .read .running with bindPrimary := some binding }).setHolder 0
        (.lane .A .staged)) →
      s.useOf .A 0 = some .staged ∧ (s.slot binding.slot).state = .ready ∧
      (s.slot binding.slot).generation = binding.generation) := by
  refine ⟨by decide, ?_⟩
  rintro s rfl; decide

/-! ### Reception and transmission -/

theorem test_met_RequestsWaitAreLostOrAnswered_answers :
    State.reset.inReset = false ∧ (State.reset.link .A).replies < Config.replyPlaces ∧
    Request.nget.command .A = some (.nget .A) ∧ Request.nget.code ≠ 0x10 ∧ Request.nget.code ≠ 0x12 ∧
    (State.reset.link .A).session = .closed ∧ (0x99 : Byte).toNat ∉ knownCodes ∧ (0x0F : Byte).toNat ∉ knownCodes ∧
    (State.reset.link .A).session ≠ .resetPending ∧ (base.link .A).session ≠ .resetPending := by decide

theorem test_met_RequestsWaitAreLostOrAnswered :
    base.inReset = false ∧ (List.replicate 512 (0 : Byte)).length ≤ 512 ∧ (base.link .A).breakDetected = false ∧
    (base.link .A).framer = .hunt ∧ (base.link .A).gapTimer = .stopped ∧ (rstpSent.link .A).session = .resetPending ∧
    (base.link .A).session ≠ .resetPending ∧
    4 ≤ ((withA { opened with intake := List.replicate 4 ⟨0x22, []⟩ }).link .A).intake.length ∧
    ((withA { opened with intake := List.replicate 3 ⟨0x22, []⟩ }).link .A).intake.length < 4 ∧
    4 ≤ ((withA { opened with outbound := List.replicate 4 (.reply 0x22 .ok []) }).link .A).replies ∧
    (base.link .A).intake = [] ∧ (base.link .A).replies < 4 ∧ (0x99 : Byte).toNat ∉ knownCodes ∧
    (0x22 : Byte).toNat ∈ knownCodes ∧ (base.link .A).session = .opened ∧ parseRequest 0x22 [1, 0] = none := by
  refine ⟨by decide, ?_, by decide⟩
  simp only [List.length_replicate]; decide

/-- A WRITE with one RESERVED buffer, expecting block `expected` at the job block number `next`. -/
def awaiting (state : JobState) (expected next : Nat) : State :=
  (withJob { job .write state with credits := 1, nextExpected := expected, nextBlock := next, causeHost := state == .paused }
    ).setHolder 0 (.lane .A .reserved)

theorem test_met_DataFramesAreExamined :
    (awaiting .running 1 0).inReset = false ∧ (List.replicate 2050 (0 : Byte)).length ≤ 2050 ∧
    ((awaiting .running 1 0).link .A).breakDetected = false ∧ ((awaiting .running 1 0).link .A).framer = .hunt ∧
    ((awaiting .running 1 0).link .A).gapTimer = .stopped ∧ (State.reset.link .A).session ≠ .opened ∧
    ((awaiting .running 1 0).link .A).session = .opened ∧ (busy.link .A).live.map Job.kind = [.read] ∧
    ((awaiting .running 1 0).link .A).live.map Job.tag = [(3 : Byte).toNat] ∧
    (block 1).length = 2 + 256 ∧ ([] : List Byte).length ≠ 2 + 256 ∧ beNat ((block 1).take 2) = 1 ∧
    (awaiting .running 1 0).useOf .A 0 = some .reserved ∧ (awaiting .cancelling 1 0).useOf .A 0 = some .reserved ∧
    (awaiting .paused 1 2).useOf .A 0 = some .reserved ∧ (awaiting .paused 1 2).waitList = [] ∧
    (awaiting .running 1 2).useOf .A 0 = some .reserved ∧ { awaiting .running 1 2 with waitList := [.B] }.waitList = [.B] := by
  (repeat' apply And.intro) <;>
    first
      | simp only [block, List.length_cons, List.length_replicate]; done
      | simp only [List.length_replicate]; decide
      | decide

def inFrame (taken : List Byte) : State := withA { opened with framer := .inFrame taken, gapTimer := .running 100 }

theorem test_met_FaultyFramesAreDiscarded :
    base.inReset = false ∧ (base.link .A).breakDetected = false ∧ ((inFrame []).link .A).gapTimer ≠ .stopped ∧
    ((inFrame []).link .A).breakDetected = false ∧ ((inFrame []).link .A).framer = .inFrame [] ∧ (0x02 : Byte) ≠ 0x01 ∧
    (0x02 : Byte) ≠ 0x04 ∧ 512 < 256 * (2 : Byte).toNat + (1 : Byte).toNat ∧
    2050 < 256 * (8 : Byte).toNat + (3 : Byte).toNat ∧ (base.link .A).gapTimer = .stopped ∧
    ((withA { opened with breakDetected := true }).link .A).breakDetected = true ∧ (base.link .A).framer = .hunt ∧
    serialOf 0xC2 ≠ serialOf 0xC3 ∧ (0 : LineLevels).getLsbD 0 = false ∧ (0 : LineLevels).getLsbD 9 = false ∧
    (1 : LineLevels).getLsbD 0 = true := by decide

/-- The last byte of an NGET frame whose CRC is wrong. -/
theorem test_met_FaultyFramesAreDiscarded_crc :
    ((inFrame ([0x01, 0x22, 0, 0] ++ [0])).link .A).framer = .inFrame ([0x01, 0x22, 0, 0] ++ [0]) ∧
    [0x01, 0x22, 0, 0] = ([0x01, 0x22, BitVec.ofNat 8 (([] : List Byte).length / 256),
      BitVec.ofNat 8 ([] : List Byte).length] : List Byte) ++ [] ∧
    ([0, 0] : List Byte) ≠ [(crc16 [0x01, 0x22, 0, 0] >>> 8).setWidth 8, (crc16 [0x01, 0x22, 0, 0]).setWidth 8] ∧
    ((after (.characterReceived .A (serialOf 0)) (inFrame [0x01, 0x22, 0, 0, 0])).link .A).conditions =
      BitVec.twoPow 25 22 := by decide +kernel

theorem test_met_TransmissionEndFreesThePlace :
    (∀ e, (sending e opened).inReset = false ∧ ((sending e opened).link .A).transmitting = true ∧
      ((sending e opened).link .A).outbound = e :: [] ∧ (sending e opened).waitList = [] ∧
      ((sending e opened).link .A).overflow = 0 ∧ ((sending e opened).link .A).lane.pendingCredits = 0 ∧
      ((sending e opened).link .A).session ≠ .resetPending ∧ ((sending e opened).link .A).intake = []) ∧
    (∀ e, 0 < ((sending e { opened with overflow := 1 }).link .A).overflow) ∧
    (∀ e, ((sending e { opened with lane := ⟨.busy, 4, 1⟩, live := [job .write .running] }).link .A).working
      (job .write .running) ∧ 0 < ((sending e { opened with lane := ⟨.busy, 4, 1⟩ }).link .A).lane.pendingCredits) ∧
    Request.nget.wellFormed = true ∧ Request.nget.command .A = some (.nget .A) ∧
    (∀ e, ((sending e { opened with intake := [⟨0x22, []⟩] }).link .A).intake =
      ⟨BitVec.ofNat 8 Request.nget.code, Request.nget.payload⟩ :: []) := by
  refine ⟨fun e => ⟨rfl, rfl, rfl, rfl, rfl, rfl, fun h => Session.noConfusion h, rfl⟩, fun e => ?_, fun e => ⟨⟨rfl, by decide⟩, ?_⟩, by decide,
    by decide, fun e => rfl⟩ <;> exact Nat.one_pos

/-! ### Slots and the latch -/

theorem test_met_SlotsSettleAndRampInTurn_presence :
    base.inReset = false ∧ (base.slot 0).state = .empty ∧ ((phase .ready).slot 0).state ≠ .empty ∧
    ((withSlot0 { Slot.reset with state := .settling, settleTimer := .running 100 } base).slot 0).state = .settling ∧
    ((withSlot0 { Slot.reset with state := .settling, settleTimer := .running 100 } base).slot 0).law = true := by decide

def settling (auto : Bool) (ramping : Option SlotId) : State :=
  { withSlot0 { Slot.reset with state := .settling, settleTimer := .running 100, autoBringup := auto } base with
    ramping := ramping }

/-- Slots 0 and 1 wait, TRIP0 already asserted, and the Ramp Sequencer holds none. -/
def trippedWaits : State :=
  { (base.onSlot 0 (fun x => { x.enter .queuedForPower with tripPin := true })).onSlot 1 (Slot.enter .queuedForPower) with
    powerWait := [0, 1] }

theorem test_met_SlotsSettleAndRampInTurn :
    base.inReset = false ∧ (base.slot 0).settleTimer = .stopped ∧ ((settling true none).slot 0).settleTimer ≠ .stopped ∧
    ((settling false none).slot 0).autoBringup = false ∧ ((settling true none).slot 0).autoBringup = true ∧
    (settling true (some 1)).ramping ≠ none ∧ (settling true none).ramping = none ∧ (settling true none).powerWait = [] ∧
    ((settling true none).slot 0).tripPin = false ∧ (base.slot 0).rampTimer = .stopped ∧
    (rampingSlot.slot 0).rampTimer ≠ .stopped ∧ rampingSlot.powerWait = [] ∧ (rampingTwo.slot 0).rampTimer ≠ .stopped ∧
    (0 : SlotId) ∉ rampingTwo.powerWait ∧ rampingTwo.powerWait = 1 :: [] ∧ (rampingTwo.slot 1).tripPin = false ∧
    rampingTwo.bus.state = .free ∧ rampingTwo.bus.requestIdentify = none ∧ rampingTwo.identQueue = [] ∧
    trippedWaits.ramping = none ∧ trippedWaits.powerWait = [0] ++ 1 :: [] ∧ trippedWaits.powerWait.Nodup ∧
    (∀ n ∈ [(0 : SlotId)], (trippedWaits.slot n).tripPin = true) ∧ (trippedWaits.slot 1).tripPin = false ∧
    (∀ n ∈ { trippedWaits with powerWait := [0] }.powerWait, (trippedWaits.slot n).tripPin = true) := by decide

theorem test_met_SlotsLoseTheirPower :
    (phase .present).inReset = false ∧ ((phase .present).slot 0).state ≠ .empty ∧
    ((phase .present).slot 0).state ≠ .settling ∧
    (rampingSlot.slot 0).state ∈ [SlotPhase.ramping, .identifying, .ready, .draining] ∧ rampingSlot.powerWait = [] ∧
    (∀ x, rampingSlot.bus.state ≠ .inFlight x) ∧ (∀ x, (phase .present).bus.state ≠ .inFlight x) ∧
    (base.slot 0).state ∉ [SlotPhase.ramping, .identifying, .ready, .draining] := by
  (repeat' apply And.intro) <;>
    first
      | decide
      | exact fun x h => BusState.noConfusion h

/-- Slots 0 and 1 IDENTIFYING, the grant for slot 0 outstanding. -/
def identifyTwo : State :=
  granted (.identify 0) { (phase .identifying).onSlot 1 (Slot.enter .identifying) with identQueue := [0, 1] }

theorem test_met_SlotsLoseTheirPower_identify :
    (identifyTwo.slot 0).state ∈ [SlotPhase.ramping, .identifying, .ready, .draining] ∧
    identifyTwo.bus.state = .granted (.identify 0) ∧ identifyTwo.bus.requestIdentify = none ∧
    identifyTwo.identQueue.filter (· ≠ 0) = 1 :: [] := by decide

/-- R107, R129: the Identify Sequencer asks for slot 1 as slot 0 is removed, and is served before lane A at the return of
the grant. -/
theorem test_identify_asks_for_its_new_head :
    (after (.presDeassert 0) identifyTwo).bus.requestIdentify = some 1 ∧
    (after .grant (after (.presDeassert 0) (identifyTwo.onBus (fun b => { b with requestA := some busRequest })))).bus.state =
      .granted (.identify 1) := by decide +kernel

theorem test_met_PinsAreDebounced :
    base.inReset = false ∧ (base.slot 0).wpDebounce = .stopped ∧
    ((withSlot0 { Slot.reset with wpPin := true, wpDebounce := .running 10 } base).slot 0).wpDebounce ≠ .stopped ∧
    ((withSlot0 { Slot.reset with wpPin := true, wpDebounce := .running 10 } base).slot 0).state = .empty ∧
    ((withSlot0 { readySlot with wpPin := true, wpDebounce := .running 10 } base).slot 0).state ≠ .empty ∧
    base.latchDebounce = .stopped := by decide

/-- The latch debouncer measures the pin level given. -/
def latchMoves (pin : Bool) (s : State) : State := { s with latchPin := pin, latchDebounce := .running 10 }

theorem test_met_LatchReportsReachTheJobs :
    (latchMoves false busy).inReset = false ∧ (latchMoves false busy).latchDebounce ≠ .stopped ∧
    (latchMoves false busy).latchPin = false ∧ (latchMoves true busy).latchPin = true ∧
    ((latchMoves false busy).link .A).session = .opened ∧ ((latchMoves false busy).link .B).session ≠ .opened ∧
    ((latchMoves false busy).link .B).live = [] ∧ (latchMoves false busy).bus.laneInFlight .A = true ∧
    (∀ j, ((latchMoves false (withJob j)).link .A).live = j :: [] ∧
      ((latchMoves true (withJob j)).link .A).lane.state = .busy ∧
      (latchMoves false (withJob j)).bus.laneInFlight .A = false ∧ ((latchMoves false (withJob j)).link .A).notices < 11) ∧
    (busy.useOf .A 0 = none ∧ (busy.setHolder 0 (.lane .A (.inTransfer 3 0))).useOf .A 0 = some (.inTransfer 3 0)) := by
  (repeat' apply And.intro) <;>
    first
      | decide
      | exact fun j => ⟨rfl, rfl, rfl, Nat.lt_of_lt_of_le Nat.one_pos (by decide)⟩

/-! ### The module bus -/

theorem test_met_GrantsAreMadeTakenOrReturned_arbiter :
    (granted (.identify 0) base).bus.state ≠ .free ∧ base.bus.state = .free ∧
    { Bus.reset with requestIdentify := some 2, requestA := some busRequest }.requestIdentify = some 2 ∧
    Bus.reset.requestIdentify = none ∧ { Bus.reset with requestA := some busRequest }.requestA = some busRequest ∧
    Bus.reset.pointer = .A ∧ { Bus.reset with pointer := .B, requestB := some busRequest }.requestB = some busRequest ∧
    Bus.reset.requestA = none ∧ Bus.reset.requestB = none ∧ base.identQueue = [] ∧
    identifying.identQueue = 0 :: [] ∧ identifying.bus.state = .inFlight identFlight ∧ identFlight.requester = .identify ∧
    identifyTwo.identQueue = 0 :: [1] ∧ identifyTwo.bus.state = .granted (.identify 0) ∧
    { base with identQueue := [0] }.bus.requestIdentify = none ∧ { base with identQueue := [0] }.bus.state = .free := by decide

/-- A grant to lane A for its READ job, whose buffer is STAGED. -/
def grantedRead : State :=
  granted (.lane .A busRequest false) (withSlot0 readySlot
    ((withJob { job .read .running with bindPrimary := some binding }).setHolder 0 (.lane .A .staged)))

theorem test_met_GrantsAreMadeTakenOrReturned :
    grantedRead.inReset = false ∧ grantedRead.bus.state = .granted (.lane .A busRequest false) ∧
    (grantedRead.slot 0).state = .ready ∧ (grantedRead.slot 0).generation = binding.generation ∧
    (grantedRead.slot 0).identity = some identity ∧
    grantedRead.transferBuffer .A { job .read .running with bindPrimary := some binding } (JobKind.read.listOf .read) = some 0 ∧
    (granted (.lane .A busRequest true) base).bus.state = .granted (.lane .A busRequest true) ∧
    (granted (.identify 0) { phase .identifying with identQueue := [0] }).identQueue.head? = some 0 ∧
    ((granted (.identify 0) { phase .identifying with identQueue := [0] }).slot 0).state = .identifying ∧
    ((withSlot0 { readySlot with generation := 2 } grantedRead).slot 0).generation ≠ binding.generation ∧
    ((withSlot0 { readySlot with state := .draining } grantedRead).slot 0).generation = binding.generation ∧
    ((withSlot0 { readySlot with state := .draining } grantedRead).slot 0).state ≠ .ready ∧
    (granted (.identify 0) base).bus.state = .granted (.identify 0) ∧
    (granted (.identify 0) base).identQueue.head? ≠ some 0 ∧ (granted (.identify 0) base).identQueue = [] ∧
    (granted (.identify 0) base).bus.requestIdentify = none ∧
    (granted (.identify 0) { base with identQueue := [1] }).identQueue = 1 :: [] ∧
    ((granted (.identify 0) base).onBus (fun b => { b with requestIdentify := some 1 })).bus.requestIdentify = some 1
    := by decide

theorem test_met_OutputPinsFollowTheState :
    busy.bus.state = .inFlight flight ∧ (flight.dataWidth = 8 ∨ flight.dataWidth = 16) ∧ flight.direction = .read ∧
    { flight with direction := .write }.buffer = some 0 ∧
    flight.address / (flight.dataWidth / 8) + flight.wordIndex < 2 ^ 28 ∧ base.driven = none := by decide

theorem test_met_SentFramesCarryTheirEntries :
    (base.link .A).transmitting = false ∧ (∀ e, ((sending e opened).link .A).transmitting = true ∧
      ((sending e opened).link .A).outbound = e :: []) ∧
    ∃ bytes, lineFrame State.reset .A = some bytes ∧ bytes[1]? = some 0x05 ∧ 10 * bytes.length ≤ 220 :=
  ⟨rfl, fun _ => ⟨rfl, rfl⟩, (lineFrame State.reset .A).get (by decide +kernel), by decide +kernel⟩

theorem test_met_WordsFollowTheirSteps :
    busy.inReset = false ∧ busy.bus.state = .inFlight flight ∧ { flight with phase := .release }.phase ≠ .response ∧
    flight.phase = .response ∧ flight.wordIndex + 1 < flight.wordCount ∧ flight.requester ≠ .identify ∧
    flight.buffer = some 0 ∧ parityGood 16 0x0001 false = true ∧ parityGood 8 0xFF00 true = true ∧
    { flight with retriesLeft := 1 }.retriesLeft = 0 + 1 ∧ parityGood 16 0x0003 false = false ∧
    { flight with phase := .waitTime 80 }.phase = .waitTime 80 ∧ busy.bus.mack = false ∧ busy.bus.mrej = false ∧
    flight.watchdog ≠ .stopped ∧ { Bus.reset with mack := true, late := true }.late = true ∧
    { Bus.reset with mack := true }.late = false ∧ { Bus.reset with mack := true }.mack = (ResponseLines.ack != .reject) ∧
    { Bus.reset with mack := true }.mrej = (ResponseLines.ack != .ack) := by decide

/-- R132: a response that comes after the expiry of its word is not taken for the word of the next attempt. -/
theorem test_late_response :
    (after (.wordResponse ⟨.ack, true⟩ 1 false false) busy).bus.state = .inFlight flight ∧
    (after .waitTimeEnd (after (.wordResponse ⟨.reject, true⟩ 1 false false)
      (inFlight { flight with phase := .waitTime 80 } busy))).bus.state = .inFlight flight ∧
    (after (.wordResponse ⟨.ack, false⟩ 1 false false) (after .responseLinesReleased
      (after (.wordResponse ⟨.ack, true⟩ 1 false false) busy))).bus.state =
      .inFlight { flight with wordIndex := 1, phase := .release } := by decide +kernel

theorem test_met_TransferEndsAreHandedOn :
    busy.inReset = false ∧ busy.bus.state = .inFlight flight ∧ flight.requester = .lane .A ∧ flight.phase = .response ∧
    flight.retriesLeft = 0 ∧ parityGood flight.dataWidth 0 false = false ∧ { flight with direction := .write }.direction = .write ∧
    flight.wordCount ≤ { flight with wordIndex := 127 }.wordIndex + 1 ∧ parityGood flight.dataWidth 1 false = true ∧
    flight.buffer = some 0 ∧ flight.watchdog ≠ .stopped ∧ (busy.slot flight.slot).noResponse ≠ 2 ∧
    ((withSlot0 { readySlot with noResponse := 2 } busy).slot flight.slot).noResponse = 2 ∧
    (busy.slot flight.slot).state ∈ [SlotPhase.ready, .draining] ∧ flight.slot ∉ busy.powerWait ∧
    busy.ramping ≠ some flight.slot ∧ flight.slot ∉ busy.identQueue ∧ busy.bus.requestIdentify = none := by decide

/-- R118: the third NO_RESPONSE in a row faults the slot. -/
theorem test_unresponsive :
    ((after .responseWatchdogExpiry (withSlot0 { readySlot with noResponse := 2 } busy)).slot 0).faultKind =
      some .unresponsive := by decide +kernel

theorem test_met_BlockErrorsStopTheJob :
    busy.inReset = false ∧ (busy.link .A).live = [{ job .read .running with bindPrimary := some binding }] ∧
    (busy.link .A).lane.state = .busy ∧ (job .read .running).stopOnError = true ∧ busy.bus.state = .inFlight flight ∧
    flight.requester = .lane .A ∧ flight.phase = .response ∧ flight.retriesLeft = 0 ∧ flight.watchdog ≠ .stopped ∧
    parityGood flight.dataWidth 0 false = false ∧ (busy.slot flight.slot).state ∈ [SlotPhase.ready, .draining] ∧
    (withSlot0 { readySlot with generation := 2 } grantedRead).bus.state = .granted (.lane .A busRequest false) ∧
    ((withSlot0 { readySlot with generation := 2 } grantedRead).slot 0).generation ≠ binding.generation ∧
    ((withSlot0 { readySlot with state := .draining } grantedRead).slot 0).generation = binding.generation ∧
    ((withSlot0 { readySlot with state := .draining } grantedRead).slot 0).state ≠ .ready := by decide

/-- The last word of the first block of a READ, in an IN_TRANSFER buffer. -/
def lastWord : State :=
  inFlight { flight with wordIndex := 127 } (busy.setHolder 0 (.lane .A (.inTransfer 3 0)))

theorem test_met_ReadBlocksJoinTheQueue :
    lastWord.inReset = false ∧ (lastWord.link .A).live = { job .read .running with bindPrimary := some binding } :: [] ∧
    (lastWord.link .A).lane.state = .busy ∧ (job .read .running).nextBlock + 1 < (job .read .running).total ∧
    lastWord.bus.state = .inFlight { flight with wordIndex := 127 } ∧ 127 + 1 = flight.wordCount ∧
    parityGood flight.dataWidth 1 false = true ∧ lastWord.findUse .A BufferUse.isInTransfer = some 0 ∧
    (lastWord.link .A).creditPlaceLaw = true := by decide

/-- An identity record of the layout of R190: READ_WRITE, capacity code 14, 16 bits, 3 waits, the check byte last. -/
def record : List Byte :=
  [0xB7, 0x3C, 1, 1, 14, 16, 3] ++ [1, 2, 3, 4, 5, 6, 7, 8] ++ List.replicate 16 0x20

/-- The record's check byte: what makes the sum 0 modulo 256. -/
def check : Byte := 0 - record.foldl (· + ·) 0

theorem test_met_IdentityReadsDecideTheSlot :
    identifying.inReset = false ∧ identifying.bus.state = .inFlight identFlight ∧ identFlight.requester = .identify ∧
    identFlight.slot = 0 ∧ identFlight.direction = .read ∧ identFlight.dataWidth = 8 ∧ identFlight.wordCount = 32 ∧
    identFlight.phase = .response ∧ identFlight.wordIndex = 31 ∧ parityGood 8 (check.setWidth 16) true = true ∧
    (parseIdentity ({ identifying with identStore := Memory.load record [] }.identStore.write 31
      ((check.setWidth 16).setWidth 8))).isSome = true ∧
    parseIdentity (identifying.identStore.write 31 ((1 : Half).setWidth 8)) = none ∧ identFlight.retriesLeft = 0 ∧
    identFlight.watchdog ≠ .stopped := by decide

/-- R109: the last byte of an accepted record makes the slot READY. -/
theorem test_identity_accepted :
    ((after (.wordResponse ⟨.ack, false⟩ (check.setWidth 16) true false)
      { identifying with identStore := Memory.load record [] }).slot 0).state = .ready := by decide +kernel

/-! ## What the manual's examples and tables give -/

/-- R179: the CRC of the nine bytes 0x31 to 0x39. -/
theorem test_crc : crc16 [0x31, 0x32, 0x33, 0x34, 0x35, 0x36, 0x37, 0x38, 0x39] = 0x29B1 := by decide +kernel

/-- 9.9: the payload of the JSUB of tag 9. -/
def payload99 : List Byte :=
  [0x40, 1, 9, 0x41, 1, 2, 0x42, 2, 0x04, 0x00, 0x45, 6, 0x00, 0x10, 0x00, 0x00, 0x00, 0x06]

def args99 : JsubArgs := ⟨9, 2, 1024, none, none, [⟨0x00100000, 6⟩], []⟩

theorem test_jsub_payload_read : parseRequest 0x50 payload99 = some (.jsub args99) := by decide +kernel
theorem test_jsub_payload_built : (Request.jsub args99).payload = payload99 := by decide +kernel

/-- 9.9: BLOCK_SIZE of length 1, and a second JOB_TAG, are BAD_FORMAT; BLOCK_SIZE 1000 is BAD_PARAM. R185: a missing key, an
unknown one and an item cut short. -/
theorem test_jsub_payload_faults :
    parseRequest 0x50 [0x40, 1, 9, 0x41, 1, 2, 0x42, 1, 0x04, 0x45, 6, 0, 16, 0, 0, 0, 6] = none ∧
    parseRequest 0x50 (payload99 ++ [0x40, 1, 9]) = none ∧ parseRequest 0x43 [] = none ∧
    parseRequest 0x43 [0x14, 1, 0, 0x10, 1, 0] = none ∧ parseRequest 0x20 [0x0D, 4, 0, 0, 0] = none ∧ jobOfArgs { args99 with blockSize := 1000 } = none := by
  decide +kernel

/-- R189: the HELLO of link B after a power-on reset with the pins open. -/
theorem test_hello : entryFrame State.reset .B (.hello .powerOn .closed 0) =
    (0x05, 0x01, [0x08, 1, 1, 0x04, 1, 2, 0x09, 1, 0x21, 0x05, 1, 0, 0x0A, 1, 0]) := by decide +kernel

theorem test_hello_length : (lineFrame State.reset .A).map List.length = some 22 := by decide +kernel

/-- R188: the payload of a DATA frame. -/
theorem test_data_frame : (entryFrame State.reset .A (.data 3 0x0102 4 0)) = (0x04, 3, [1, 2, 0, 0, 0, 0]) := by
  decide +kernel

theorem test_open : (after (.openSession .A none none) State.reset).link .A =
    { opened with
      holdLimit := some 0
      transmitting := true
      outbound := [.hello .powerOn .closed 0, .reply 0x10 .ok [.link .A, .dataTimeout 1000, .holdLimit 0, .capacity,
        .latch .closed, .slotSummary 0 .empty, .slotSummary 1 .empty, .slotSummary 2 .empty, .slotSummary 3 .empty]] } := by
  decide +kernel

theorem test_close : (after (.closeSession .A) busy).windows.get 0 = none ∧
    ((after (.closeSession .A) busy).link .A).lane.state = .stopping := by decide +kernel

theorem test_rstl : ((after (.rstl .A) busy).link .A).outbound = [.hello .linkRequest .closed 1] := by decide +kernel

theorem test_rstp : ((after (.rstp .A) busy).link .A).session = .resetPending := by decide +kernel

theorem test_part_reset : (after (.transmissionEnd .A) rstpSent).linkB.outbound = [.hello .partResetA .closed 0] := by
  decide +kernel

/-- R147: what is raised and newly subscribed is announced behind the reply. -/
theorem test_nsub : ((after (.nsub .A 1) (raised [])).link .A).outbound =
    [.credit 1 1, .reply 0x20 .ok [.mask 1], .notice (.condition 1)] := by decide +kernel

theorem test_nack : ((after (.nack .A 1) (raised [])).link .A).conditions = 2 := by decide +kernel

theorem test_nget : ((after (.nget .A) (raised [])).link .A).outbound =
    [.credit 1 1, .reply 0x22 .ok [.conditions 3, .mask 2, .overflowCount 0, .latch .closed]] := by decide +kernel

/-- R78, R83: the defaults of a WSET of link A. -/
theorem test_wset : (after (.wset .A wset) base).windows.get 0 = some { window with sizePower := 12 } := by decide +kernel

/-- R81: a size of 2^29 bytes is out of range, and a base must be a multiple of the size. -/
theorem test_wset_refused :
    ((after (.wset .A { wset with sizePower := 29 }) base).link .A).outbound = [.reply 0x30 .badParam []] ∧
    ((after (.wset .A { wset with base := 2048 }) base).link .A).outbound = [.reply 0x30 .badParam []] := by decide +kernel

theorem test_wrel_other : ((after (.wrel .A 0) (setWindow 0 { window with owner := .B } base)).link .A).outbound =
    [.reply 0x31 .notOwner []] := by decide +kernel

theorem test_wget_free : ((after (.wget .A 7) base).link .A).outbound = [.reply 0x32 .ok [.window 7, .owner none]] := by
  decide +kernel

theorem test_spwr_on : ((after (.spwrOn .A 0 false) (phase .present)).slot 0).rampTimer = .running 20 := by decide +kernel

theorem test_spwr_off_busy : ((after (.spwrOff .A 0 false) busy).link .A).outbound = [.reply 0x40 .slotBusy []] := by
  decide +kernel

theorem test_spwr_off_force : ((after (.spwrOff .A 0 true) busy).slot 0).state = .draining := by decide +kernel

theorem test_scfg : ((after (.scfg .A 3 0) base).slot 3).autoBringup = false ∧
    ((after (.scfg .A 3 2) base).link .A).outbound = [.reply 0x41 .badParam []] := by decide +kernel

theorem test_sclr : ((after (.sclr .A 0) mixed).slot 0).state = .present := by decide +kernel

theorem test_sget : ((after (.sget .A 1) mixed).link .A).outbound = [.reply 0x43 .ok [.slot 1, .slotState .queuedForPower,
    .generation 0, .autoBringup true, .wp false, .noResponseCount 0, .queuePosition 1]] := by decide +kernel

/-- R40, R41, 2.13: a WRITE of 6 blocks begins with one CREDIT of 4. -/
theorem test_jsub_write : ((after (.jsub .A { jsub with kind := 2, primary := [⟨0, 6⟩] }) base).link .A).outbound =
    [.reply 0x50 .ok [.jobTag 3, .listPosition 1], .credit 3 4] := by decide +kernel

/-- R15, R19: a READ of an address that no window maps ends at its first segment. -/
theorem test_jsub_decode_miss : ((after (.jsub .A jsub) base).link .A).history =
    [⟨3, .read, .failed, 0, 1, some ⟨.decodeMiss, .primary, 0, 0⟩⟩] := by decide +kernel

theorem test_jpau : ((after (.jpau .A 3) busy).link .A).live.map Job.state = [.pausing] := by decide +kernel
theorem test_jres : ((after (.jres .A 3) busy).link .A).outbound = [.reply 0x52 .notPaused []] := by decide +kernel

theorem test_jcan : ((after (.jcan .A 3) busy).link .A).live.map Job.state = [.cancelling] ∧
    ((after (.jcan .A 3) (withJob (job .read .paused))).link .A).history = [⟨3, .read, .cancelled, 0, 0, none⟩] := by
  decide +kernel

theorem test_jget_unknown : ((after (.jget .A 0) base).link .A).outbound = [.reply 0x54 .unknownJob []] := by decide +kernel

theorem test_jlst : ((after (.jlst .A) busy).link .A).outbound = [.reply 0x55 .ok [.liveEntry 3 .running]] := by
  decide +kernel

theorem test_unknown_request : ((after (.unknownRequest .A 0x99) base).link .A).outbound =
    [.reply 0x99 .unknownRequest []] := by decide +kernel

theorem test_req_frame : ((after (.reqFrameArrives .A 0x22 [1]) base).link .A).outbound = [.reply 0x22 .badFormat []] := by
  decide +kernel

theorem test_dat_frame_stray : ((after (.datFrameArrives .A 0 []) base).link .A).conditions = BitVec.twoPow 25 24 := by
  decide +kernel

theorem test_frame_discard : ((after (.frameDiscard .A) base).link .A).conditions = BitVec.twoPow 25 22 := by decide +kernel

theorem test_gap_timer : ((after (.gapTimerExpiry .A) (inFrame [1])).link .A).framer = .hunt := by decide +kernel

theorem test_break : ((after (.breakDetected .A) (inFrame [1])).link .A).conditions = 0 ∧
    ((after (.breakEnds .A) busy).link .A).outbound = [.hello .linkBreak .closed 1] := by decide +kernel

theorem test_power_on : (after (.powerOnReset false true) busy).rate = .mbit2 ∧
    ((after (.powerOnReset false true) busy).slot 0).state = .settling := by decide +kernel

theorem test_pres : ((after (.presAssert 0) base).slot 0).settleTimer = .running 100 ∧
    ((after (.presDeassert 0) busy).link .A).history =
      [⟨3, .read, .failed, 0, 1, some ⟨.slotGone, .primary, 0, 0⟩⟩] := by decide +kernel

theorem test_settle : ((after (.settleTimerExpiry 0) (settling true none)).slot 0).state = .ramping ∧
    ((after (.settleTimerExpiry 0) (settling false none)).slot 0).state = .present := by decide +kernel

theorem test_ramp : (after (.rampTimerExpiry 0) rampingTwo).ramping = some 1 ∧
    (after (.rampTimerExpiry 0) rampingTwo).bus.state = .granted (.identify 0) := by decide +kernel

theorem test_trip : ((after (.trip 0 true) rampingSlot).slot 0).faultKind = some .overcurrent ∧
    ((after (.trip 0 true) base).slot 0).state = .empty := by decide +kernel

theorem test_wp : ((after (.wpPinChange 0) base).slot 0).wpDebounce = .running 10 ∧
    ((after (.wpDebounceExpiry 0) (after (.wpPinChange 0) base)).slot 0).wp = true := by decide +kernel

theorem test_latch : (after .baylatchPinChange base).latchDebounce = .running 10 ∧
    (after (.latchDebounceExpiry ⟨true, true⟩ .A) (latchMoves false base)).latchHold = true := by decide +kernel

/-- Both links subscribe to LATCH_OPEN and have a RUNNING job. -/
def latchBoth : State :=
  let x := { opened with mask := BitVec.twoPow 25 20, live := [job .read .running], lane := ⟨.busy, 0, 0⟩ }
  latchMoves false { withA x with linkB := x }

/-- R154: the condition first at link A, and the pause first at link B. -/
theorem test_latch_orders :
    ((after (.latchDebounceExpiry ⟨true, false⟩ .A) latchBoth).link .A).outbound =
      [.notice (.condition (BitVec.twoPow 25 20)), .notice (.jobPaused 3 false true 0 0)] ∧
    ((after (.latchDebounceExpiry ⟨true, false⟩ .A) latchBoth).link .B).outbound =
      [.notice (.jobPaused 3 false true 0 0), .notice (.condition (BitVec.twoPow 25 20))] := by decide +kernel

theorem test_grant : (after .grant grantedRead).bus.state =
    .inFlight { flight with retriesLeft := 1, phase := .waitTime 80, buffer := some 0 } := by decide +kernel

/-- R36: byte 2i of a block is the high half of word i of a 16-bit module. -/
theorem test_word_response :
    ((after (.wordResponse ⟨.ack, false⟩ 0x1234 false false) lastWord).buffers.get 0).bytes = [(254, 0x12), (255, 0x34)] ∧
    ((after (.wordResponse ⟨.ack, false⟩ 0x1234 false false) lastWord).link .A).outbound.head? = some (.data 3 0 256 0) := by
  decide +kernel

theorem test_watchdog : ((after .responseWatchdogExpiry busy).slot 0).noResponse = 1 := by decide +kernel

/-- R131: 40 ns and then 40 ns for each effective wait. -/
theorem test_wait_time :
    (after .responseLinesReleased (inFlight { flight with phase := .release } busy)).bus.state =
      .inFlight { flight with phase := .waitTime 80 } ∧
    (after .waitTimeEnd (inFlight { flight with phase := .waitTime 80 } busy)).bus.state = .inFlight flight := by
  decide +kernel

theorem test_job_timers :
    ((after (.holdTimerExpiry .A) (withJob { job .read .paused with causeHost := true, holdTimer := .running 5 })).link
      .A).history = [⟨3, .read, .holdExpired, 0, 0, none⟩] ∧
    ((after (.dataTimerExpiry .A) (withJob { writing 1 with dataTimer := .running 1000 })).link .A).history =
      [⟨3, .write, .failed, 0, 0, some ⟨.dataTimeout, .primary, 0, 1⟩⟩] := by decide +kernel

/-- The sync byte 0xC3, and the bytes 0x01 and 0x80, written out as levels in order of time: a start bit at space, the data
bits with the least significant first, a stop bit at mark (R157). A stop bit at space is a character error (R158). -/
theorem test_character :
    (BitVec.ofBoolListLE [false, true, true, false, false, false, false, true, true, true]) = serialOf 0xC3 ∧
    (BitVec.ofBoolListLE [false, true, false, false, false, false, false, false, false, true]) = serialOf 0x01 ∧
    ((after (.characterReceived .A 0x386) base).link .A).framer = .inFrame [] ∧
    ((after (.characterReceived .A 0x202) base).link .A).framer = .hunt ∧
    ((after (.characterReceived .A 0x202) (inFrame [])).link .A).framer = .inFrame [0x01] ∧
    ((after (.characterReceived .A 0x300) (inFrame [0x01])).link .A).framer = .inFrame [0x01, 0x80] ∧
    ((after (.characterReceived .A 0x002) (inFrame [])).link .A).framer = .hunt ∧
    ((after (.characterReceived .A 0x3FF) (inFrame [])).link .A).framer = .inFrame [] := by decide +kernel

/-- The HELLO frame of link A at reset: its sync byte, then its kind byte 0x05, in levels; mark behind its 22 bytes. The
durations are the examples of R157 and R161: a DATA frame of 2057 bytes, and the gap time at 8 and at 1 Mbit/s. -/
theorem test_line :
    (List.range 20).map (State.reset.txLevel .A) =
      [false, true, true, false, false, false, false, true, true, true,
        false, true, false, true, false, false, false, false, false, true] ∧
    State.reset.frameBits .A = 220 ∧ State.reset.txLevel .A 220 = true ∧
    State.reset.bitTimesNs 100 = 12500 ∧ { State.reset with rate := .mbit1 }.bitTimesNs 100 = 100000 ∧
    { State.reset with rate := .mbit1 }.bitTimesNs (10 * 2057) = 20570000 := by decide +kernel

theorem test_nrst : (after .nrstAssert busy).pwren 0 = false ∧ lineFrame (after .nrstAssert busy) .A = none := by
  decide +kernel

end Sys2Proof.Tests
end

section
/-! PROOFS. JGET and JLST (R9, R10): which record each search finds, the items that report it, and the reply. -/

namespace Sys2Proof.Machine

/-! The searches of the live list and of the history (R9) -/

theorem LinkState.liveJob_of_split {x : LinkState} {ahead behind : List Job} {j : Job}
    (hx : x.live = ahead ++ j :: behind) (h : ∀ k ∈ ahead, k.tag ≠ j.tag) : x.liveJob j.tag = some j :=
  List.find?_eq_some_iff_append.mpr ⟨by simp, ahead, behind, hx, by simpa using h⟩

theorem LinkState.liveJob_eq_none_iff (x : LinkState) (tag : Nat) :
    x.liveJob tag = none ↔ ∀ k ∈ x.live, k.tag ≠ tag := by
  simp [LinkState.liveJob]

theorem LinkState.pastJob_of_split {x : LinkState} {older newer : List HistoryEntry} {e : HistoryEntry}
    (hx : x.history = older ++ e :: newer) (h : ∀ d ∈ older, d.tag ≠ e.tag) : x.pastJob e.tag = some e :=
  List.find?_eq_some_iff_append.mpr ⟨by simp, older, newer, hx, by simpa using h⟩

theorem LinkState.pastJob_eq_none_iff (x : LinkState) (tag : Nat) :
    x.pastJob tag = none ↔ ∀ e ∈ x.history, e.tag ≠ tag := by
  simp [LinkState.pastJob]

/-- A job's list position is one more than the number of the jobs ahead of it. -/
theorem LinkState.listPosition_of_split {x : LinkState} {ahead behind : List Job} {j : Job}
    (hx : x.live = ahead ++ j :: behind) (h : ∀ k ∈ ahead, k.tag ≠ j.tag) :
    x.listPosition j.tag = ahead.length + 1 := by
  have hnone : ahead.findIdx (fun k => k.tag == j.tag) = ahead.length :=
    List.findIdx_eq_length.mpr (by simpa using h)
  simp [LinkState.listPosition, hx, List.findIdx_append, List.findIdx_cons, hnone]

/-! The items that report a job (R9, R186) -/

theorem firstErrorItems_eq {o : Option FirstError} {first : List Item} (hnone : o = none → first = [])
    (hsome : ∀ e, o = some e → first = [.firstError e]) : (o.map Item.firstError).toList = first := by
  cases o with
  | none => exact (hnone rfl).symm
  | some e => exact (hsome e rfl).symm

/-- The items of a live job, with its optional items as the lists that its kind and its first error give. -/
theorem Job.items_eq {j : Job} {destination credits first : List Item} (position : Nat)
    (hnotCopy : j.kind ≠ .copy → destination = [])
    (hcopy : j.kind = .copy → destination = [.destPosition j.posDestination.segment j.posDestination.block])
    (hnotWrite : j.kind ≠ .write → credits = [])
    (hwrite : j.kind = .write → credits = [.credits j.credits, .nextExpected j.nextExpected])
    (hfirst : (j.firstError.map Item.firstError).toList = first) :
    j.items position = List.flatten
      [[.jobTag j.tag, .jobState (.live j.state), .pauseCauses j.causeHost j.causeLatch,
          .listPosition position, .kind j.kind, .totalBlocks j.total, .nextBlock j.nextBlock,
          .primaryPosition j.posPrimary.segment j.posPrimary.block], destination,
        [.blocksCompleted j.completed, .failedSegments j.failed], credits, first] := by
  have hdestination : (if j.kind = .copy then
      [Item.destPosition j.posDestination.segment j.posDestination.block] else []) = destination := by
    split
    next h => exact (hcopy h).symm
    next h => exact (hnotCopy h).symm
  have hcredits : (if j.kind = .write then
      [Item.credits j.credits, Item.nextExpected j.nextExpected] else []) = credits := by
    split
    next h => exact (hwrite h).symm
    next h => exact (hnotWrite h).symm
  simp only [Job.items, hdestination, hcredits, hfirst, List.flatten_cons, List.flatten_nil, List.append_assoc,
    List.append_nil]

/-! JGET at its owner (R9) -/

section
variable {s : State} {l : Link} {tag : Nat}

theorem State.takeJget_of_live {j : Job} (h : (s.link l).liveJob tag = some j) :
    s.takeJget l tag = s.reply l 0x54 .ok (j.items ((s.link l).listPosition tag)) := by
  simp [State.takeJget, h]

theorem State.takeJget_of_ended {e : HistoryEntry} (hlive : (s.link l).liveJob tag = none)
    (h : (s.link l).pastJob tag = some e) : s.takeJget l tag = s.reply l 0x54 .ok e.items := by
  simp [State.takeJget, hlive, h]

theorem State.takeJget_of_unknown (hlive : (s.link l).liveJob tag = none) (h : (s.link l).pastJob tag = none) :
    s.takeJget l tag = s.reply l 0x54 .unknownJob [] := by
  simp [State.takeJget, State.refuse, hlive, h]

end

/-! The commands -/

theorem exec_jget (l : Link) (tag : Nat) (s : State) :
    exec (.jget l tag) s = handed s l 0x54 (fun t => t.takeJget l tag) := by
  rfl

theorem exec_jlst (l : Link) (s : State) : exec (.jlst l) s = handed s l 0x55 (fun t => t.takeJlst l) := by
  rfl

/-- A request of a ready link whose owner only replies is answered so, and nothing else changes. -/
theorem handed_of_reply {s : State} {l : Link} (h : s.ready l) {code : Nat} {owner : State → State} {r : ReplyCode}
    {items : List Item} (howner : owner s = s.reply l code r items) :
    handed s l code owner = .next (s.answered l (BitVec.ofNat 8 code) r items) := by
  rw [handed_of_ready h, howner]
  rfl

/-- Settles O36: JGET by which of the two searches finds the tag, JLST by the definition of its items. -/
theorem jgetAndJlstReportTheJobs : Obligations.JgetAndJlstReportTheJobs := by
  intro l tag s hready
  rw [exec_jget, exec_jlst]
  refine ⟨?live, fun hnotLive => ⟨?ended, fun hnotPast => ?unknown⟩, handed_of_reply hready rfl⟩
  case live =>
    rintro ahead j behind hsplit rfl hahead destination credits first hnotCopy hcopy hnotWrite hwrite hnone hsome
    apply handed_of_reply hready
    rw [State.takeJget_of_live (LinkState.liveJob_of_split hsplit hahead),
      LinkState.listPosition_of_split hsplit hahead,
      Job.items_eq _ hnotCopy hcopy hnotWrite hwrite (firstErrorItems_eq hnone hsome)]
  case ended =>
    rintro older e newer hsplit rfl holder first hnone hsome
    apply handed_of_reply hready
    rw [State.takeJget_of_ended ((LinkState.liveJob_eq_none_iff _ _).mpr hnotLive)
      (LinkState.pastJob_of_split hsplit holder), HistoryEntry.items, firstErrorItems_eq hnone hsome]
    rfl
  case unknown =>
    exact handed_of_reply hready (State.takeJget_of_unknown ((LinkState.liveJob_eq_none_iff _ _).mpr hnotLive)
      ((LinkState.pastJob_eq_none_iff _ _).mpr hnotPast))

end Sys2Proof.Machine
end

section
/-! PROOFS. WGET (R87): the window that a number names, which windows overlap another, and the reply. -/

namespace Sys2Proof.Machine

/-! The window that a number names (R81) -/

theorem windowOf_of_gt {n : Nat} (h : 7 < n) : windowOf n = none := by
  simp [windowOf, Nat.not_lt.mpr h]

@[simp] theorem windowOf_val (i : Fin 8) : windowOf i.val = some i := by
  simp [windowOf]

/-! The windows that overlap another (R84, R87) -/

/-- Two ranges intersect when each begins before the other ends; that a range is not empty needs no test. -/
theorem Window.intersects_range_iff (v w : Window) :
    v.intersects w.base w.size = true ↔
      v.base < w.base + 2 ^ w.sizePower ∧ w.base < v.base + 2 ^ v.sizePower := by
  have hpos : 0 < w.size := Nat.two_pow_pos _
  simp only [Window.intersects, Bool.and_eq_true, decide_eq_true_eq, hpos, and_true]
  rfl

theorem State.overlaps_pairwise_lt (s : State) (i : Nat) (w : Window) : (s.overlaps i w).Pairwise (· < ·) :=
  List.pairwise_lt_range.filter _

theorem State.mem_overlaps_iff (s : State) (i k : Nat) (w : Window) :
    k ∈ s.overlaps i w ↔ ∃ (h : k < 8) (v : Window),
      k ≠ i ∧ s.windows.get ⟨k, h⟩ = some v ∧ v.intersects w.base w.size = true := by
  by_cases h : k < 8
  case pos =>
    have hget : s.windows.get ⟨k, h⟩ = s.windows[k] := rfl
    cases hv : s.windows[k] <;> simp [State.overlaps, Config.windowCount, h, hget, hv]
  case neg => simp [State.overlaps, Config.windowCount, h]

/-! WGET at its owner (R87) -/

section
variable {s : State} {l : Link} {i : Fin 8}

theorem State.takeWget_of_gt {n : Nat} (h : 7 < n) : s.takeWget l n = s.reply l 0x32 .badParam [] := by
  simp [State.takeWget, State.refuse, windowOf_of_gt h]

theorem State.takeWget_of_free (h : s.windows.get i = none) :
    s.takeWget l i.val = s.reply l 0x32 .ok [.window i.val, .owner none] := by
  simp [State.takeWget, h]

theorem State.takeWget_of_enabled {w : Window} (h : s.windows.get i = some w) :
    s.takeWget l i.val = s.reply l 0x32 .ok (windowItems i.val w (s.overlaps i.val w)) := by
  simp [State.takeWget, h]

end

/-! The command -/

theorem exec_wget (l : Link) (index : Nat) (s : State) :
    exec (.wget l index) s = handed s l 0x32 (fun t => t.takeWget l index) := by
  rfl

/-- Settles O24: WGET by the window that its index names, whose overlaps are those of the Window Map. -/
theorem wgetReportsTheWindow : Obligations.WgetReportsTheWindow := by
  intro l i s hready
  refine ⟨fun n hn => ?outOfRange, fun hfree => ?free, fun w hw => ⟨s.overlaps i.val w, ?increasing, ?members, ?enabled⟩⟩
  case outOfRange => exact handed_of_reply hready (State.takeWget_of_gt hn)
  case free => exact handed_of_reply hready (State.takeWget_of_free hfree)
  case increasing => exact s.overlaps_pairwise_lt i.val w
  case members =>
    intro k
    simp only [State.mem_overlaps_iff, Window.intersects_range_iff]
  case enabled => exact handed_of_reply hready (State.takeWget_of_enabled hw)

end Sys2Proof.Machine
end

section
/-! PROOFS. SGET (R121): the slot that a number names, what the laws say of a slot record and of the power wait list,
the items that report a slot record, and the reply. -/

namespace Sys2Proof.Machine

/-! The slot that a number names (R111, R119 to R121) -/

theorem slotOf_of_gt {n : Nat} (h : 3 < n) : slotOf n = none := by
  simp [slotOf, Nat.not_lt.mpr h]

@[simp] theorem slotOf_val (i : SlotId) : slotOf i.val = some i := by
  simp [slotOf]

/-! What a slot record holds in its state (R100, R101) -/

/-- The law says of the fault kind and of the identity in which states they are held. -/
theorem Slot.law_holds {x : Slot} (h : x.law = true) :
    (x.faultKind.isSome = true ↔ x.state = .faulted) ∧
      (x.identity.isSome = true ↔ x.state = .ready ∨ x.state = .draining) := by
  simp only [Slot.law, Bool.and_eq_true, beq_iff_eq] at h
  obtain ⟨⟨⟨⟨⟨hfault, hidentity⟩, -⟩, -⟩, -⟩, -⟩ := h
  rw [hfault, hidentity]
  simp

theorem Slot.exists_faultKind {x : Slot} (h : x.law = true) (hs : x.state = .faulted) : ∃ k, x.faultKind = some k :=
  Option.isSome_iff_exists.mp ((Slot.law_holds h).1.mpr hs)

theorem Slot.faultKind_eq_none {x : Slot} (h : x.law = true) (hs : x.state ≠ .faulted) : x.faultKind = none :=
  Option.not_isSome_iff_eq_none.mp (mt (Slot.law_holds h).1.mp hs)

theorem Slot.exists_identity {x : Slot} (h : x.law = true) (hs : x.state = .ready ∨ x.state = .draining) :
    ∃ d, x.identity = some d :=
  Option.isSome_iff_exists.mp ((Slot.law_holds h).2.mpr hs)

theorem Slot.identity_eq_none {x : Slot} (h : x.law = true) (hready : x.state ≠ .ready)
    (hdraining : x.state ≠ .draining) : x.identity = none :=
  Option.not_isSome_iff_eq_none.mp (mt (Slot.law_holds h).2.mp (not_or.mpr ⟨hready, hdraining⟩))

/-! The power wait list (R105, R121) -/

theorem State.mem_powerWait_iff {s : State} (h : s.sequencersLaw = true) (i : SlotId) :
    i ∈ s.powerWait ↔ (s.slot i).state = .queuedForPower := by
  simp only [State.sequencersLaw, Bool.and_eq_true, List.all_eq_true, List.mem_finRange, forall_const] at h
  obtain ⟨-, hslots⟩ := h
  obtain ⟨⟨hwait, -⟩, -⟩ := hslots i
  rw [← decide_eq_true_iff (p := i ∈ s.powerWait), beq_iff_eq.mp hwait, beq_iff_eq]

/-- A slot's position is one more than the number of the slots ahead of it. -/
theorem State.queuePosition_of_split {s : State} {i : SlotId} {ahead behind : List SlotId}
    (hs : s.powerWait = ahead ++ i :: behind) (h : i ∉ ahead) : s.queuePosition i = ahead.length + 1 := by
  have hnone : ahead.findIdx (fun k => k == i) = ahead.length :=
    List.findIdx_eq_length.mpr fun k hk => beq_false_of_ne (ne_of_mem_of_not_mem hk h)
  simp [State.queuePosition, hs, List.findIdx_append, List.findIdx_cons, hnone]

theorem State.exists_queuePosition {s : State} {i : SlotId} (h : i ∈ s.powerWait) :
    ∃ ahead behind, s.powerWait = ahead ++ i :: behind ∧ s.queuePosition i = ahead.length + 1 := by
  obtain ⟨ahead, behind, hsplit, hahead⟩ := List.eq_append_cons_of_mem h
  exact ⟨ahead, behind, hsplit, State.queuePosition_of_split hsplit hahead⟩

/-! SGET at its owner (R121) -/

/-- The items of a slot record, with its optional items as lists: the fault kind, the position and the identity. -/
theorem State.slotItems_eq (s : State) (i : SlotId) :
    s.slotItems i =
      [.slot i.val, .slotState (s.slot i).state] ++ ((s.slot i).faultKind.map Item.faultKind).toList ++
        [.generation (s.slot i).generation, .autoBringup (s.slot i).autoBringup, .wp (s.slot i).wp,
          .noResponseCount (s.slot i).noResponse] ++
        (if (s.slot i).state = .queuedForPower then [.queuePosition (s.queuePosition i)] else []) ++
        ((s.slot i).identity.map Identity.items).getD [] := by
  cases h : (s.slot i).identity <;> simp [State.slotItems, h]

theorem State.takeSget_of_gt (s : State) (l : Link) {n : Nat} (h : 3 < n) :
    s.takeSget l n = s.reply l 0x43 .badParam [] := by
  simp [State.takeSget, State.refuse, slotOf_of_gt h]

theorem State.takeSget_val (s : State) (l : Link) (i : SlotId) :
    s.takeSget l i.val = s.reply l 0x43 .ok (s.slotItems i) := by
  simp [State.takeSget]

/-! The command -/

theorem exec_sget (l : Link) (n : Nat) (s : State) :
    exec (.sget l n) s = handed s l 0x43 (fun t => t.takeSget l n) := by
  rfl

/-- Settles O28: SGET by the slot that its number names; the laws of the slot record and of the power wait list say
which of the optional items it reports. -/
theorem sgetReportsTheSlot : Obligations.SgetReportsTheSlot := by
  intro l i s hready hlaw hsequencers
  refine ⟨fun n hn => ?outOfRange, ((s.slot i).faultKind.map Item.faultKind).toList,
    if (s.slot i).state = .queuedForPower then [.queuePosition (s.queuePosition i)] else [],
    ((s.slot i).identity.map Identity.items).getD [], fun h => ?notFaulted, fun h => ?faulted, fun h => if_neg h,
    fun h => ?queued, fun hr hd => ?notIdentified, fun h => ?identified, ?reply⟩
  case outOfRange => exact (exec_sget l n s).trans (handed_of_reply hready (s.takeSget_of_gt l hn))
  case notFaulted => rw [Slot.faultKind_eq_none hlaw h]; rfl
  case faulted =>
    obtain ⟨k, hk⟩ := Slot.exists_faultKind hlaw h
    exact ⟨k, hk, by rw [hk]; rfl⟩
  case queued =>
    obtain ⟨ahead, behind, hsplit, hposition⟩ :=
      State.exists_queuePosition ((State.mem_powerWait_iff hsequencers i).mpr h)
    exact ⟨ahead, behind, hsplit, by rw [if_pos h, hposition]⟩
  case notIdentified => rw [Slot.identity_eq_none hlaw hr hd]; rfl
  case identified =>
    obtain ⟨d, hd⟩ := Slot.exists_identity hlaw h
    exact ⟨d, hd, by rw [hd]; rfl⟩
  case reply =>
    rw [exec_sget, ← State.slotItems_eq]
    exact handed_of_reply hready (s.takeSget_val l i)

end Sys2Proof.Machine
end

section
/-! PROOFS. NSUB, NACK and NGET (R147 to R149): what an announcement does to the outbound queue (R144, R151), what a
reply ahead of it leaves of the waiting entries, the link that a taken NSUB leaves, and the replies. -/

namespace Sys2Proof.Machine

/-! The first CONDITION notice among the waiting entries (R144) -/

section
variable {es fs : List Entry} {old : ConditionSet}

theorem mergeCondition_cons_of_ne (set : ConditionSet) {e : Entry} (h : ∀ c, .notice (.condition c) ≠ e) :
    mergeCondition set (e :: es) = (mergeCondition set es).map (e :: ·) := by
  rw [mergeCondition]
  exact fun c hc => h c hc.symm

/-- No CONDITION notice, no merge. -/
theorem mergeCondition_eq_none (set : ConditionSet) (h : ∀ c, .notice (.condition c) ∉ es) :
    mergeCondition set es = none := by
  induction es with
  | nil => rfl
  | cons e es ih =>
    simp only [List.mem_cons, not_or, forall_and] at h
    obtain ⟨hhead, htail⟩ := h
    rw [mergeCondition_cons_of_ne set hhead, ih htail, Option.map_none]

/-- A set merges into the first CONDITION notice, and every other entry stays. -/
theorem mergeCondition_of_split (set : ConditionSet) (h : ∀ c, .notice (.condition c) ∉ es) :
    mergeCondition set (es ++ .notice (.condition old) :: fs) =
      some (es ++ .notice (.condition (old ||| set)) :: fs) := by
  induction es with
  | nil => rfl
  | cons e es ih =>
    simp only [List.mem_cons, not_or, forall_and] at h
    obtain ⟨hhead, htail⟩ := h
    rw [List.cons_append, mergeCondition_cons_of_ne set hhead, ih htail, Option.map_some,
      List.cons_append]

end

/-! Notice admission and announcement (R144, R151) -/

section
variable {x : LinkState} {set : ConditionSet}

theorem LinkState.offer_of_place (n : Notice) (h : x.notices < Config.noticePlaces) :
    x.offer n = x.push (.notice n) := if_pos h

theorem LinkState.offer_of_full (n : Notice) (h : Config.noticePlaces ≤ x.notices) :
    x.offer n = { x with overflow := min Config.overflowMax (x.overflow + 1) } := if_neg (Nat.not_lt.mpr h)

theorem LinkState.announce_of_none_waiting (set : ConditionSet) (h : ∀ c, .notice (.condition c) ∉ x.waiting) :
    x.announce set = x.offer (.condition set) := by
  rw [LinkState.announce, mergeCondition_eq_none set h]

theorem LinkState.announce_of_split {es fs : List Entry} {old : ConditionSet} (set : ConditionSet)
    (hx : x.waiting = es ++ .notice (.condition old) :: fs) (h : ∀ c, .notice (.condition c) ∉ es) :
    x.announce set = { x with outbound := x.sending ++ es ++ .notice (.condition (old ||| set)) :: fs } := by
  rw [LinkState.announce, hx, mergeCondition_of_split set h, List.append_assoc]

theorem LinkState.announceSome_zero (x : LinkState) : x.announceSome 0 = x := if_pos rfl

theorem LinkState.announceSome_of_ne (x : LinkState) (h : set ≠ 0) : x.announceSome set = x.announce set := if_neg h

theorem LinkState.offer_changes (n : Notice) (x : LinkState) :
    ∃ es k, x.offer n = { x with outbound := es, overflow := k } := by
  rcases Nat.lt_or_ge x.notices Config.noticePlaces with h | h
  · exact ⟨_, _, LinkState.offer_of_place n h⟩
  · exact ⟨_, _, LinkState.offer_of_full n h⟩

/-- An announcement changes the outbound queue or the overflow count, and nothing else. -/
theorem LinkState.announceSome_changes (set : ConditionSet) (x : LinkState) :
    ∃ es k, x.announceSome set = { x with outbound := es, overflow := k } := by
  by_cases hset : set = 0
  · exact ⟨_, _, if_pos hset⟩
  rw [LinkState.announceSome_of_ne x hset]
  cases hmerge : mergeCondition set x.waiting with
  | none => simpa only [LinkState.announce, hmerge] using LinkState.offer_changes (.condition set) x
  | some es => exact ⟨x.sending ++ es, x.overflow, by rw [LinkState.announce, hmerge]⟩

end

/-! The waiting entries behind which an entry has joined (R165, R166) -/

section
variable {x : LinkState} {e : Entry}

theorem LinkState.mem_waiting_push {f : Entry} (h : f ∈ (x.push e).waiting) : f ∈ x.waiting ∨ f = e := by
  simp only [LinkState.waiting, LinkState.push, List.drop_append, List.mem_append] at h
  exact h.imp id fun he => List.mem_singleton.mp (List.mem_of_mem_drop he)

theorem LinkState.transmitting_le_length_of_waiting (h : x.waiting ≠ []) :
    (if x.transmitting then 1 else 0) ≤ x.outbound.length := by
  by_contra hlt
  exact h (List.drop_eq_nil_of_le (Nat.le_of_not_le hlt))

theorem LinkState.sending_push (h : x.waiting ≠ []) : (x.push e).sending = x.sending :=
  List.take_append_of_le_length (LinkState.transmitting_le_length_of_waiting h)

theorem LinkState.waiting_push (h : x.waiting ≠ []) : (x.push e).waiting = x.waiting ++ [e] :=
  List.drop_append_of_le_length (LinkState.transmitting_le_length_of_waiting h)

theorem LinkState.notices_push (h : e.isNotice = false) : (x.push e).notices = x.notices := by
  simp [LinkState.notices, LinkState.push, h]

theorem LinkState.no_condition_waiting_push (he : e.isNotice = false)
    (h : ∀ c, .notice (.condition c) ∉ x.waiting) (c : ConditionSet) :
    .notice (.condition c) ∉ (x.push e).waiting := by
  intro hc
  obtain hwaiting | rfl := LinkState.mem_waiting_push hc
  · exact h c hwaiting
  · cases he

end

/-! The link that a taken NSUB leaves (R147) -/

/-- The link with its new mask and the reply behind its queue. -/
def LinkState.masked (mask : ConditionSet) (x : LinkState) : LinkState :=
  { x with mask := mask }.push (.reply 0x20 .ok [.mask mask])

/-- The link with its new mask and the reply, and with what the mask newly covers announced. -/
def LinkState.subscribe (mask : ConditionSet) (x : LinkState) : LinkState :=
  (x.masked mask).announceSome (x.newlySubscribed mask)

section
variable {x : LinkState} {mask : ConditionSet}

/-- A taken NSUB changes the mask, the outbound queue and the overflow count of its link, and nothing else. -/
theorem LinkState.subscribe_changes (mask : ConditionSet) (x : LinkState) :
    ∃ es k, x.subscribe mask = { x with mask := mask, outbound := es, overflow := k } :=
  LinkState.announceSome_changes (x.newlySubscribed mask) (x.masked mask)

theorem LinkState.subscribe_of_none_new (h : x.newlySubscribed mask = 0) : x.subscribe mask = x.masked mask := by
  rw [LinkState.subscribe, h, LinkState.announceSome_zero]

theorem LinkState.subscribe_of_new (h : x.newlySubscribed mask ≠ 0) :
    x.subscribe mask = (x.masked mask).announce (x.newlySubscribed mask) :=
  LinkState.announceSome_of_ne _ h

theorem LinkState.masked_notices (mask : ConditionSet) (x : LinkState) : (x.masked mask).notices = x.notices :=
  LinkState.notices_push rfl

/-- The reply of NSUB is no CONDITION notice, so what is newly covered is offered where none waited before. -/
theorem LinkState.subscribe_of_none_waiting (hnew : x.newlySubscribed mask ≠ 0)
    (h : ∀ c, .notice (.condition c) ∉ x.waiting) :
    x.subscribe mask = (x.masked mask).offer (.condition (x.newlySubscribed mask)) :=
  (LinkState.subscribe_of_new hnew).trans
    (LinkState.announce_of_none_waiting _ (LinkState.no_condition_waiting_push rfl h))

theorem LinkState.subscribe_outbound_of_place (hnew : x.newlySubscribed mask ≠ 0)
    (h : ∀ c, .notice (.condition c) ∉ x.waiting) (hplace : x.notices < Config.noticePlaces) :
    (x.subscribe mask).outbound =
      x.outbound ++ [.reply 0x20 .ok [.mask mask], .notice (.condition (x.newlySubscribed mask))] := by
  rw [LinkState.subscribe_of_none_waiting hnew h,
    LinkState.offer_of_place _ ((LinkState.masked_notices mask x).trans_lt hplace)]
  exact List.append_assoc _ _ _

theorem LinkState.subscribe_of_full (hnew : x.newlySubscribed mask ≠ 0)
    (h : ∀ c, .notice (.condition c) ∉ x.waiting) (hfull : Config.noticePlaces ≤ x.notices) :
    x.subscribe mask = { x.masked mask with overflow := min Config.overflowMax (x.overflow + 1) } := by
  rw [LinkState.subscribe_of_none_waiting hnew h,
    LinkState.offer_of_full _ (hfull.trans_eq (LinkState.masked_notices mask x).symm)]
  rfl

/-- A waiting CONDITION notice keeps its place, ahead of the reply, and takes what is newly covered. -/
theorem LinkState.subscribe_outbound_of_split {es fs : List Entry} {old : ConditionSet}
    (hnew : x.newlySubscribed mask ≠ 0) (hx : x.waiting = es ++ .notice (.condition old) :: fs)
    (h : ∀ c, .notice (.condition c) ∉ es) :
    (x.subscribe mask).outbound =
      x.sending ++ es ++ .notice (.condition (old ||| x.newlySubscribed mask)) :: fs ++
        [.reply 0x20 .ok [.mask mask]] := by
  have hne : { x with mask := mask }.waiting ≠ [] := by
    change x.waiting ≠ []
    simp [hx]
  have hwaiting : (x.masked mask).waiting =
      es ++ .notice (.condition old) :: (fs ++ [.reply 0x20 .ok [.mask mask]]) := by
    refine (LinkState.waiting_push hne).trans ?_
    change x.waiting ++ _ = _
    simp [hx]
  have hsending : (x.masked mask).sending = x.sending := LinkState.sending_push hne
  rw [LinkState.subscribe_of_new hnew, LinkState.announce_of_split _ hwaiting h, hsending]
  simp

end

/-! The requests at their owner (R147 to R149) -/

theorem outsideConditions_iff (w : Word) : outsideConditions w = true ↔ w >>> 25 ≠ 0 := by
  simp [outsideConditions]

section
variable {s : State} {l : Link} {w : Word}

theorem State.takeNsub_of_outside (h : w >>> 25 ≠ 0) : s.takeNsub l w = s.reply l 0x20 .badParam [] :=
  if_pos ((outsideConditions_iff w).mpr h)

theorem State.takeNsub_of_inside (h : w >>> 25 = 0) :
    s.takeNsub l w = s.onLink l (LinkState.subscribe (w.setWidth 25)) := by
  have hw : ¬ outsideConditions w = true := fun ho => (outsideConditions_iff w).mp ho h
  rw [State.takeNsub, if_neg hw]
  cases l <;> rfl

theorem State.takeNack_of_outside (h : w >>> 25 ≠ 0) : s.takeNack l w = s.reply l 0x21 .badParam [] :=
  if_pos ((outsideConditions_iff w).mpr h)

theorem State.takeNack_of_inside (h : w >>> 25 = 0) :
    s.takeNack l w = (s.onLink l fun x => { x with conditions := x.conditions &&& ~~~w.setWidth 25 }).reply l 0x21 .ok
      [.conditions ((s.link l).conditions &&& ~~~w.setWidth 25)] := by
  have hw : ¬ outsideConditions w = true := fun ho => (outsideConditions_iff w).mp ho h
  rw [State.takeNack, if_neg hw]
  rfl

end

/-! The commands -/

theorem exec_nsub (l : Link) (w : Word) (s : State) :
    exec (.nsub l w) s = handed s l 0x20 (fun t => t.takeNsub l w) := by
  rfl

theorem exec_nack (l : Link) (w : Word) (s : State) :
    exec (.nack l w) s = handed s l 0x21 (fun t => t.takeNack l w) := by
  rfl

theorem exec_nget (l : Link) (s : State) : exec (.nget l) s = handed s l 0x22 (fun t => t.takeNget l) := by
  rfl

theorem exec_nsub_of_inside {s : State} {l : Link} {w : Word} (hready : s.ready l) (h : w >>> 25 = 0) :
    exec (.nsub l w) s = .next (s.onLink l (LinkState.subscribe (w.setWidth 25))).kick := by
  rw [exec_nsub, handed_of_ready hready, State.takeNsub_of_inside h]

/-- Settles O21: NSUB by the link it leaves, whose queue follows from where the newly covered conditions are announced;
NACK and NGET by their replies. -/
theorem nsubNackAndNgetServeTheConditions : Obligations.NsubNackAndNgetServeTheConditions := by
  intro l s hready
  have ⟨_, hopen, _⟩ := hready
  refine ⟨fun w => ⟨fun hout => ?nsubRefused, fun hin => ?nsubTaken⟩, fun w hout => ?nackRefused,
    fun w hin => ?nackTaken, ?nget⟩
  case nsubRefused => exact handed_of_reply hready (State.takeNsub_of_outside hout)
  case nackRefused => exact handed_of_reply hready (State.takeNack_of_outside hout)
  case nackTaken =>
    rw [exec_nack, handed_of_ready hready, State.takeNack_of_inside hin]
    rfl
  case nget => exact handed_of_reply hready rfl
  case nsubTaken =>
    obtain ⟨es, k, hchanges⟩ := LinkState.subscribe_changes (w.setWidth 25) (s.link l)
    have hlink : ((s.onLink l (LinkState.subscribe (w.setWidth 25))).kick).link l =
        ((s.link l).subscribe (w.setWidth 25)).kick := by simp
    refine ⟨_, (s.link l).newlySubscribed (w.setWidth 25), exec_nsub_of_inside hready hin, rfl, ?mask, ?conditions,
      ?live, ?session, ?other, ?slots, ?windows, fun hzero => ?noneNew, fun hnew hnone hplace => ?offered,
      fun hnew hnone hfull => ?dropped, fun hnew ahead old behind hsplit hahead => ?merged⟩
    case mask => rw [hlink, hchanges]; rfl
    case conditions => rw [hlink, hchanges]; rfl
    case live => rw [hlink, hchanges]; rfl
    case session => rw [hlink, hchanges]; exact hopen
    case other => simp
    case slots => simp
    case windows => simp
    case noneNew => rw [hlink, LinkState.subscribe_of_none_new hzero]; rfl
    case offered => rw [hlink]; exact LinkState.subscribe_outbound_of_place hnew hnone hplace
    case dropped => rw [hlink, LinkState.subscribe_of_full hnew hnone hfull]; exact ⟨rfl, rfl⟩
    case merged => rw [hlink]; exact LinkState.subscribe_outbound_of_split hnew hsplit hahead

end Sys2Proof.Machine
end

section
/-! PROOFS. Positions in a segment list (R13): where a position that moves on comes to stand, and which segments it
leaves on the way. -/

namespace Sys2Proof.Machine

/-! Where a position comes to stand -/

/-- A position stands at the job block `k`: its segment exists, its block lies in it, and `k` blocks stand ahead. -/
theorem Position.standsAt_iff (segs : List Segment) (p : Position) (k : Nat) :
    p.standsAt segs k = true ↔
      ∃ g, segs[p.segment]? = some g ∧ p.block < g.blocks ∧ totalBlocks (segs.take p.segment) + p.block = k := by
  simp only [Position.standsAt, totalBlocks, Bool.and_eq_true, beq_iff_eq, Option.any_eq_true, decide_eq_true_eq]
  constructor
  · rintro ⟨⟨g, hg, hb⟩, hk⟩
    exact ⟨g, hg, hb, hk⟩
  · rintro ⟨g, hg, hb, hk⟩
    exact ⟨⟨g, hg, hb⟩, hk⟩

theorem totalBlocks_cons (g : Segment) (gs : List Segment) : totalBlocks (g :: gs) = g.blocks + totalBlocks gs := by
  simp [totalBlocks]

theorem totalBlocks_append (gs hs : List Segment) : totalBlocks (gs ++ hs) = totalBlocks gs + totalBlocks hs := by
  simp [totalBlocks]

theorem totalBlocks_take_add_drop (segs : List Segment) (n : Nat) :
    totalBlocks (segs.take n) + totalBlocks (segs.drop n) = totalBlocks segs := by
  rw [← totalBlocks_append, List.take_append_drop]

section
variable {g : Segment} {gs : List Segment} {seg block done n : Nat}

theorem advanceFrom_of_lt (h : n < g.blocks - block) :
    advanceFrom (g :: gs) seg block done n = (⟨seg, block + n, done⟩, []) := by
  rw [advanceFrom, if_pos h]

theorem advanceFrom_of_le (h : g.blocks - block ≤ n) :
    advanceFrom (g :: gs) seg block done n =
      ((advanceFrom gs (seg + 1) 0 0 (n - (g.blocks - block))).1,
        (seg, done) :: (advanceFrom gs (seg + 1) 0 0 (n - (g.blocks - block))).2) := by
  rw [advanceFrom, if_neg (Nat.not_lt.mpr h)]

end

/-- A move that ends within the list ends in one of its segments, as many blocks on as it is long. -/
theorem advanceFrom_stands {segs : List Segment} (hpos : ∀ g ∈ segs, 1 ≤ g.blocks) :
    ∀ (gs : List Segment) (seg block done n : Nat), gs = segs.drop seg → (∀ g, gs.head? = some g → block < g.blocks) →
      block + n < totalBlocks gs →
      (advanceFrom gs seg block done n).1.standsAt segs (totalBlocks (segs.take seg) + block + n) = true := by
  intro gs
  induction gs with
  | nil => intro seg block done n _ _ hn; simp [totalBlocks] at hn
  | cons g gs ih =>
    intro seg block done n hdrop hblock hn
    have hg : segs[seg]? = some g := by rw [← List.head?_drop, ← hdrop]; rfl
    have hb : block < g.blocks := hblock g rfl
    rcases Nat.lt_or_ge n (g.blocks - block) with hlt | hge
    · rw [advanceFrom_of_lt hlt, Position.standsAt_iff]
      exact ⟨g, hg, by change block + n < _; omega, (Nat.add_assoc _ _ _).symm⟩
    · have hseg : seg < segs.length := (List.getElem?_eq_some_iff.mp hg).1
      have hget : segs[seg] = g := (List.getElem?_eq_some_iff.mp hg).2
      have htail : gs = segs.drop (seg + 1) := by
        rw [List.drop_eq_getElem_cons hseg] at hdrop
        exact (List.cons.inj hdrop).2
      have htake : totalBlocks (segs.take (seg + 1)) = totalBlocks (segs.take seg) + g.blocks := by
        rw [List.take_succ_eq_append_getElem hseg, totalBlocks_append, hget]
        simp [totalBlocks]
      rw [totalBlocks_cons] at hn
      rw [advanceFrom_of_le hge]
      have := ih (seg + 1) 0 0 (n - (g.blocks - block)) htail
        (fun h hh => hpos h (List.mem_of_mem_drop (htail ▸ List.mem_of_mem_head? hh))) (by omega)
      rwa [htake, show totalBlocks (segs.take seg) + g.blocks + 0 + (n - (g.blocks - block)) =
        totalBlocks (segs.take seg) + block + n by omega] at this

/-- A position that moves on within its list stands as many blocks on. -/
theorem Position.advance_standsAt {segs : List Segment} {p : Position} {k n : Nat} (hpos : ∀ g ∈ segs, 1 ≤ g.blocks)
    (h : p.standsAt segs k = true) (hn : k + n < totalBlocks segs) :
    (p.advance segs n).1.standsAt segs (k + n) = true := by
  obtain ⟨g, hg, hb, hk⟩ := (Position.standsAt_iff _ _ _).mp h
  have hsum := totalBlocks_take_add_drop segs p.segment
  have hhead : (segs.drop p.segment).head? = some g := by rw [List.head?_drop, hg]
  have := advanceFrom_stands hpos _ p.segment p.block p.done n rfl
    (fun g' hg' => by rw [hhead] at hg'; exact Option.some.inj hg' ▸ hb) (by omega)
  rwa [hk] at this

/-! Jobs that stand at one of their blocks (R13) -/

section
variable {j : Job}

/-- The place law, taken apart. -/
theorem Job.placeLaw_iff :
    j.placeLaw = true ↔ j.primary.length ≤ 16 ∧ j.destination.length ≤ 16 ∧
      (∀ g ∈ j.primary ++ j.destination, 1 ≤ g.blocks) ∧ j.total = totalBlocks j.primary ∧
      j.posPrimary.standsAt j.primary j.nextBlock = true ∧
      (j.kind = .copy → totalBlocks j.destination = j.total ∧
        j.posDestination.standsAt j.destination j.nextBlock = true) ∧
      (j.kind ≠ .copy → j.destination = []) := by
  have hmax : Config.segmentsMax = 16 := rfl
  simp only [Job.placeLaw, Bool.and_eq_true, decide_eq_true_eq, beq_iff_eq, List.all_eq_true, and_assoc, hmax]
  by_cases hk : j.kind = .copy <;> simp [hk]

/-- A job that stands at one of its blocks has blocks left. -/
theorem Job.nextBlock_lt_total (h : j.placeLaw = true) : j.nextBlock < j.total := by
  obtain ⟨-, -, -, htotal, hstands, -⟩ := Job.placeLaw_iff.mp h
  obtain ⟨g, hg, hb, hk⟩ := (Position.standsAt_iff _ _ _).mp hstands
  have hseg : j.posPrimary.segment < j.primary.length := (List.getElem?_eq_some_iff.mp hg).1
  have hsum := totalBlocks_take_add_drop j.primary j.posPrimary.segment
  rw [List.drop_eq_getElem_cons hseg, (List.getElem?_eq_some_iff.mp hg).2, totalBlocks_cons] at hsum
  omega

@[simp] theorem Job.advance_kind (n : Nat) : (j.advance n).kind = j.kind := rfl
@[simp] theorem Job.advance_tag (n : Nat) : (j.advance n).tag = j.tag := rfl
@[simp] theorem Job.advance_state (n : Nat) : (j.advance n).state = j.state := rfl
@[simp] theorem Job.advance_total (n : Nat) : (j.advance n).total = j.total := rfl
@[simp] theorem Job.advance_nextBlock (n : Nat) : (j.advance n).nextBlock = j.nextBlock + n := rfl
@[simp] theorem Job.countBlock_tag : j.countBlock.tag = j.tag := rfl
@[simp] theorem Job.countBlock_kind : j.countBlock.kind = j.kind := rfl
@[simp] theorem Job.countBlock_state : j.countBlock.state = j.state := rfl
@[simp] theorem Job.countBlock_total : j.countBlock.total = j.total := rfl
@[simp] theorem Job.countBlock_nextBlock : j.countBlock.nextBlock = j.nextBlock := rfl

/-- A job that moves on by blocks it has left stands at one of its blocks again. -/
theorem Job.advance_placeLaw {n : Nat} (h : j.placeLaw = true) (hn : j.nextBlock + n < j.total) :
    (j.advance n).placeLaw = true := by
  obtain ⟨hp, hd, hpos, htotal, hstands, hcopy, hother⟩ := Job.placeLaw_iff.mp h
  refine Job.placeLaw_iff.mpr ⟨hp, hd, hpos, htotal, ?_, fun hk => ?_, hother⟩
  · exact Position.advance_standsAt (fun g hg => hpos g (List.mem_append_left _ hg)) hstands (htotal ▸ hn)
  · obtain ⟨hsame, hdest⟩ := hcopy hk
    refine ⟨hsame, ?_⟩
    have hpd : (j.advance n).posDestination = (j.posDestination.advance j.destination n).1 := if_pos hk
    rw [hpd]
    exact Position.advance_standsAt (fun g hg => hpos g (List.mem_append_right _ hg)) hdest (hsame ▸ hn)

theorem Job.countBlock_placeLaw (h : j.placeLaw = true) : j.countBlock.placeLaw = true := by
  obtain ⟨hp, hd, hpos, htotal, hstands, hcopy, hother⟩ := Job.placeLaw_iff.mp h
  refine Job.placeLaw_iff.mpr ⟨hp, hd, hpos, htotal, hstands, fun hk => ⟨(hcopy hk).1, ?_⟩, hother⟩
  have hk' : j.kind = .copy := hk
  have hpd : j.countBlock.posDestination = { j.posDestination with done := j.posDestination.done + 1 } := if_pos hk'
  rw [hpd]
  exact (hcopy hk).2

end

end Sys2Proof.Machine
end

section
/-! PROOFS. The actions of the lanes (01, 02, 03): every operation of a lane is a run of a few actions, each with the
guard under which it is taken. A law that each action keeps is kept by all that the lanes do. -/

namespace Sys2Proof.Machine

/-! Links and their active jobs -/

theorem State.onLink_congr {s : State} {l : Link} {f g : LinkState → LinkState} (h : f (s.link l) = g (s.link l)) :
    s.onLink l f = s.onLink l g := by rw [State.onLink, h, State.onLink]

theorem LinkState.activeJob_eq_some {x : LinkState} {j : Job} :
    x.activeJob = some j ↔ ∃ js, x.live = j :: js ∧ j.state ≠ .queued := by
  unfold LinkState.activeJob
  split
  next h => simp [h]
  next k ks h =>
    by_cases hk : k.state = .queued
    · simp only [hk, if_true, h, List.cons.injEq, reduceCtorEq, false_iff, not_exists, not_and]
      rintro js ⟨rfl, -⟩ hj
      exact hj hk
    · simp only [hk, if_false, h, Option.some.injEq, List.cons.injEq]
      constructor
      · rintro rfl; exact ⟨ks, ⟨rfl, rfl⟩, hk⟩
      · rintro ⟨js, ⟨rfl, -⟩, -⟩; rfl

theorem State.activeJob_eq_some {s : State} {l : Link} {j : Job} :
    s.activeJob l = some j ↔ ∃ js, (s.link l).live = j :: js ∧ j.state ≠ .queued := LinkState.activeJob_eq_some

theorem State.activeJob_of_live {s : State} {l : Link} {j : Job} {js : List Job} (h : (s.link l).live = j :: js)
    (hj : j.state ≠ .queued) : s.activeJob l = some j := State.activeJob_eq_some.mpr ⟨js, h, hj⟩

theorem State.activeJob_congr {s t : State} {l : Link} (h : (t.link l).live = (s.link l).live) :
    t.activeJob l = s.activeJob l := by
  simp only [State.activeJob, LinkState.activeJob, h]

theorem State.live_ne_nil {s : State} {l : Link} {j : Job} (h : s.activeJob l = some j) : (s.link l).live ≠ [] := by
  obtain ⟨js, hx, -⟩ := State.activeJob_eq_some.mp h
  simp [hx]

theorem LinkState.onHead_of_cons {x : LinkState} {j : Job} {js : List Job} (h : x.live = j :: js) (f : Job → Job) :
    x.onHead f = { x with live := f j :: js } := by
  unfold LinkState.onHead
  rw [h]

theorem State.onTimedJob_eq (s : State) (l : Link) (f : Job → Job) :
    s.onTimedJob l f = s.onJob l (fun j => (f j).retime (s.link l).timeout) := State.onLink_congr rfl

theorem State.activeJob_onJob {s : State} {l : Link} {j : Job} (h : s.activeJob l = some j) {f : Job → Job}
    (hf : (f j).state ≠ .queued) : (s.onJob l f).activeJob l = some (f j) := by
  obtain ⟨js, hx, -⟩ := State.activeJob_eq_some.mp h
  exact State.activeJob_of_live (js := js) (by simp [State.onJob, LinkState.onHead_of_cons hx]) hf

/-! Notices offered one after another (R25) -/

/-- Notices offered in order to one link's notice admission. -/
def LinkState.offers (ns : List Notice) (x : LinkState) : LinkState := ns.foldl (fun y n => y.offer n) x

theorem State.offers_eq (s : State) (l : Link) (ns : List Notice) :
    s.offers l ns = s.onLink l (LinkState.offers ns) := by
  induction ns generalizing s with
  | nil => exact (State.onLink_id s l).symm
  | cons n ns ih =>
    rw [State.offers, List.foldl_cons]
    refine (ih (s.offer l n)).trans ?_
    rw [State.offer, State.onLink_onLink]
    rfl

@[simp] theorem LinkState.offer_live (n : Notice) (x : LinkState) : (x.offer n).live = x.live := by
  unfold LinkState.offer
  split <;> rfl

theorem LinkState.offer_onHead (n : Notice) (f : Job → Job) (x : LinkState) :
    (x.onHead f).offer n = (x.offer n).onHead f := by
  cases h : x.live with
  | nil =>
    have h' : (x.offer n).live = [] := by rw [LinkState.offer_live, h]
    rw [LinkState.onHead, LinkState.onHead, h, h']
  | cons j js =>
    rw [LinkState.onHead_of_cons h, LinkState.onHead_of_cons ((LinkState.offer_live n x).trans h)]
    change (if x.notices < _ then _ else _) = _
    unfold LinkState.offer
    split <;> rfl

theorem LinkState.offers_onHead (ns : List Notice) (f : Job → Job) (x : LinkState) :
    LinkState.offers ns (x.onHead f) = (LinkState.offers ns x).onHead f := by
  induction ns generalizing x with
  | nil => rfl
  | cons n ns ih => exact (congrArg (LinkState.offers ns) (LinkState.offer_onHead n f x)).trans (ih (x.offer n))

@[simp] theorem LinkState.offers_live (ns : List Notice) (x : LinkState) : (LinkState.offers ns x).live = x.live := by
  induction ns generalizing x with
  | nil => rfl
  | cons n ns ih => exact (ih (x.offer n)).trans (LinkState.offer_live n x)

@[simp] theorem State.offers_activeJob (s : State) (l : Link) (ns : List Notice) :
    (s.offers l ns).activeJob l = s.activeJob l :=
  State.activeJob_congr (by rw [State.offers_eq, State.onLink_link, LinkState.offers_live])

/-! Buffers that a lane holds (R35) -/

theorem State.holds_of_useOf {s : State} {l : Link} {b : BufId} {u : BufferUse} (h : s.useOf l b = some u) :
    s.holds l b = true := by
  unfold State.useOf at h
  unfold State.holds
  split at h
  · cases h
  · split at h
    next e => simp [e]
    · cases h

theorem State.holds_of_findUse {s : State} {l : Link} {p : BufferUse → Bool} {b : BufId}
    (h : s.findUse l p = some b) : s.holds l b = true := by
  have hany : (s.useOf l b).any p = true := List.find?_some (p := fun b => (s.useOf l b).any p) h
  obtain ⟨u, hu, -⟩ := (Option.any_eq_true _ _).mp hany
  exact State.holds_of_useOf hu

theorem State.holds_of_mem_allUses {s : State} {l : Link} {p : BufferUse → Bool} {b : BufId}
    (h : b ∈ s.allUses l p) : s.holds l b = true := by
  obtain ⟨u, hu, -⟩ := (Option.any_eq_true _ _).mp (List.mem_filter.mp h).2
  exact State.holds_of_useOf hu

theorem State.holds_congr {s t : State} {b : BufId} (h : t.buffers.get b = s.buffers.get b) (l : Link) :
    t.holds l b = s.holds l b := by
  simp only [State.holds, h]

theorem State.allUses_nodup (s : State) (l : Link) (p : BufferUse → Bool) : (s.allUses l p).Nodup :=
  (List.nodup_finRange 16).filter _

/-! A buffer handed out changes no other buffer (R34) -/

section
variable {b c : BufId}

@[simp] theorem State.grantCredit_buffers (s : State) (l : Link) : (s.grantCredit l).buffers = s.buffers := by
  unfold State.grantCredit
  split <;> simp [State.onTimedJob]

@[simp] theorem State.joinWait_buffers (s : State) (l : Link) : (s.joinWait l).buffers = s.buffers := by
  unfold State.joinWait
  split <;> rfl

@[simp] theorem State.dropIdleWait_buffers (s : State) (l : Link) : (s.dropIdleWait l).buffers = s.buffers := by
  unfold State.dropIdleWait
  split
  · rfl
  · split <;> rfl

theorem State.assign_get_ne (s : State) (l : Link) (h : c ≠ b) : (s.assign l b).buffers.get c = s.buffers.get c := by
  unfold State.assign
  split
  · rfl
  · split
    · exact State.setHolder_ne s h _
    · exact State.setHolder_ne s h _
    · rw [State.setBytes_ne _ h, State.setHolder_ne s h]
    · rw [State.grantCredit_buffers, State.setHolder_ne s h]

theorem giveBuffer_get_ne (w : List Link) (s : State) (h : c ≠ b) :
    (giveBuffer w b s).buffers.get c = s.buffers.get c := by
  induction w generalizing s with
  | nil => rfl
  | cons l rest ih =>
    unfold giveBuffer
    simp only
    split
    · split <;> simp only [State.joinWait_buffers, State.assign_get_ne _ l h]
    · exact ih _

theorem State.freeBuf_get_ne (s : State) (h : c ≠ b) : (s.freeBuf b).buffers.get c = s.buffers.get c :=
  (giveBuffer_get_ne _ _ h).trans (State.setHolder_ne s h _)

theorem State.emptyWriteBuffer_get_ne (s : State) (l : Link) (h : c ≠ b) :
    (s.emptyWriteBuffer l b).buffers.get c = s.buffers.get c := by
  unfold State.emptyWriteBuffer
  split
  · exact State.freeBuf_get_ne s h
  · split
    · rw [State.dropIdleWait_buffers, State.grantCredit_buffers, State.setHolder_ne s h]
    · exact State.freeBuf_get_ne s h

end

/-! A buffer handed out leaves the bus as it is -/

@[simp] theorem State.grantCredit_bus (s : State) (l : Link) : (s.grantCredit l).bus = s.bus := by
  unfold State.grantCredit
  split <;> simp [State.onTimedJob]

@[simp] theorem State.joinWait_bus (s : State) (l : Link) : (s.joinWait l).bus = s.bus := by
  unfold State.joinWait
  split <;> rfl

@[simp] theorem State.dropIdleWait_bus (s : State) (l : Link) : (s.dropIdleWait l).bus = s.bus := by
  unfold State.dropIdleWait
  split
  · rfl
  · split <;> rfl

@[simp] theorem State.assign_bus (s : State) (l : Link) (b : BufId) : (s.assign l b).bus = s.bus := by
  unfold State.assign
  split
  · rfl
  · split <;> simp

@[simp] theorem giveBuffer_bus (w : List Link) (b : BufId) (s : State) : (giveBuffer w b s).bus = s.bus := by
  induction w generalizing s with
  | nil => rfl
  | cons l rest ih =>
    unfold giveBuffer
    simp only
    split
    · split <;> simp
    · exact ih _

@[simp] theorem State.freeBuf_bus (s : State) (b : BufId) : (s.freeBuf b).bus = s.bus := giveBuffer_bus _ b _

@[simp] theorem State.freeBufs_bus (s : State) (bs : List BufId) : (s.freeBufs bs).bus = s.bus := by
  induction bs generalizing s with
  | nil => rfl
  | cons b bs ih => exact (ih _).trans (State.freeBuf_bus s b)

@[simp] theorem State.askBuffer_bus (s : State) (l : Link) : (s.askBuffer l).bus = s.bus := by
  unfold State.askBuffer
  split <;> simp

@[simp] theorem State.emptyWriteBuffer_bus (s : State) (l : Link) (b : BufId) :
    (s.emptyWriteBuffer l b).bus = s.bus := by
  unfold State.emptyWriteBuffer
  split
  · simp
  · split <;> simp

/-! What a change of the active job keeps (R5 to R7, R13, R58) -/

/-- The job stays the same one, active, with causes that its state allows, and at one of its blocks. -/
structure Job.Keeps (j k : Job) : Prop where
  tag : k.tag = j.tag
  active : k.state ≠ .queued
  causes : j.causesLaw = true → k.causesLaw = true
  place : j.placeLaw = true → k.placeLaw = true

theorem Job.causesLaw_iff {j : Job} : j.causesLaw = true ↔
    if j.state = .pausing ∨ j.state = .paused then j.causeHost = true ∨ j.causeLatch = true
    else j.causeHost = false ∧ j.causeLatch = false := by
  cases h : j.state <;> simp [Job.causesLaw, h]

/-- A change that touches no tag, state, cause or place keeps all of these. -/
theorem Job.Keeps.of_same {j k : Job} (hj : j.state ≠ .queued) (htag : k.tag = j.tag) (hstate : k.state = j.state)
    (hcauses : k.causesLaw = j.causesLaw) (hplace : k.placeLaw = j.placeLaw) : j.Keeps k where
  tag := htag
  active := hstate ▸ hj
  causes h := hcauses ▸ h
  place h := hplace ▸ h

/-! The actions -/

/-- The head job leaves the live list, and an entry joins the history (R23). -/
def LinkState.pop (e : HistoryEntry) (x : LinkState) : LinkState :=
  { x with live := x.live.tail, history := addHistory x.history e }

/-- The link with another record of its lane. -/
def LinkState.withLane (a : Lane) (x : LinkState) : LinkState := { x with lane := a }

theorem LinkState.offer_pop (e : HistoryEntry) (n : Notice) (x : LinkState) :
    (x.pop e).offer n = (x.offer n).pop e := by
  change (if x.notices < _ then _ else _) = _
  unfold LinkState.offer
  split <;> rfl

/-- Every job behind the head of the live list is QUEUED, as the law of the lists has it (R5). -/
def LinkState.tailQueued (x : LinkState) : Bool := x.live.tail.all (fun j => j.state == .queued)

/-- One action of a lane, with the guard under which it is taken. -/
inductive LaneAction : State → State → Prop
  /-- A buffer is freed, and given to a lane that waits (R34). -/
  | free (s : State) (b : BufId) : LaneAction s (s.freeBuf b)
  /-- A lane asks the pool for a buffer it needs (R33). -/
  | ask (s : State) (l : Link) (h : s.wantsBuffer l = true) : LaneAction s (s.askBuffer l)
  /-- A lane empties a WRITE buffer that it holds (R44). -/
  | empty (s : State) (l : Link) (b : BufId) (h : s.holds l b = true) : LaneAction s (s.emptyWriteBuffer l b)
  /-- A lane uses a buffer that it holds in another way (R35). -/
  | use (s : State) (l : Link) (b : BufId) (u : BufferUse) (h : s.holds l b = true) :
    LaneAction s (s.setHolder b (.lane l u))
  /-- A lane leaves the buffer wait list (R34). -/
  | unwait (s : State) (l : Link) : LaneAction s (s.withdrawWait l)
  /-- A lane withdraws its request at the arbiter (R127). -/
  | withdraw (s : State) (l : Link) : LaneAction s (s.onBus (fun b => b.withdraw l))
  /-- A lane asks for the bus (R37). -/
  | request (s : State) (l : Link) (r : BusRequest) : LaneAction s (s.onBus (fun b => b.ask l r))
  /-- A notice of a live job is offered (R25). -/
  | offer (s : State) (l : Link) (n : Notice) (h : (s.link l).live ≠ []) : LaneAction s (s.offer l n)
  /-- A CREDIT that waits is removed (R54). -/
  | uncredit (s : State) (l : Link) (tag : Nat) : LaneAction s (s.onLink l (LinkState.removeCredit tag))
  /-- A DATA entry joins the outbound queue (R38). -/
  | data (s : State) (l : Link) (tag sequence size : Nat) (b : BufId) :
    LaneAction s (s.onLink l (LinkState.push (.data tag sequence size b)))
  /-- The lane's own state and counts change (R11, R40). -/
  | lane (s : State) (l : Link) (f : LinkState → Lane) : LaneAction s (s.onLink l (fun x => x.withLane (f x)))
  /-- The active job changes, and stays at one of its blocks with causes that its state allows. -/
  | head (s : State) (l : Link) (f : Job → Job) {j : Job} (h : s.activeJob l = some j) (k : j.Keeps (f j)) :
    LaneAction s (s.onJob l f)
  /-- The head job changes, in a list with an active job behind its head, which no run reaches. -/
  | stray (s : State) (l : Link) (f : Job → Job) (h : (s.link l).tailQueued = false)
    (k : ∀ j, (f j).placeLaw = j.placeLaw) : LaneAction s (s.onJob l f)
  /-- The QUEUED head job starts (R11). -/
  | start (s : State) (l : Link) (h : s.startCheck l = true) : LaneAction s (s.startJob l)
  /-- The active job leaves the live list for the history (R23). -/
  | pop (s : State) (l : Link) (e : HistoryEntry) {j : Job} (h : s.activeJob l = some j) (k : e.tag = j.tag) :
    LaneAction s (s.onLink l (LinkState.pop e))

/-- What lanes do: a run of actions. -/
abbrev LaneRuns : State → State → Prop := Relation.ReflTransGen LaneAction

theorem LaneAction.runs {s t : State} (h : LaneAction s t) : LaneRuns s t := .single h

section
variable {s : State} {l : Link} {j : Job}

theorem LaneRuns.freeBufs (s : State) (bs : List BufId) : LaneRuns s (s.freeBufs bs) := by
  induction bs generalizing s with
  | nil => exact .refl
  | cons b bs ih => exact .head (.free s b) (ih (s.freeBuf b))

theorem LaneRuns.withdrawAll (s : State) (l : Link) : LaneRuns s (s.withdrawAll l) :=
  .head (.unwait s l) (.single (.withdraw _ l))

theorem LaneRuns.offers (h : (s.link l).live ≠ []) (ns : List Notice) : LaneRuns s (s.offers l ns) := by
  induction ns generalizing s with
  | nil => exact .refl
  | cons n ns ih =>
    refine .head (.offer s l n h) (ih ?_)
    rw [State.offer, State.onLink_link, LinkState.offer_live]
    exact h

/-! The end of a job (R23) -/

/-- What the end of its active job does to a link (R23). -/
def LinkState.ending (j : Job) (o : JobOutcome) (inFlight : Bool) (x : LinkState) : LinkState :=
  let y := (x.pop (j.entry o)).offer (j.endedNotice o)
  (if j.kind = .write then y.removeCredit j.tag else y).withLane ⟨if inFlight then .stopping else .idle, 0, 0⟩

/-- The end of a job before its buffers are freed. -/
def State.ended (s : State) (l : Link) (j : Job) (o : JobOutcome) : State :=
  (s.withdrawAll l).onLink l (LinkState.ending j o (s.bus.laneInFlight l))

theorem State.endJob_eq (h : s.activeJob l = some j) (o : JobOutcome) :
    s.endJob l o =
      (s.ended l j o).freeBufs ((s.ended l j o).allUses l (BufferUse.freedAtEnd (s.bus.laneInFlight l))) := by
  simp only [State.endJob, h]
  rfl

theorem LaneRuns.ending (h : s.activeJob l = some j) {k : Job} (hk : k.tag = j.tag) (o : JobOutcome) (inFlight : Bool) :
    LaneRuns s (s.onLink l (LinkState.ending k o inFlight)) := by
  have hoffer := (LaneAction.offer s l (k.endedNotice o) (State.live_ne_nil h)).runs
  have hpop := hoffer.tail (LaneAction.pop _ l (k.entry o)
    ((State.activeJob_congr (by simp [State.offer])).trans h) hk)
  simp only [State.offer, State.onLink_onLink] at hpop
  simp only [← LinkState.offer_pop] at hpop
  by_cases hkind : k.kind = .write
  · have hun := (hpop.tail (.uncredit _ l k.tag)).tail
      (.lane _ l (fun _ => ⟨if inFlight then .stopping else .idle, 0, 0⟩))
    simp only [State.onLink_onLink] at hun
    unfold LinkState.ending
    simpa only [hkind, if_true] using hun
  · have hun := hpop.tail (.lane _ l (fun _ => ⟨if inFlight then .stopping else .idle, 0, 0⟩))
    simp only [State.onLink_onLink] at hun
    unfold LinkState.ending
    simpa only [hkind, if_false] using hun

theorem LaneRuns.ended (h : s.activeJob l = some j) {k : Job} (hk : k.tag = j.tag) (o : JobOutcome) :
    LaneRuns s (s.ended l k o) :=
  (LaneRuns.withdrawAll s l).trans (LaneRuns.ending ((State.activeJob_congr (by simp [State.withdrawAll])).trans h) hk o _)

end

end Sys2Proof.Machine
end

section
/-! PROOFS. Every operation of the lanes is a run of lane actions, in the order of their definitions (01, 02, 03). -/

namespace Sys2Proof.Machine

section
variable {s : State} {l : Link} {j k : Job}

/-! The end of a job, also behind a last change of it and the notices of that change (R22, R23) -/

theorem LaneRuns.endJob (s : State) (l : Link) (o : JobOutcome) : LaneRuns s (s.endJob l o) := by
  cases h : s.activeJob l with
  | none => rw [State.endJob, h]
  | some j => exact State.endJob_eq h o ▸ (LaneRuns.ended h rfl o).trans (LaneRuns.freeBufs _ _)

theorem State.activeJob_replaced (h : s.activeJob l = some j) (hk : k.state ≠ .queued) (ns : List Notice) :
    ((s.onJob l (fun _ => k)).offers l ns).activeJob l = some k := by
  rw [State.offers_activeJob]
  exact State.activeJob_onJob h (f := fun _ => k) hk

theorem LinkState.ending_onHead (k : Job) (o : JobOutcome) (b : Bool) (f : Job → Job) (x : LinkState) :
    LinkState.ending k o b (x.onHead f) = LinkState.ending k o b x := by
  have hpop : (x.onHead f).pop (k.entry o) = x.pop (k.entry o) := by
    cases hx : x.live with
    | nil => rw [LinkState.onHead, hx]
    | cons j js => rw [LinkState.onHead_of_cons hx, LinkState.pop, LinkState.pop, hx]; rfl
  rw [LinkState.ending, hpop]
  rfl

/-- A job that ends leaves the list, whatever the last change of it was. -/
theorem State.ended_replaced (s : State) (l : Link) (k : Job) (ns : List Notice) (o : JobOutcome) :
    ((s.onJob l (fun _ => k)).offers l ns).ended l k o = (s.offers l ns).ended l k o := by
  have hswap : (s.onJob l (fun _ => k)).offers l ns = (s.offers l ns).onJob l (fun _ => k) := by
    rw [State.offers_eq, State.offers_eq, State.onJob, State.onJob, State.onLink_onLink, State.onLink_onLink]
    exact State.onLink_congr (LinkState.offers_onHead ns _ _)
  rw [hswap]
  generalize s.offers l ns = t
  rw [State.ended, State.ended]
  have hcomm : (t.onJob l (fun _ => k)).withdrawAll l = (t.withdrawAll l).onJob l (fun _ => k) := by cases l <;> rfl
  have hbus : (t.onJob l (fun _ => k)).bus = t.bus := State.onLink_bus _ _ _
  rw [hcomm, hbus, State.onJob, State.onLink_onLink]
  exact State.onLink_congr (LinkState.ending_onHead k o _ _ _)

theorem LaneRuns.endJob_replaced (h : s.activeJob l = some j) (htag : k.tag = j.tag) (hk : k.state ≠ .queued)
    (ns : List Notice) (o : JobOutcome) : LaneRuns s (((s.onJob l (fun _ => k)).offers l ns).endJob l o) := by
  rw [State.endJob_eq (State.activeJob_replaced h hk ns), State.ended_replaced]
  exact ((LaneRuns.offers (State.live_ne_nil h) ns).trans
    (LaneRuns.ended ((State.offers_activeJob s l ns).trans h) htag o)).trans (LaneRuns.freeBufs _ _)

theorem State.onJob_eq_const (h : s.activeJob l = some j) (f : Job → Job) :
    s.onJob l f = s.onJob l (fun _ => f j) := by
  obtain ⟨js, hx, -⟩ := State.activeJob_eq_some.mp h
  exact State.onLink_congr (by rw [LinkState.onHead_of_cons hx, LinkState.onHead_of_cons hx])

theorem LaneRuns.endJob_onJob (h : s.activeJob l = some j) {f : Job → Job} (htag : (f j).tag = j.tag)
    (hf : (f j).state ≠ .queued) (o : JobOutcome) : LaneRuns s ((s.onJob l f).endJob l o) := by
  rw [State.onJob_eq_const h f]
  exact LaneRuns.endJob_replaced h htag hf [] o

theorem LaneRuns.replaced (h : s.activeJob l = some j) (hk : j.Keeps k) (ns : List Notice) :
    LaneRuns s ((s.onJob l (fun _ => k)).offers l ns) :=
  .head (.head s l (fun _ => k) h hk) (LaneRuns.offers (State.live_ne_nil (State.activeJob_onJob h hk.active)) ns)

theorem State.active_ne_queued (h : s.activeJob l = some j) : j.state ≠ .queued :=
  (State.activeJob_eq_some.mp h).choose_spec.2

/-! Completion (R14, R22) -/

theorem Job.keeps_completed (hj : j.state ≠ .queued) (hlt : j.nextBlock + 1 < j.total) :
    j.Keeps (j.countBlock.advance 1) where
  tag := rfl
  active := hj
  causes h := h
  place h := Job.advance_placeLaw (Job.countBlock_placeLaw h) hlt

/-- A block completed, and the job's end if it was the last. -/
theorem LaneRuns.completeBlock (h : s.activeJob l = some j) {go : State → State} (hgo : ∀ t, LaneRuns t (go t)) :
    LaneRuns s ((s.completeBlock l j).endIfPast l go) := by
  have hj := State.active_ne_queued h
  have hactive : (s.completeBlock l j).activeJob l = some (j.countBlock.advance 1) :=
    State.activeJob_replaced (k := j.countBlock.advance 1) h hj _
  simp only [State.endIfPast, hactive]
  split
  next => exact LaneRuns.endJob_replaced (k := j.countBlock.advance 1) h rfl hj _ _
  next hlt => exact (LaneRuns.replaced h (Job.keeps_completed hj (Nat.not_le.mp hlt)) _).trans (hgo _)

/-! Segment errors and job-fatal errors (R18 to R21) -/

@[simp] theorem Job.noteError_tag (j : Job) (e : ErrorKind) (i : ListId) (a b : Nat) :
    (j.noteError e i a b).tag = j.tag := by unfold Job.noteError; split <;> rfl
@[simp] theorem Job.noteError_state (j : Job) (e : ErrorKind) (i : ListId) (a b : Nat) :
    (j.noteError e i a b).state = j.state := by unfold Job.noteError; split <;> rfl
@[simp] theorem Job.noteError_nextBlock (j : Job) (e : ErrorKind) (i : ListId) (a b : Nat) :
    (j.noteError e i a b).nextBlock = j.nextBlock := by unfold Job.noteError; split <;> rfl
@[simp] theorem Job.noteError_total (j : Job) (e : ErrorKind) (i : ListId) (a b : Nat) :
    (j.noteError e i a b).total = j.total := by unfold Job.noteError; split <;> rfl
theorem Job.noteError_placeLaw (j : Job) (e : ErrorKind) (i : ListId) (a b : Nat) :
    (j.noteError e i a b).placeLaw = j.placeLaw := by unfold Job.noteError; split <;> rfl
theorem Job.noteError_causesLaw (j : Job) (e : ErrorKind) (i : ListId) (a b : Nat) :
    (j.noteError e i a b).causesLaw = j.causesLaw := by unfold Job.noteError; split <;> rfl
@[simp] theorem Job.setBinding_tag (j : Job) (i : ListId) (b : Option Binding) : (j.setBinding i b).tag = j.tag := by
  cases i <;> rfl
@[simp] theorem Job.setBinding_state (j : Job) (i : ListId) (b : Option Binding) :
    (j.setBinding i b).state = j.state := by cases i <;> rfl
@[simp] theorem Job.setBinding_nextBlock (j : Job) (i : ListId) (b : Option Binding) :
    (j.setBinding i b).nextBlock = j.nextBlock := by cases i <;> rfl
@[simp] theorem Job.setBinding_total (j : Job) (i : ListId) (b : Option Binding) :
    (j.setBinding i b).total = j.total := by cases i <;> rfl
theorem Job.setBinding_placeLaw (j : Job) (i : ListId) (b : Option Binding) :
    (j.setBinding i b).placeLaw = j.placeLaw := by cases i <;> rfl
theorem Job.setBinding_causesLaw (j : Job) (i : ListId) (b : Option Binding) :
    (j.setBinding i b).causesLaw = j.causesLaw := by cases i <;> rfl

theorem Job.keeps_setBinding (hj : j.state ≠ .queued) (i : ListId) (b : Option Binding) :
    j.Keeps (j.setBinding i b) :=
  .of_same hj (by simp) (by simp) (Job.setBinding_causesLaw j i b) (Job.setBinding_placeLaw j i b)

theorem Job.keeps_abandon (hj : j.state ≠ .queued) {i : ListId} {e : ErrorKind} {skip : Nat}
    (hlt : j.nextBlock + skip < j.total) : j.Keeps (j.abandon i e skip) where
  tag := by simp [Job.abandon]
  active := by simpa [Job.abandon] using hj
  causes h := by
    have hsame : (j.abandon i e skip).causesLaw = j.causesLaw :=
      (Job.setBinding_causesLaw _ _ _).trans (Job.noteError_causesLaw _ _ _ _ _)
    rw [hsame, h]
  place h := by
    refine Job.advance_placeLaw ?_ (by simpa using hlt)
    rw [Job.setBinding_placeLaw, Job.noteError_placeLaw]
    exact h

theorem LaneRuns.emptyAll (l : Link) {bs : List BufId} (hbs : bs.Nodup) (s : State)
    (h : ∀ b ∈ bs, s.holds l b = true) : LaneRuns s (bs.foldl (fun t b => t.emptyWriteBuffer l b) s) := by
  induction bs generalizing s with
  | nil => exact .refl
  | cons b bs ih =>
    obtain ⟨hb, hrest⟩ := List.nodup_cons.mp hbs
    refine .head (.empty s l b (h b (List.mem_cons_self ..))) (ih hrest _ fun c hc => ?_)
    have hne : c ≠ b := fun e => hb (e ▸ hc)
    rw [State.holds_congr (State.emptyWriteBuffer_get_ne s l hne)]
    exact h c (List.mem_cons_of_mem _ hc)

theorem LaneRuns.discardSkipped (s : State) (l : Link) (k : Job) : LaneRuns s (s.discardSkipped l k) := by
  unfold State.discardSkipped
  split
  next => exact .refl
  next => exact .refl
  next =>
    unfold State.unloadCopy
    split
    next => exact .refl
    next b hb => exact .single (.use s l b .staged (State.holds_of_findUse hb))
  next => exact LaneRuns.emptyAll l (State.allUses_nodup _ _ _) s fun b hb => State.holds_of_mem_allUses hb

theorem LaneRuns.abandonSegment (h : s.activeJob l = some j) (i : ListId) (e : ErrorKind) :
    LaneRuns s (s.abandonSegment l j i e) := by
  have hj := State.active_ne_queued h
  unfold State.abandonSegment
  simp only
  split
  next => exact LaneRuns.endJob_replaced h (by simp [Job.abandon]) (by simpa [Job.abandon] using hj) _ _
  next hlt =>
    refine (LaneRuns.replaced h (Job.keeps_abandon hj ?_) _).trans (LaneRuns.discardSkipped _ l _)
    simpa [Job.abandon] using hlt

theorem LaneRuns.segmentError (s : State) (l : Link) (i : ListId) (e : ErrorKind) :
    LaneRuns s (s.segmentError l i e) := by
  unfold State.segmentError
  split
  next => exact .refl
  next j h =>
    split
    next =>
      have hj := State.active_ne_queued h
      exact LaneRuns.endJob_onJob h (by rfl) hj _
    next => exact LaneRuns.abandonSegment h i e

theorem LaneRuns.fatalError (s : State) (l : Link) (e : ErrorKind) : LaneRuns s (s.fatalError l e) := by
  unfold State.fatalError
  split
  next => exact .refl
  next j h => exact LaneRuns.endJob_onJob h (Job.noteError_tag ..) (by simpa using State.active_ne_queued h) _

/-! Pause and resume (R61, R62) -/

theorem State.withdrawAll_activeJob (s : State) (l : Link) : (s.withdrawAll l).activeJob l = s.activeJob l :=
  State.activeJob_congr (by simp [State.withdrawAll])

theorem LaneRuns.onTimedJob (h : s.activeJob l = some j) {f : Job → Job}
    (hf : j.Keeps ((f j).retime (s.link l).timeout)) : LaneRuns s (s.onTimedJob l f) := by
  rw [State.onTimedJob_eq]
  exact .single (.head s l _ h hf)

/-- A job with a cause enters PAUSED. -/
theorem LaneRuns.enterPaused (s : State) (l : Link)
    (hcause : ∀ j, s.activeJob l = some j → j.causesLaw = true → j.causeHost = true ∨ j.causeLatch = true) :
    LaneRuns s (s.enterPaused l) := by
  unfold State.enterPaused
  split
  next => exact .refl
  next j h =>
    have hw : (s.withdrawAll l).activeJob l = some j := (State.withdrawAll_activeJob s l).trans h
    refine ((LaneRuns.withdrawAll s l).trans (LaneRuns.onTimedJob hw ?keeps)).tail (.offer _ l _ ?live)
    case keeps => exact ⟨rfl, by simp [Job.retime], fun hc => by simpa [Job.causesLaw_iff, Job.retime] using hcause j h hc,
      fun hp => hp⟩
    case live =>
      rw [State.onTimedJob_eq]
      exact State.live_ne_nil (State.activeJob_onJob hw (by simp [Job.retime]))

theorem LaneRuns.settlePausing (s : State) (l : Link) : LaneRuns s (s.settlePausing l) := by
  unfold State.settlePausing
  split
  next => exact .refl
  next j h =>
    split
    next hp =>
      refine LaneRuns.enterPaused s l fun k hk hc => ?_
      rw [h] at hk
      cases hk
      simpa [Job.causesLaw_iff, hp] using hc
    next => exact .refl

/-! Reports (R38, R44, R47, R49, R59, R60, R12) -/

theorem LaneRuns.useTransfer (s : State) (l : Link) (u : BufferUse) : LaneRuns s (s.useTransfer l u) := by
  unfold State.useTransfer
  split
  next => exact .refl
  next b hb => exact .single (.use s l b u (State.holds_of_findUse hb))

theorem LaneRuns.emptyTransfer (s : State) (l : Link) : LaneRuns s (s.emptyTransfer l) := by
  unfold State.emptyTransfer
  split
  next => exact .refl
  next b hb => exact .single (.empty s l b (State.holds_of_findUse hb))

theorem LaneRuns.queueData (s : State) (l : Link) (j : Job) : LaneRuns s (s.queueData l j) := by
  unfold State.queueData
  split
  next => exact .refl
  next b hb => exact .head (.use s l b _ (State.holds_of_findUse hb)) (.single (.data _ l _ _ _ b))

@[simp] theorem State.queueData_activeJob (s : State) (l : Link) (k : Job) :
    (s.queueData l k).activeJob l = s.activeJob l := by
  refine State.activeJob_congr ?_
  unfold State.queueData
  split
  next => rfl
  next => simp [LinkState.push]

@[simp] theorem State.useTransfer_link (s : State) (l m : Link) (u : BufferUse) :
    (s.useTransfer l u).link m = s.link m := by
  unfold State.useTransfer
  split <;> simp

@[simp] theorem State.useTransfer_activeJob (s : State) (l m : Link) (u : BufferUse) :
    (s.useTransfer l u).activeJob m = s.activeJob m :=
  State.activeJob_congr (by rw [State.useTransfer_link])

theorem LaneRuns.applyReport (h : s.activeJob l = some j) (dir : Direction) (r : Report) :
    LaneRuns s (s.applyReport l j dir r) := by
  cases r with
  | success =>
    cases hk : j.kind <;> simp only [State.applyReport, hk]
    case read =>
      exact (LaneRuns.queueData s l j).trans
        (LaneRuns.completeBlock ((State.queueData_activeJob s l j).trans h) fun _ => .refl)
    case write => exact LaneRuns.completeBlock h fun t => LaneRuns.emptyTransfer t l
    case fill => exact LaneRuns.completeBlock h fun _ => .refl
    case copy =>
      cases dir with
      | read => exact LaneRuns.useTransfer s l _
      | write =>
        exact (LaneRuns.useTransfer s l _).trans
          (LaneRuns.completeBlock ((State.useTransfer_activeJob s l l _).trans h) fun _ => .refl)
  | error e =>
    cases hk : j.kind <;> simp only [State.applyReport, hk]
    case read => exact (LaneRuns.useTransfer s l _).trans (LaneRuns.segmentError _ l _ e)
    case write => exact (LaneRuns.emptyTransfer s l).trans (LaneRuns.segmentError _ l _ e)
    case copy => exact (LaneRuns.useTransfer s l _).trans (LaneRuns.segmentError _ l _ e)
    case fill => exact LaneRuns.segmentError s l _ e

/-- The report of a CANCELLING job, and its end. -/
theorem LaneRuns.cancelReport (h : s.activeJob l = some j) (dir : Direction) (r : Report) :
    LaneRuns s ((s.applyCancelReport l j dir r).endJob l .cancelled) := by
  have hj := State.active_ne_queued h
  have hcount : ∀ {t : State}, t.activeJob l = some j →
      LaneRuns t ((t.onJob l (fun j => j.countBlock.advance 1)).endJob l .cancelled) := fun ht =>
    LaneRuns.endJob_onJob ht (by rfl) hj _
  cases r with
  | success =>
    cases hk : j.kind <;> simp only [State.applyCancelReport, hk]
    case read => exact (LaneRuns.queueData s l j).trans (hcount ((State.queueData_activeJob s l j).trans h))
    case write => exact hcount h
    case fill => exact hcount h
    case copy =>
      cases dir with
      | read => exact (LaneRuns.useTransfer s l _).trans (LaneRuns.endJob _ l _)
      | write => exact hcount h
  | error e => exact LaneRuns.endJob_onJob h (Job.noteError_tag ..) (by simpa using hj) _

theorem LaneRuns.stoppingReport (s : State) (l : Link) : LaneRuns s (s.stoppingReport l) :=
  .head (.lane s l (fun x => { x.lane with state := .idle })) (LaneRuns.freeBufs _ _)

theorem LaneRuns.takeReport (s : State) (l : Link) (dir : Direction) (r : Report) :
    LaneRuns s (s.takeReport l dir r) := by
  unfold State.takeReport
  split
  next => exact LaneRuns.stoppingReport s l
  next j _ h =>
    split
    next => exact LaneRuns.cancelReport h dir r
    next => exact (LaneRuns.applyReport h dir r).trans (LaneRuns.settlePausing _ l)
  next => exact .refl
  next => exact .refl

/-! What a lane does on its own (R11, R33, R37) -/

theorem LaneRuns.startBlock (s : State) (l : Link) (j : Job) (i : ListId) (b : Binding) :
    LaneRuns s (s.startBlock l j i b) := by
  unfold State.startBlock
  split
  next => exact LaneRuns.segmentError s l i _
  next => exact .single (.request s l _)

theorem LaneRuns.startTransfer (h : s.activeJob l = some j) (i : ListId) : LaneRuns s (s.startTransfer l j i) := by
  unfold State.startTransfer
  split
  next => exact LaneRuns.startBlock s l j i _
  next =>
    split
    next => exact .refl
    next =>
      split
      next => exact LaneRuns.segmentError s l i _
      next b _ =>
        exact .head (.head s l _ h (Job.keeps_setBinding (State.active_ne_queued h) i (some b)))
          (LaneRuns.startBlock _ l j i b)

/-- A lane that does something on its own starts its head job, asks for a buffer, or starts a block. -/
theorem State.laneStep_cases {s t : State} {l : Link} (h : s.laneStep l = some t) :
    (s.startCheck l = true ∧ t = s.startJob l) ∨
      ∃ j, s.activeJob l = some j ∧ j.state = .running ∧ (s.link l).lane.state = .busy ∧
        ((s.wantsBuffer l = true ∧ l ∉ s.waitList ∧ t = s.askBuffer l) ∨
          ((s.wantsBuffer l = false ∨ l ∈ s.waitList) ∧ s.laneFree l = true ∧ j.nextBlock < j.total ∧
            ∃ i, s.readyList l j = some i ∧ t = s.startTransfer l j i)) := by
  unfold State.laneStep at h
  split at h
  next hc => exact .inl ⟨hc, (Option.some.inj h).symm⟩
  next =>
    split at h
    next j hb hj =>
      split at h
      next => cases h
      next hr =>
        refine .inr ⟨j, hj, not_not.mp hr, hb, ?_⟩
        split at h
        next hw =>
          simp only [Bool.and_eq_true, decide_eq_true_eq] at hw
          exact .inl ⟨hw.1, hw.2, (Option.some.inj h).symm⟩
        next hw =>
          split at h
          next hf =>
            simp only [Bool.and_eq_true, decide_eq_true_eq] at hf
            obtain ⟨i, hi, rfl⟩ := Option.map_eq_some_iff.mp h
            refine .inr ⟨?_, hf.1, hf.2, i, hi, rfl⟩
            by_contra hno
            simp only [not_or, Bool.not_eq_false] at hno
            exact hw (by simp [hno.1, hno.2])
          next => cases h
    next => cases h
    next => cases h
    next => cases h

theorem LaneRuns.laneStep {t : State} (h : s.laneStep l = some t) : LaneRuns s t := by
  rcases State.laneStep_cases h with ⟨hc, rfl⟩ | ⟨j, hj, -, -, ⟨hw, -, rfl⟩ | ⟨-, -, -, i, -, rfl⟩⟩
  · exact .single (.start s l hc)
  · exact .single (.ask s l hw)
  · exact LaneRuns.startTransfer hj i

theorem LaneRuns.settle (s : State) (l : Link) : LaneRuns s (s.settle l) := by
  unfold State.settle
  generalize settleFuel = n
  induction n generalizing s with
  | zero => exact .refl
  | succ n ih =>
    unfold Machine.settleFrom
    split
    next t h => exact (LaneRuns.laneStep h).trans (ih t)
    next =>
      split
      next t h => exact (LaneRuns.laneStep h).trans (ih t)
      next => exact .refl

end

end Sys2Proof.Machine
end

section
/-! PROOFS. The actions of the part: what a command does is a run of a few actions, each with the guard under which it is
taken, beside those of the lanes. A law that each action keeps is kept by every step. -/

namespace Sys2Proof.Machine

/-- Nothing of the links, the buffers, the windows, the memories and the latch changes: the slots, the sequencers, the
bus, the straps, the pins and the debouncers alone may. -/
structure State.SameLinks (s t : State) : Prop where
  pending : t.pending = s.pending
  linkA : t.linkA = s.linkA
  linkB : t.linkB = s.linkB
  buffers : t.buffers = s.buffers
  waitList : t.waitList = s.waitList
  windows : t.windows = s.windows
  identStore : t.identStore = s.identStore
  latch : t.latch = s.latch
  latchHold : t.latchHold = s.latchHold

/-- The same, and the arbiter leaves no request at a FREE bus if none was there (R128). -/
structure State.SameHosts (s t : State) : Prop extends State.SameLinks s t where
  arbiter : s.arbiterLaw = true → t.arbiterLaw = true

/-- A sent entry has left the outbound queue of its link (R165). -/
def LinkState.sent (es : List Entry) (x : LinkState) : LinkState := { x with outbound := es, transmitting := false }

/-- A QUEUED job leaves the live list by its tag, and its entry joins the history (R67). -/
def LinkState.dropQueued (j : Job) (e : HistoryEntry) (x : LinkState) : LinkState :=
  { x with live := x.live.filter (fun k => k.tag != j.tag), history := addHistory x.history e }

/-- The framer has taken the bytes given of a frame, and its gap timer runs (R160, R161). -/
def LinkState.inFrame (taken : List Byte) (x : LinkState) : LinkState :=
  { x with framer := .inFrame taken, gapTimer := .running Config.gapBits }

/-- A job as a taken JSUB creates it (R4): QUEUED, without a cause, at its first block. -/
structure Job.Fresh (j : Job) : Prop where
  queued : j.state = .queued
  causes : j.causesLaw = true
  place : j.placeLaw = true

/-- The accepted latch state, with the latch hold that follows it (R73 to R75). -/
def State.latched (s : State) (a : LatchState) : State :=
  { s with latch := a, latchHold := a == .opened, latchDebounce := .stopped }

/-- One action on the hosts' side: of the links, the lanes, the buffers, the windows and the memories. -/
inductive HostAction : State → State → Prop
  | lane {s t : State} (h : LaneAction s t) : HostAction s t
  /-- Idle transmitters begin (R166). -/
  | kick (s : State) : HostAction s s.kick
  /-- A reply joins the outbound queue (R164). -/
  | reply (s : State) (l : Link) (code : Nat) (r : ReplyCode) (items : List Item)
    (h : (s.link l).replies < Config.replyPlaces) : HostAction s (s.reply l code r items)
  /-- A condition is raised (R143). -/
  | raise (s : State) (l : Link) (c : Condition) : HostAction s (s.onLink l (LinkState.raise c))
  /-- A new mask, with its reply and what it newly covers (R147). -/
  | subscribe (s : State) (l : Link) (mask : ConditionSet) (h : (s.link l).replies < Config.replyPlaces)
    (k : (s.link l).session ≠ .closed) : HostAction s (s.onLink l (LinkState.subscribe mask))
  /-- Conditions are cleared (R148). -/
  | acknowledge (s : State) (l : Link) (left : ConditionSet) (h : (s.link l).session ≠ .closed) :
    HostAction s (s.onLink l (fun x => { x with conditions := left }))
  /-- A window is set for a link that is not CLOSED, or freed (R82, R86). -/
  | window (s : State) (i : Fin 8) (w : Option Window) (h : ∀ v, w = some v → (s.link v.owner).session ≠ .closed) :
    HostAction s (s.setWindow i w)
  /-- A session opens (R168). -/
  | opening (s : State) (l : Link) (d h : Nat) : HostAction s ((s.onLink l (LinkState.opening d h)).freeWindows l)
  /-- A session is torn down at its link, and its windows are freed (R170, R97). -/
  | closing (s : State) (l : Link) (inFlight : Bool) :
    HostAction s ((s.onLink l (LinkState.closeSession inFlight)).freeWindows l)
  /-- The queues of a CLOSED link are emptied (R171). -/
  | emptying (s : State) (l : Link) (h : (s.link l).session = .closed) : HostAction s (s.onLink l LinkState.emptyQueues)
  /-- A HELLO joins the outbound queue (R176). -/
  | hello (s : State) (l : Link) (c : ResetCause) (h : (s.link l).replies < Config.replyPlaces) : HostAction s (s.hello l c)
  /-- A session enters RESET_PENDING (R172). -/
  | rstp (s : State) (l : Link) (h : (s.link l).session ≠ .closed) :
    HostAction s (s.onLink l (fun x => { x with session := .resetPending, intake := [] }))
  /-- A job joins the live list (R4). -/
  | join (s : State) (l : Link) (j : Job) (h : j.Fresh) (hc : (s.link l).session ≠ .closed)
    (hn : (s.link l).live.length < Config.liveMax) (ht : ∀ k ∈ (s.link l).live, k.tag ≠ j.tag) :
    HostAction s (s.onLink l (LinkState.join j))
  /-- A QUEUED job is cancelled (R67). -/
  | dropQueued (s : State) (l : Link) (j : Job) (e : HistoryEntry) (h : j ∈ (s.link l).live) (k : e.tag = j.tag) :
    HostAction s (s.onLink l (LinkState.dropQueued j e))
  /-- A notice of a cancelled job is offered (R67). -/
  | offer (s : State) (l : Link) (n : Notice) (h : (s.link l).session ≠ .closed) : HostAction s (s.offer l n)
  /-- The framer hunts (R160). -/
  | hunt (s : State) (l : Link) : HostAction s (s.onLink l LinkState.hunt)
  /-- The framer takes a byte (R160, R161). -/
  | inFrame (s : State) (l : Link) (taken : List Byte) (h : (s.link l).breakDetected = false)
    (k : checkFrame taken = .goOn) : HostAction s (s.onLink l (LinkState.inFrame taken))
  /-- A BREAK is detected (R159). -/
  | breakDetected (s : State) (l : Link) : HostAction s (s.onLink l (fun x => { x.hunt with breakDetected := true }))
  /-- A BREAK ends (R159). -/
  | breakEnded (s : State) (l : Link) : HostAction s (s.onLink l (fun x => { x with breakDetected := false }))
  /-- A request waits in the intake (R163). -/
  | intake (s : State) (l : Link) (f : ReqFrame) (h : (s.link l).intake.length < Config.intakeMax) :
    HostAction s (s.onLink l (fun x => { x with intake := x.intake ++ [f] }))
  /-- The head of the intake is taken (R164). -/
  | handOn (s : State) (l : Link) (f : ReqFrame) (rest : List ReqFrame) (h : (s.link l).intake = f :: rest) :
    HostAction s (s.onLink l (fun x => { x with intake := rest }))
  /-- A reply, HELLO, CREDIT or DATA entry has been sent (R165). -/
  | sent (s : State) (l : Link) (e : Entry) (es : List Entry) (h : (s.link l).outbound = e :: es)
    (k : e.isNotice = false) : HostAction s (s.onLink l (LinkState.sent es))
  /-- A notice has been sent, and an OVERFLOW may take its place (R152). -/
  | noticeSent (s : State) (l : Link) (n : Notice) (es : List Entry) (h : (s.link l).outbound = .notice n :: es) :
    HostAction s (s.onLink l (fun x => (x.sent es).overflowNotice))
  /-- A CREDIT has been sent, and the pending credits of the active job take its place (R41). -/
  | creditSent (s : State) (l : Link) (t n tag : Nat) (es : List Entry) (h : (s.link l).outbound = .credit t n :: es) :
    HostAction s (s.onLink l (fun x => (x.sent es).pendingCredit tag))
  /-- A buffer's bytes change, in canonical form. -/
  | bytes (s : State) (b : BufId) (m : Memory) (h : (s.buffers.get b).bytes.wf = true → m.wf = true) :
    HostAction s (s.setBytes b m)
  /-- The identity store's bytes change, in canonical form. -/
  | identStore (s : State) (m : Memory) (h : s.identStore.wf = true → m.wf = true) :
    HostAction s { s with identStore := m }

/-- One action of the part. -/
inductive Action : State → State → Prop
  | host {s t : State} (h : HostAction s t) : Action s t
  | elsewhere {s t : State} (h : s.SameHosts t) : Action s t
  /-- A lane takes the report of its transfer while the bus is FREE, before the arbiter decides (R137). -/
  | released {s t u : State} (h : LaneRuns (s.setBusState .free) t) (k : t.SameLinks u) (hu : u.arbiterLaw = true) :
    Action s u
  /-- The accepted latch state changes, and the latch hold with it (R73 to R75). -/
  | latch (s : State) (a : LatchState) : Action s (s.latched a)
  /-- The part reset (R173). -/
  | partReset (s : State) (c : ResetCause) : Action s (s.partReset c)
  /-- The power-on reset (R175). -/
  | powerOn (s : State) (rate1 rate0 : Bool) : Action s (s.powerOn rate1 rate0)
  /-- NRST is low (R175). -/
  | nrstHeld (s : State) : Action s s.nrstHeld

/-- What happens on the hosts' side: a run of its actions. -/
abbrev HostRuns : State → State → Prop := Relation.ReflTransGen HostAction

/-- What the part does: a run of actions. -/
abbrev Runs : State → State → Prop := Relation.ReflTransGen Action

theorem Action.runs {s t : State} (h : Action s t) : Runs s t := .single h

theorem HostAction.runs {s t : State} (h : HostAction s t) : HostRuns s t := .single h

theorem LaneRuns.toHost {s t : State} (h : LaneRuns s t) : HostRuns s t := h.lift id fun _ _ => HostAction.lane

theorem HostRuns.toRuns {s t : State} (h : HostRuns s t) : Runs s t := h.lift id fun _ _ => Action.host

theorem LaneRuns.toRuns {s t : State} (h : LaneRuns s t) : Runs s t := h.toHost.toRuns

/-! Changes that the hosts' side does not see -/

section
variable {s t u : State}

theorem State.SameLinks.refl (s : State) : s.SameLinks s := by constructor <;> rfl

theorem State.SameLinks.trans (h : s.SameLinks t) (k : t.SameLinks u) : s.SameLinks u :=
  ⟨k.1.trans h.1, k.2.trans h.2, k.3.trans h.3, k.4.trans h.4, k.5.trans h.5, k.6.trans h.6, k.7.trans h.7, k.8.trans h.8,
    k.9.trans h.9⟩

theorem State.SameLinks.link (h : s.SameLinks t) (l : Link) : t.link l = s.link l := by
  cases l
  · exact h.linkA
  · exact h.linkB

theorem State.SameLinks.onBus (s : State) (f : Bus → Bus) : s.SameLinks (s.onBus f) := by constructor <;> rfl

theorem State.SameLinks.identJoin (s : State) : s.SameLinks s.identJoin := by
  rcases State.identJoin_cases s with h | ⟨i, is, -, h⟩ <;> rw [h]
  · exact .refl s
  · exact .onBus s _

theorem State.SameHosts.refl (s : State) : s.SameHosts s := ⟨.refl s, id⟩

theorem State.SameHosts.trans (h : s.SameHosts t) (k : t.SameHosts u) : s.SameHosts u :=
  ⟨h.toSameLinks.trans k.toSameLinks, fun hs => k.arbiter (h.arbiter hs)⟩

/-- The bus stays as it is. -/
theorem State.SameHosts.sameBus (h : s.SameLinks t) (hb : t.bus = s.bus) : s.SameHosts t :=
  ⟨h, fun hs => by rw [State.arbiterLaw, hb]; exact hs⟩

/-- Once the arbiter has decided, a FREE bus has no request (R128). -/
theorem State.arbiterLaw_decide (s : State) : (s.onBus Bus.decide).arbiterLaw = true := by
  unfold State.arbiterLaw State.onBus Bus.decide
  simp only
  cases hb : s.bus.state with
  | granted g => simp [hb]
  | inFlight x => simp [hb]
  | free =>
    simp only
    cases hi : s.bus.requestIdentify with
    | some i => rfl
    | none =>
      cases hp : s.bus.pointer <;>
        cases hA : s.bus.requestA <;> cases hB : s.bus.requestB <;>
        simp [Bus.request, Link.other, hA, hB, hb, hi, Bus.grantLane, Bus.setRequest]

/-- The arbiter decides behind a change. -/
theorem State.SameLinks.decided (h : s.SameLinks t) : s.SameHosts (t.onBus Bus.decide) :=
  ⟨h.trans (.onBus t _), fun _ => State.arbiterLaw_decide t⟩

theorem State.SameLinks.identified (h : s.SameLinks t) : s.SameHosts t.identStep :=
  (h.trans (.identJoin t)).decided

theorem State.SameHosts.identStep (s : State) : s.SameHosts s.identStep := (State.SameLinks.refl s).identified

/-- The levels on the bus and the transfer in flight change. -/
theorem State.SameHosts.goOn (s : State) (x : Transfer) : s.SameHosts (s.goOn x) := 
  ⟨.onBus s (fun b => { b with state := .inFlight x }), fun _ => rfl⟩

theorem State.SameHosts.onSlot (s : State) (i : SlotId) (f : Slot → Slot) : s.SameHosts (s.onSlot i f) :=
  .sameBus (by constructor <;> rfl) rfl

theorem State.SameHosts.leaveSequencers (s : State) (i : SlotId) : s.SameHosts (s.leaveSequencers i) := by
  refine ⟨by constructor <;> rfl, fun hs => ?_⟩
  unfold State.arbiterLaw State.leaveSequencers at *
  simp only
  split
  next hb =>
    simp only [hb, Bool.and_eq_true, Option.isNone_iff_eq_none] at hs
    obtain ⟨⟨hA, hB⟩, hI⟩ := hs
    simp [hA, hB, hI]
  next => rfl
  next => rfl

theorem State.SameHosts.queueForPower (s : State) (i : SlotId) : s.SameHosts (s.queueForPower i) :=
  .sameBus (by constructor <;> rfl) rfl

theorem State.SameHosts.rampFrom (w : List SlotId) (s : State) : s.SameHosts (rampFrom w s).1 := by
  induction w generalizing s with
  | nil => exact .sameBus (by constructor <;> rfl) rfl
  | cons i rest ih =>
    unfold Machine.rampFrom
    simp only
    split
    next =>
      exact State.SameHosts.trans (t := { s with powerWait := rest }.onSlot i (Slot.fail .overcurrent))
        (.sameBus (by constructor <;> rfl) rfl) (ih _)
    next => exact .sameBus (by constructor <;> rfl) rfl

theorem State.SameHosts.rampCheck (s : State) : s.SameHosts s.rampCheck.1 := by
  unfold State.rampCheck
  split
  next => exact .refl s
  next => exact .rampFrom _ s

end

theorem State.SameHosts.runs {s t : State} (h : s.SameHosts t) : Runs s t := .single (.elsewhere h)

section
variable {s : State} {l : Link} {j : Job}

/-! Conditions and replies -/

theorem HostRuns.raiseBoth (s : State) (c : Condition) : HostRuns s (s.raiseBoth c) :=
  .head (.raise s .A c) (.single (.raise _ .B c))

theorem HostRuns.raiseFaults (s : State) (is : List SlotId) : HostRuns s (s.raiseFaults is) := by
  induction is generalizing s with
  | nil => exact .refl
  | cons i is ih => exact (HostRuns.raiseBoth s (.fault i)).trans (ih _)

theorem Runs.raiseBoth (s : State) (c : Condition) : Runs s (s.raiseBoth c) := (HostRuns.raiseBoth s c).toRuns

theorem Runs.raiseFaults (s : State) (is : List SlotId) : Runs s (s.raiseFaults is) := (HostRuns.raiseFaults s is).toRuns

theorem HostRuns.reply (h : (s.link l).replies < Config.replyPlaces) (code : Nat) (r : ReplyCode) (items : List Item) :
    HostRuns s (s.reply l code r items) := .single (.reply s l code r items h)

/-- A reply behind a change that leaves the replies of its link. -/
theorem HostRuns.tailReply {t : State} (ht : HostRuns s t) (h : (s.link l).replies < Config.replyPlaces)
    (hr : (t.link l).replies = (s.link l).replies) (code : Nat) (r : ReplyCode) (items : List Item) :
    HostRuns s (t.reply l code r items) :=
  ht.tail (.reply t l code r items (hr ▸ h))

theorem Runs.reply (h : (s.link l).replies < Config.replyPlaces) (code : Nat) (r : ReplyCode) (items : List Item) :
    Runs s (s.reply l code r items) := (HostRuns.reply h code r items).toRuns

theorem Runs.tailReply {t : State} (ht : Runs s t) (h : (s.link l).replies < Config.replyPlaces)
    (hr : (t.link l).replies = (s.link l).replies) (code : Nat) (r : ReplyCode) (items : List Item) :
    Runs s (t.reply l code r items) :=
  ht.tail (.host (.reply t l code r items (hr ▸ h)))

theorem LaneFrame.repliesEq {t : State} (h : LaneFrame s t) (l : Link) : (t.link l).replies = (s.link l).replies := by
  simp only [LinkState.replies, List.countP_eq_length_filter, (h.link l).replies]

theorem LinkState.replies_emptyQueues (x : LinkState) : x.emptyQueues.replies < Config.replyPlaces := by
  have hle : x.emptyQueues.replies ≤ 1 :=
    List.countP_le_length.trans ((List.length_take_le _ _).trans (by split <;> simp))
  exact Nat.lt_of_le_of_lt hle (by decide)

/-! Pause and resume beside a reply (R64, R65, R74, R75) -/

theorem LinkState.onHead_onHead (f g : Job → Job) (x : LinkState) : (x.onHead f).onHead g = x.onHead (fun j => g (f j)) := by
  cases h : x.live with
  | nil => simp [LinkState.onHead, h]
  | cons j js => simp [LinkState.onHead, h]

theorem LinkState.push_onHead (e : Entry) (f : Job → Job) (x : LinkState) : (x.onHead f).push e = (x.push e).onHead f := by
  cases h : x.live with
  | nil => simp [LinkState.onHead, LinkState.push, h]
  | cons j js => simp [LinkState.onHead, LinkState.push, h]

theorem State.onJob_onJob (s : State) (l : Link) (f g : Job → Job) :
    (s.onJob l f).onJob l g = s.onJob l (fun j => g (f j)) :=
  (State.onLink_onLink s l _ _).trans (State.onLink_congr (LinkState.onHead_onHead f g _))

theorem State.onJob_reply (s : State) (l : Link) (f : Job → Job) (code : Nat) (r : ReplyCode) (items : List Item) :
    (s.onJob l f).reply l code r items = (s.reply l code r items).onJob l f := by
  rw [State.reply, State.onJob, State.reply, State.onJob, State.onLink_onLink, State.onLink_onLink]
  exact State.onLink_congr (LinkState.push_onHead _ f _)

theorem State.onJob_withdrawWait (s : State) (l : Link) (f : Job → Job) :
    (s.onJob l f).withdrawWait l = (s.withdrawWait l).onJob l f := by cases l <;> rfl

theorem State.onJob_withdrawAll (s : State) (l : Link) (f : Job → Job) :
    (s.onJob l f).withdrawAll l = (s.withdrawAll l).onJob l f := by cases l <;> rfl

@[simp] theorem State.reply_activeJob (s : State) (l m : Link) (code : Nat) (r : ReplyCode) (items : List Item) :
    (s.reply l code r items).activeJob m = s.activeJob m := by
  refine State.activeJob_congr ?_
  by_cases h : m = l
  · subst h; simp [State.reply, LinkState.push]
  · rw [State.reply, State.onLink_ne _ h]

/-- A cause gained while RUNNING, and the pause that follows it. -/
theorem LaneRuns.pauseRunning (h : s.activeJob l = some j) {f : Job → Job} (htag : (f j).tag = j.tag)
    (hstate : (f j).state = .running) (hcause : (f j).causeHost = true ∨ (f j).causeLatch = true)
    (hplace : (f j).placeLaw = j.placeLaw) : LaneRuns s ((s.onJob l f).pauseRunning l) := by
  have hkeeps : ∀ st : JobState, st = .pausing ∨ st = .paused → ∀ hold n,
      j.Keeps (({ f j with state := st, holdTimer := hold } : Job).retime n) := fun st hst hold n =>
    ⟨htag, by rcases hst with rfl | rfl <;> simp [Job.retime],
      fun _ => by simpa [Job.causesLaw_iff, Job.retime, hst] using hcause, fun hp => (hplace ▸ hp :)⟩
  unfold State.pauseRunning
  split
  next =>
    rw [State.onJob_withdrawWait, State.onTimedJob_eq, State.onJob_onJob]
    exact .head (.unwait s l) (.single (.head _ l _ (j := j) ((State.activeJob_congr (by simp)).trans h)
      (hkeeps _ (.inl rfl) _ _)))
  next =>
    have hactive : (s.onJob l f).activeJob l = some (f j) := State.activeJob_onJob h (by simp [hstate])
    simp only [State.enterPaused, hactive]
    rw [State.onJob_withdrawAll, State.onTimedJob_eq, State.onJob_onJob]
    have hw : (s.withdrawAll l).activeJob l = some j := (State.withdrawAll_activeJob s l).trans h
    have hk := hkeeps .paused (.inr rfl)
      (if (f j).causeHost then holdStart ((s.onJob l f).link l).holdLimit else .stopped)
      (((s.withdrawAll l).onJob l f).link l).timeout
    refine ((LaneRuns.withdrawAll s l).tail (.head _ l _ hw hk)).tail (.offer _ l _ ?_)
    exact State.live_ne_nil (State.activeJob_onJob hw hk.active)

/-- The last cause lost while PAUSING or PAUSED, and the resumption that follows it. -/
theorem LaneRuns.resumeJob (h : s.activeJob l = some j) {f : Job → Job} (htag : (f j).tag = j.tag)
    (hstate : (f j).state ≠ .queued) (hhost : (f j).causeHost = false) (hlatch : (f j).causeLatch = false)
    (hplace : (f j).placeLaw = j.placeLaw) : LaneRuns s ((s.onJob l f).resumeJob l) := by
  have hactive : (s.onJob l f).activeJob l = some (f j) := State.activeJob_onJob h hstate
  have hkeeps : ∀ n, j.Keeps (({ f j with state := .running, holdTimer := .stopped } : Job).retime n) := fun n =>
    ⟨htag, by simp [Job.retime], fun _ => by simp [Job.causesLaw_iff, Job.retime, hhost, hlatch],
      fun hp => (hplace ▸ hp :)⟩
  simp only [State.resumeJob, hactive]
  rw [State.onTimedJob_eq, State.onJob_onJob]
  split
  next =>
    exact (LaneAction.head s l _ h (hkeeps _)).runs.tail
      (.offer _ l _ (State.live_ne_nil (State.activeJob_onJob h (hkeeps _).active)))
  next => exact (LaneAction.head s l _ h (hkeeps _)).runs

/-! The same in a list with an active job behind its head, which no run reaches -/

theorem LinkState.tailQueued_onHead (f : Job → Job) (x : LinkState) : (x.onHead f).tailQueued = x.tailQueued := by
  cases h : x.live with
  | nil => simp [LinkState.onHead, h]
  | cons j js => simp [LinkState.onHead, LinkState.tailQueued, h]

theorem State.tailQueued_onJob (s : State) (l : Link) (f : Job → Job) :
    ((s.onJob l f).link l).tailQueued = (s.link l).tailQueued := by
  rw [State.onJob, State.onLink_link, LinkState.tailQueued_onHead]

theorem LaneRuns.stray {f : Job → Job} (h : (s.link l).tailQueued = false) (k : ∀ j, (f j).placeLaw = j.placeLaw) :
    LaneRuns s (s.onJob l f) := .single (.stray s l f h k)

theorem LaneRuns.pauseRunning_stray (h : (s.link l).tailQueued = false) : LaneRuns s (s.pauseRunning l) := by
  unfold State.pauseRunning
  split
  next =>
    rw [State.onTimedJob_eq]
    exact .head (.unwait s l) (LaneRuns.stray (by simpa using h) fun _ => rfl)
  next =>
    cases hj : s.activeJob l with
    | none => rw [State.enterPaused, hj]
    | some j =>
      simp only [State.enterPaused, hj]
      rw [State.onTimedJob_eq]
      refine ((LaneRuns.withdrawAll s l).trans (LaneRuns.stray ?_ fun _ => by rfl)).tail (.offer _ l _ ?_)
      · simpa [State.withdrawAll] using h
      · exact State.live_ne_nil (State.activeJob_onJob ((State.withdrawAll_activeJob s l).trans hj) (by simp [Job.retime]))

theorem LaneRuns.resumeJob_stray (h : (s.link l).tailQueued = false) : LaneRuns s (s.resumeJob l) := by
  cases hj : s.activeJob l with
  | none => rw [State.resumeJob, hj]
  | some j =>
    simp only [State.resumeJob, hj]
    rw [State.onTimedJob_eq]
    have hrun := LaneRuns.stray (f := fun j => ({ j with state := .running, holdTimer := .stopped } : Job).retime
      (s.link l).timeout) h fun _ => rfl
    split
    next => exact hrun.tail (.offer _ l _ (State.live_ne_nil (State.activeJob_onJob hj (by simp [Job.retime]))))
    next => exact hrun

end

end Sys2Proof.Machine
end

section
/-! PROOFS. Every command is a run of actions: the requests at their owners, hand-off and arriving frames, the events of
slots, bus, timers and latch, and the resets. -/

namespace Sys2Proof.Machine

section
variable {s : State} {l : Link} {j : Job}

/-! Teardown and link reset (R170, R171) -/

theorem LaneRuns.freeBufsIf (c : Prop) [Decidable c] (s : State) (bs : List BufId) :
    LaneRuns s (if c then s.freeBufs bs else s) := by
  split
  next => exact LaneRuns.freeBufs s bs
  next => exact .refl

theorem HostRuns.teardown (s : State) (l : Link) : HostRuns s (s.teardown l) :=
  (((LaneRuns.withdrawAll s l).toHost.tail (.closing _ l (s.bus.laneInFlight l))).trans
    (LaneRuns.freeBufs _ (s.link l).removedBuffers).toHost).trans (LaneRuns.freeBufsIf _ _ _).toHost

theorem LaneFrame.freeBufsIf (c : Prop) [Decidable c] (s : State) (bs : List BufId) :
    LaneFrame s (if c then s.freeBufs bs else s) := by
  split
  next => exact LaneFrame.freeBufs s bs
  next => exact LaneFrame.refl s

/-- What a teardown leaves at its link, but for the handing out of buffers. -/
theorem State.teardown_frame (s : State) (l : Link) :
    LaneFrame (((s.withdrawAll l).onLink l (LinkState.closeSession (s.bus.laneInFlight l))).freeWindows l)
      (s.teardown l) :=
  (LaneFrame.freeBufs _ (s.link l).removedBuffers).trans (LaneFrame.freeBufsIf _ _ _)

theorem State.teardown_replies (s : State) (l : Link) : ((s.teardown l).link l).replies < Config.replyPlaces := by
  rw [(State.teardown_frame s l).repliesEq l, State.freeWindows_link, State.onLink_link]
  exact LinkState.replies_emptyQueues _

theorem HostRuns.linkReset (s : State) (l : Link) (c : ResetCause) : HostRuns s (s.linkReset l c) := by
  have hsettle : ∀ t : State, (t.link l).replies < Config.replyPlaces → HostRuns t
      (((t.onLink l (fun x => { x with framer := .hunt, gapTimer := .stopped })).hello l c).settle l.other) :=
    fun t ht => ((HostAction.hunt t l).runs.tail (.hello _ l c (by rw [State.onLink_link]; exact ht))).trans
      (LaneRuns.settle _ _).toHost
  unfold State.linkReset
  simp only
  split
  next h =>
    refine Relation.ReflTransGen.trans (.head (.emptying s l h) (LaneRuns.freeBufs _ _).toHost) (hsettle _ ?_)
    rw [(LaneFrame.freeBufs _ _).repliesEq l, State.onLink_link]
    exact LinkState.replies_emptyQueues _
  next => exact (HostRuns.teardown s l).trans (hsettle _ (State.teardown_replies s l))

/-! The slots' sequencers (R106, R107) -/

theorem Runs.rampStep (s : State) : Runs s s.rampStep :=
  (State.SameHosts.rampCheck s).runs.trans (Runs.raiseFaults _ _)

theorem Runs.faultSlot (s : State) (i : SlotId) (k : FaultKind) : Runs s (s.faultSlot i k) :=
  (State.SameHosts.onSlot s i _).runs.trans (Runs.raiseBoth _ _)

/-! Sessions and conditions at their owners (R147 to R149, R168 to R172) -/

variable (hr : (s.link l).replies < Config.replyPlaces)
include hr

theorem HostRuns.takeOpen (d h : Option Nat) : HostRuns s (s.takeOpen l d h) := by
  unfold State.takeOpen
  split
  next => exact HostRuns.reply hr _ _ _
  next =>
    split
    next => exact HostRuns.tailReply (HostAction.opening s l _ _).runs hr (by simp [LinkState.replies, LinkState.opening,
        LinkState.clearConditions]) _ _ _
    next => exact HostRuns.reply hr _ _ _

omit hr in
theorem HostRuns.takeClose (s : State) (l : Link) : HostRuns s (s.takeClose l) :=
  ((HostRuns.teardown s l).tail (.reply _ l 0x11 .ok [] (State.teardown_replies s l))).trans (LaneRuns.settle _ _).toHost

theorem HostRuns.takeRstp (hc : (s.link l).session ≠ .closed) : HostRuns s (s.takeRstp l) :=
  (HostRuns.reply hr _ _ _).tail (.rstp _ l (by simpa [State.reply, LinkState.push] using hc))

theorem HostRuns.takeNsub (hc : (s.link l).session ≠ .closed) (w : Word) : HostRuns s (s.takeNsub l w) := by
  by_cases hw : w >>> 25 = 0
  · rw [State.takeNsub_of_inside hw]
    exact .single (.subscribe s l _ hr hc)
  · rw [State.takeNsub_of_outside hw]
    exact HostRuns.reply hr _ _ _

theorem HostRuns.takeNack (hc : (s.link l).session ≠ .closed) (w : Word) : HostRuns s (s.takeNack l w) := by
  unfold State.takeNack
  split
  next => exact HostRuns.reply hr _ _ _
  next => exact HostRuns.tailReply (HostAction.acknowledge s l _ hc).runs hr (by simp [LinkState.replies]) _ _ _

/-! Windows at their owner (R81 to R87) -/

omit hr in
theorem windowOfArgs_owner {a : WsetArgs} {w : Window} (h : windowOfArgs l a = some w) : w.owner = l := by
  unfold windowOfArgs at h
  split at h
  next =>
    simp only at h
    split at h
    next => exact Option.some.inj h ▸ rfl
    next => cases h
  next => cases h

theorem HostRuns.takeWset (hc : (s.link l).session ≠ .closed) (a : WsetArgs) : HostRuns s (s.takeWset l a) := by
  unfold State.takeWset
  split
  next i w _ hw =>
    split
    next => exact HostRuns.reply hr _ _ _
    next =>
      refine HostRuns.tailReply (HostAction.window s i (some w) fun v hv => ?_).runs hr (by simp) _ _ _
      rwa [← Option.some.inj hv, windowOfArgs_owner hw]
  next => exact HostRuns.reply hr _ _ _

theorem HostRuns.takeWrel (n : Nat) : HostRuns s (s.takeWrel l n) := by
  unfold State.takeWrel
  split
  next => exact HostRuns.reply hr _ _ _
  next i _ =>
    split
    next => exact HostRuns.tailReply (HostAction.window s i none (by simp)).runs hr (by simp) _ _ _
    next => exact HostRuns.reply hr _ _ _

theorem HostRuns.takeWget (n : Nat) : HostRuns s (s.takeWget l n) := by
  unfold State.takeWget
  split
  next => exact HostRuns.reply hr _ _ _
  next => split <;> exact HostRuns.reply hr _ _ _

/-! Slot requests at their owner (R111 to R121) -/

theorem Runs.replySame {t : State} (ht : s.SameHosts t) (code : Nat) (r : ReplyCode) (items : List Item) :
    Runs s (t.reply l code r items) :=
  Runs.tailReply ht.runs hr (by rw [ht.link l]) code r items

theorem Runs.powerUp (i : SlotId) : Runs s (s.powerUp l i) :=
  (Runs.replySame hr ((State.SameHosts.queueForPower s i).trans (.rampCheck _)) _ _ _).trans (Runs.raiseFaults _ _)

theorem Runs.takeSpwrOn (n : Nat) (force : Bool) : Runs s (s.takeSpwrOn l n force) := by
  unfold State.takeSpwrOn
  split
  next i _ =>
    unfold State.spwrOnSlot
    split
    next => exact Runs.powerUp hr i
    all_goals exact Runs.reply hr _ _ _
  next => exact Runs.reply hr _ _ _

omit hr in
theorem State.SameHosts.powerDown (s : State) (i : SlotId) : s.SameHosts (s.powerDown i) :=
  (State.SameHosts.onSlot s i _).trans (.leaveSequencers _ i)

omit hr in
/-- The transfer to a slot that leaves its power is abandoned (R139). -/
theorem Runs.abandonTransfer (s : State) (i : SlotId) (e : ErrorKind) : Runs s (s.abandonTransfer i e) := by
  have hstep := (State.SameHosts.identStep s).runs
  unfold State.abandonTransfer
  split
  next t _ =>
    split
    next =>
      simp only
      split
      next m _ =>
        exact .head (.released (LaneRuns.takeReport _ m _ _) ((State.SameHosts.identStep _).toSameLinks.decided).toSameLinks
          (State.arbiterLaw_decide _)) (LaneRuns.settle _ m).toRuns
      next =>
        have hfree : s.SameLinks (s.setBusState .free) := .onBus s _
        exact hfree.identified.toSameLinks.decided.runs
    next => exact hstep
  next => exact hstep
  next => exact hstep

theorem Runs.takeSpwrOff (n : Nat) (force : Bool) : Runs s (s.takeSpwrOff l n force) := by
  have hdown := fun i => State.SameHosts.powerDown s i
  unfold State.takeSpwrOff
  split
  next => exact Runs.reply hr _ _ _
  next i _ =>
    unfold State.spwrOffSlot
    split
    next => exact Runs.reply hr _ _ _
    next => exact Runs.reply hr _ _ _
    next => exact Runs.replySame hr (hdown i) _ _ _
    next => exact (Runs.replySame hr ((hdown i).trans (.rampCheck _)) _ _ _).trans (Runs.raiseFaults _ _)
    next => exact (Runs.replySame hr (hdown i) _ _ _).trans (Runs.abandonTransfer _ i _)
    next =>
      split
      next =>
        split
        next =>
          refine Runs.replySame hr ?_ _ _ _
          unfold State.forceOff
          split <;> exact .onSlot s i _
        next => exact Runs.reply hr _ _ _
      next => exact Runs.replySame hr (.onSlot s i _) _ _ _
    next => exact Runs.reply hr _ _ _
    next => exact Runs.reply hr _ _ _
    next => exact Runs.reply hr _ _ _

theorem Runs.takeSpwr (n power : Nat) (force : Bool) : Runs s (s.takeSpwr l n power force) := by
  unfold State.takeSpwr
  split
  next => exact Runs.takeSpwrOff hr n force
  next => exact Runs.takeSpwrOn hr n force
  next => exact Runs.reply hr _ _ _

theorem Runs.takeScfg (n v : Nat) : Runs s (s.takeScfg l n v) := by
  unfold State.takeScfg
  split
  next i on _ _ => exact Runs.replySame hr (.onSlot s i _) _ _ _
  next => exact Runs.reply hr _ _ _

theorem Runs.takeSclr (n : Nat) : Runs s (s.takeSclr l n) := by
  unfold State.takeSclr
  split
  next => exact Runs.reply hr _ _ _
  next i _ =>
    split
    next => exact Runs.replySame hr (.onSlot s i _) _ _ _
    next => exact Runs.reply hr _ _ _

theorem Runs.takeSget (n : Nat) : Runs s (s.takeSget l n) := by
  unfold State.takeSget
  split <;> exact Runs.reply hr _ _ _

/-! Job requests at their owner (R2 to R10, R63 to R67) -/

omit hr in
theorem LaneRuns.startIfDue (s : State) (l : Link) : LaneRuns s (s.startIfDue l) := by
  unfold State.startIfDue
  split
  next => exact LaneRuns.settle s l
  next => exact .refl

omit hr in
theorem jobOfArgs_eq_some {a : JsubArgs} {j : Job} :
    jobOfArgs a = some j ↔ ∃ k, jobKindOf a.kind = some k ∧ jsubOk a k = true ∧ j = newJob a k := by
  unfold jobOfArgs
  split
  next h => simp [h]
  next k h =>
    split
    next hok =>
      simp only [Option.some.injEq, h, exists_eq_left', hok, true_and]
      exact eq_comm
    next hno => simp [h, hno]

omit hr in
/-- The first block of a list with a segment. -/
theorem Position.start_standsAt {segs : List Segment} (hne : segs ≠ []) (hpos : ∀ g ∈ segs, 1 ≤ g.blocks) :
    Position.standsAt segs ⟨0, 0, 0⟩ 0 = true := by
  cases segs with
  | nil => exact absurd rfl hne
  | cons g gs => exact (Position.standsAt_iff _ _ _).mpr ⟨g, rfl, hpos g (List.mem_cons_self ..), by simp [totalBlocks]⟩

omit hr in
theorem Job.fresh_of_args {a : JsubArgs} (h : jobOfArgs a = some j) : j.Fresh := by
  obtain ⟨k, -, hok, rfl⟩ := jobOfArgs_eq_some.mp h
  refine ⟨rfl, rfl, Job.placeLaw_iff.mpr ?_⟩
  have hmax : Config.segmentsMax = 16 := rfl
  simp only [jsubOk, listOk, segmentOk, Bool.and_eq_true, Bool.not_eq_true', List.isEmpty_eq_false_iff, hmax,
    List.all_eq_true, decide_eq_true_eq] at hok
  obtain ⟨⟨⟨⟨⟨⟨-, hp, hp16⟩, hd⟩, hps⟩, hds⟩, -⟩, -⟩ := hok
  have hpos : ∀ g ∈ a.primary ++ a.destination, 1 ≤ g.blocks := fun g hg =>
    (List.mem_append.mp hg).elim (fun hg => (hps g hg).1.1.1) (fun hg => (hds g hg).1.1.1)
  have hstart := Position.start_standsAt hp fun g hg => hpos g (List.mem_append_left _ hg)
  by_cases hk : k = .copy
  · simp only [hk, if_true, Bool.and_eq_true, decide_eq_true_eq, Bool.not_eq_true', List.isEmpty_eq_false_iff,
      beq_iff_eq] at hd
    obtain ⟨⟨hne, hd16⟩, hsame⟩ := hd
    exact ⟨hp16, hd16, hpos, rfl, hstart, fun _ => ⟨hsame.symm, Position.start_standsAt hne fun g hg =>
      hpos g (List.mem_append_right _ hg)⟩, fun hne => absurd hk hne⟩
  · have hd' : a.destination = [] := by simpa [hk] using hd
    refine ⟨hp16, ?_, hpos, rfl, hstart, fun h => absurd h hk, fun _ => hd'⟩
    change a.destination.length ≤ 16
    simp [hd']

theorem HostRuns.takeJsub (hc : (s.link l).session ≠ .closed) (a : JsubArgs) : HostRuns s (s.takeJsub l a) := by
  unfold State.takeJsub
  split
  next => exact HostRuns.reply hr _ _ _
  next j hj =>
    simp only
    split
    next => exact HostRuns.reply hr _ _ _
    next hn =>
      split
      next => exact HostRuns.reply hr _ _ _
      next ht =>
        have htags : ∀ k ∈ (s.link l).live, k.tag ≠ j.tag :=
          (LinkState.liveJob_eq_none_iff _ _).mp (Option.not_isSome_iff_eq_none.mp ht)
        exact (HostRuns.tailReply (HostAction.join s l j (Job.fresh_of_args hj) hc (Nat.not_le.mp hn) htags).runs hr
          (by simp [LinkState.replies, LinkState.join]) _ _ _).trans (LaneRuns.startIfDue _ l).toHost

omit hr in
theorem LinkState.replies_onHead (x : LinkState) (f : Job → Job) : (x.onHead f).replies = x.replies := by
  unfold LinkState.onHead
  split <;> rfl

theorem HostRuns.replyOnJob {f : Job → Job} (h : s.activeJob l = some j) (hf : j.Keeps (f j)) (code : Nat) (r : ReplyCode)
    (items : List Item) : HostRuns s ((s.onJob l f).reply l code r items) :=
  HostRuns.tailReply (LaneAction.head s l f h hf).runs.toHost hr
    (by rw [State.onJob, State.onLink_link, LinkState.replies_onHead]) code r items

/-- The job that a request names is the active one, or the list holds an active job behind its head. -/
def State.ActiveOrStray (s : State) (l : Link) (j : Job) : Prop :=
  s.activeJob l = some j ∨ (s.link l).tailQueued = false

omit hr in
theorem State.activeOrStray (h : j ∈ (s.link l).live) (hj : j.state ≠ .queued) : s.ActiveOrStray l j := by
  cases hx : (s.link l).live with
  | nil => simp [hx] at h
  | cons k ks =>
    by_cases hk : j = k
    · exact .inl (State.activeJob_of_live (hk ▸ hx) hj)
    · have hmem : j ∈ ks := by simpa [hx, hk] using h
      refine .inr (Bool.eq_false_iff.mpr fun hq => hj ?_)
      simp only [LinkState.tailQueued, hx, List.tail_cons, List.all_eq_true, beq_iff_eq] at hq
      exact hq j hmem

omit hr in
theorem State.reply_tailQueued (s : State) (l : Link) (code : Nat) (r : ReplyCode) (items : List Item) :
    ((s.reply l code r items).link l).tailQueued = (s.link l).tailQueued := by
  simp [State.reply, LinkState.push, LinkState.tailQueued]

/-- A change of the job that a request names, with the reply. -/
theorem HostRuns.replyNamed (h : s.ActiveOrStray l j) {f : Job → Job} (hf : j.Keeps (f j))
    (hp : ∀ j, (f j).placeLaw = j.placeLaw) (code : Nat) (r : ReplyCode) (items : List Item) :
    HostRuns s ((s.onJob l f).reply l code r items) := by
  rcases h with h | h
  · exact HostRuns.replyOnJob hr h hf code r items
  · rw [State.onJob_reply]
    refine (HostRuns.reply hr _ _ _).trans (LaneRuns.stray ?_ hp).toHost
    rwa [State.reply_tailQueued]

theorem HostRuns.pauseActive (hact : j.state ≠ .queued → s.ActiveOrStray l j) (tag : Nat) :
    HostRuns s (s.pauseActive l tag j) := by
  unfold State.pauseActive
  split
  next => exact HostRuns.reply hr _ _ _
  next => exact HostRuns.reply hr _ _ _
  next hs =>
    simp only [State.replyJob, State.onJob_reply]
    generalize (if s.bus.laneInFlight l then JobState.pausing else .paused) = st
    refine (HostRuns.reply hr 0x51 .ok [.jobTag tag, .jobState (.live st)]).trans ?_
    rcases hact (by simp [hs]) with h | h
    · exact (LaneRuns.pauseRunning (j := j) ((State.reply_activeJob ..).trans h) rfl hs (.inl rfl) rfl).toHost
    · have h' := (State.reply_tailQueued s l 0x51 .ok [.jobTag tag, .jobState (.live st)]).trans h
      exact LaneRuns.toHost ((LaneRuns.stray h' fun _ => by rfl).trans
        (LaneRuns.pauseRunning_stray ((State.tailQueued_onJob _ l _).trans h')))
  next hs =>
    split
    next => exact HostRuns.reply hr _ _ _
    next =>
      exact HostRuns.replyNamed hr (f := fun j => { j with causeHost := true }) (hact (by simp [hs])) ⟨rfl, by simp [hs],
        fun _ => by simp [Job.causesLaw_iff, hs], fun hp => hp⟩ (fun _ => rfl) _ _ _
  next hs =>
    split
    next => exact HostRuns.reply hr _ _ _
    next =>
      exact HostRuns.replyNamed hr (f := fun j => { j with causeHost := true, holdTimer := holdStart (s.link l).holdLimit })
        (hact (by simp [hs])) ⟨rfl, by simp [hs], fun _ => by simp [Job.causesLaw_iff, hs], fun hp => hp⟩
        (fun _ => rfl) _ _ _

theorem HostRuns.withdrawHost (h : s.ActiveOrStray l j) (hs : j.state = .pausing ∨ j.state = .paused) (tag : Nat) :
    HostRuns s (s.withdrawHost l tag j) := by
  have hj : j.state ≠ .queued := by rcases hs with h | h <;> simp [h]
  unfold State.withdrawHost
  split
  next =>
    simp only
    split
    next hl =>
      exact HostRuns.replyNamed hr (f := fun j => { j with causeHost := false, holdTimer := .stopped }) h
        ⟨rfl, hj, fun _ => by simp [Job.causesLaw_iff, hs, hl], fun hp => hp⟩ (fun _ => rfl) _ _ _
    next hl =>
      simp only [State.replyJob, State.onJob_reply]
      refine ((HostRuns.reply hr 0x52 .ok [.jobTag tag, .jobState (.live .running)]).trans ?_).trans
        (LaneRuns.settle _ l).toHost
      rcases h with h | h
      · exact (LaneRuns.resumeJob (j := j) ((State.reply_activeJob ..).trans h) rfl hj rfl (by simpa using hl) rfl).toHost
      · have h' := (State.reply_tailQueued s l 0x52 .ok [.jobTag tag, .jobState (.live .running)]).trans h
        exact LaneRuns.toHost ((LaneRuns.stray h' fun _ => by rfl).trans
          (LaneRuns.resumeJob_stray ((State.tailQueued_onJob _ l _).trans h')))
  next => exact HostRuns.reply hr _ _ _

theorem HostRuns.resumeActive (hact : j.state ≠ .queued → s.ActiveOrStray l j) (tag : Nat) :
    HostRuns s (s.resumeActive l tag j) := by
  unfold State.resumeActive
  split
  next => exact HostRuns.reply hr _ _ _
  next => exact HostRuns.reply hr _ _ _
  next => exact HostRuns.reply hr _ _ _
  next hs => exact HostRuns.withdrawHost hr (hact (by simp [hs])) (.inl hs) tag
  next hs => exact HostRuns.withdrawHost hr (hact (by simp [hs])) (.inr hs) tag

omit hr in
theorem LaneRuns.enterCancelling (h : s.ActiveOrStray l j) : LaneRuns s (s.enterCancelling l) := by
  unfold State.enterCancelling
  rw [State.onTimedJob_eq]
  refine .head (.unwait s l) ?_
  rcases h with h | h
  · refine .single (.head _ l _ (j := j) ((State.activeJob_congr (by simp)).trans h) ?_)
    exact ⟨rfl, by simp [Job.retime], fun _ => by simp [Job.causesLaw_iff, Job.retime], fun hp => hp⟩
  · exact LaneRuns.stray (by simpa using h) fun _ => by rfl

omit hr in
theorem State.activeOrStray_reply (h : s.ActiveOrStray l j) (code : Nat) (r : ReplyCode) (items : List Item) :
    (s.reply l code r items).ActiveOrStray l j :=
  h.imp ((State.reply_activeJob s l l code r items).trans ·) ((State.reply_tailQueued s l code r items).trans ·)

theorem HostRuns.cancelNow (tag : Nat) : HostRuns s (s.cancelNow l tag) :=
  (HostRuns.reply hr _ _ _).trans (LaneRuns.toHost ((LaneRuns.endJob _ l _).trans (LaneRuns.settle _ l)))

theorem HostRuns.cancelQueued (hc : (s.link l).session ≠ .closed) (h : j ∈ (s.link l).live) :
    HostRuns s (s.cancelQueued l j) := by
  have hdrop := HostRuns.tailReply
    (HostAction.dropQueued s l j ⟨j.tag, j.kind, .cancelled, 0, 0, none⟩ h rfl).runs hr
    (by simp [LinkState.replies, LinkState.dropQueued]) 0x53 .ok [.jobTag j.tag, .jobState .ended]
  refine (hdrop.tail (.offer _ l (.jobEnded j.tag .cancelled 0 0 none) ?_)).trans (LaneRuns.startIfDue _ l).toHost
  simpa [State.reply, LinkState.push, LinkState.dropQueued] using hc

theorem HostRuns.cancelLive (hc : (s.link l).session ≠ .closed) (h : j ∈ (s.link l).live) (tag : Nat) : HostRuns s (s.cancelLive l tag j) := by
  unfold State.cancelLive
  split
  next => exact HostRuns.cancelQueued hr hc h
  next hs =>
    split
    next =>
      exact (HostRuns.reply hr _ _ _).trans (LaneRuns.enterCancelling
        (State.activeOrStray_reply (State.activeOrStray h (by simp [hs])) _ _ _)).toHost
    next => exact HostRuns.cancelNow hr tag
  next hs =>
    exact (HostRuns.reply hr _ _ _).trans (LaneRuns.enterCancelling
      (State.activeOrStray_reply (State.activeOrStray h (by simp [hs])) _ _ _)).toHost
  next => exact HostRuns.cancelNow hr tag
  next => exact HostRuns.reply hr _ _ _

theorem HostRuns.forJob (code tag : Nat) {f : Job → State} (hf : ∀ j ∈ (s.link l).live, HostRuns s (f j)) :
    HostRuns s (s.forJob l code tag f) := by
  unfold State.forJob
  split
  next => exact HostRuns.reply hr _ _ _
  next j hj => exact hf j (List.mem_of_find?_eq_some hj)

theorem HostRuns.takeJpau (tag : Nat) : HostRuns s (s.takeJpau l tag) :=
  HostRuns.forJob hr _ _ fun _ hj => HostRuns.pauseActive hr (State.activeOrStray hj) tag

theorem HostRuns.takeJres (tag : Nat) : HostRuns s (s.takeJres l tag) :=
  HostRuns.forJob hr _ _ fun _ hj => HostRuns.resumeActive hr (State.activeOrStray hj) tag

theorem HostRuns.takeJcan (hc : (s.link l).session ≠ .closed) (tag : Nat) : HostRuns s (s.takeJcan l tag) :=
  HostRuns.forJob hr _ _ fun _ hj => HostRuns.cancelLive hr hc hj tag

theorem HostRuns.takeJget (tag : Nat) : HostRuns s (s.takeJget l tag) := by
  unfold State.takeJget
  split <;> exact HostRuns.reply hr _ _ _

theorem Runs.takeRequest {r : Request} (hc : (s.link l).session = .closed → takenClosed r.code = true) :
    Runs s (s.takeRequest l r) := by
  have hopen : takenClosed r.code = false → (s.link l).session ≠ .closed := fun h hs => by simp [hc hs] at h
  cases r with
  | openSession d h => exact (HostRuns.takeOpen hr d h).toRuns
  | closeSession => exact (HostRuns.takeClose s l).toRuns
  | rstl => exact (HostRuns.linkReset s l _).toRuns
  | rstp => exact (HostRuns.takeRstp hr (hopen rfl)).toRuns
  | nsub m => exact (HostRuns.takeNsub hr (hopen rfl) m).toRuns
  | nack c => exact (HostRuns.takeNack hr (hopen rfl) c).toRuns
  | nget => exact Runs.reply hr _ _ _
  | wset a => exact (HostRuns.takeWset hr (hopen rfl) a).toRuns
  | wrel n => exact (HostRuns.takeWrel hr n).toRuns
  | wget n => exact (HostRuns.takeWget hr n).toRuns
  | spwr n p f => exact Runs.takeSpwr hr n p f
  | scfg n v => exact Runs.takeScfg hr n v
  | sclr n => exact Runs.takeSclr hr n
  | sget n => exact Runs.takeSget hr n
  | jsub a => exact (HostRuns.takeJsub hr (hopen rfl) a).toRuns
  | jpau t => exact (HostRuns.takeJpau hr t).toRuns
  | jres t => exact (HostRuns.takeJres hr t).toRuns
  | jcan t => exact (HostRuns.takeJcan hr (hopen rfl) t).toRuns
  | jget t => exact (HostRuns.takeJget hr t).toRuns
  | jlst => exact Runs.reply hr _ _ _

end

end Sys2Proof.Machine
end

section
/-! PROOFS. Every command is a run of actions, continued: hand-off and arriving frames, the end of a transmission, the
events of slots, bus, timers and latch, and the resets; then the step itself. -/

namespace Sys2Proof.Machine

section
variable {s : State} {l : Link} {j : Job}

/-! Hand-off (R164) -/

/-- A payload is read as a request of its own code. -/
theorem requestOf_code {code : Nat} {items : List RawItem} {r : Request} (h : requestOf code items = some r) :
    r.code = code := by
  unfold requestOf at h
  split at h <;> cases h <;> rfl

theorem parseRequest_code {code : Nat} {payload : List Byte} {r : Request} (h : parseRequest code payload = some r) :
    r.code = code := by
  unfold parseRequest at h
  split at h
  next => cases h
  next =>
    split at h
    next => exact requestOf_code h
    next => cases h

theorem Runs.takePayload (hr : (s.link l).replies < Config.replyPlaces) {code : Nat}
    (hc : (s.link l).session = .closed → takenClosed code = true) (payload : List Byte) :
    Runs s (s.takePayload l code payload) := by
  unfold State.takePayload
  split
  next => exact Runs.reply hr _ _ _
  next r h => exact Runs.takeRequest hr fun hs => parseRequest_code h ▸ hc hs

theorem Runs.answer (hr : (s.link l).replies < Config.replyPlaces) {code : Nat} {owner : State → State}
    (h : ((s.link l).session = .closed → takenClosed code = true) → Runs s (owner s)) :
    Runs s (s.answer l code owner) := by
  unfold State.answer
  split
  next => exact Runs.reply hr _ _ _
  next hno => exact h fun hs => by simpa [hs] using hno

theorem Runs.serve (hr : (s.link l).replies < Config.replyPlaces) (f : ReqFrame) : Runs s (s.serve l f) := by
  unfold State.serve
  split
  next => exact Runs.answer hr fun hc => Runs.takePayload hr hc _
  next => exact Runs.reply hr _ _ _

theorem LinkState.canHandOn_iff {x : LinkState} :
    x.canHandOn = true ↔ x.replies < Config.replyPlaces ∧ x.session ≠ .resetPending := by
  simp [LinkState.canHandOn]

theorem Runs.handOff (s : State) (l : Link) : Runs s (s.handOff l) := by
  unfold State.handOff
  split
  next => exact .refl
  next f rest h =>
    split
    next hc =>
      refine .head (.host (.handOn s l f rest h)) (Runs.serve ?_ f)
      rw [State.onLink_link]
      exact (LinkState.canHandOn_iff.mp hc).1
    next => exact .refl

/-! Arriving frames (R42, R43, R162, R163) -/

theorem Runs.requestArrives (s : State) (l : Link) (f : ReqFrame) : Runs s (s.requestArrives l f) := by
  unfold State.requestArrives
  split
  next => exact .refl
  next =>
    split
    next h => exact .head (.host (.intake s l f h)) (Runs.handOff _ l)
    next => exact .single (.host (.raise s l _))

theorem HostRuns.placeBlock (s : State) (l : Link) (j : Job) (bytes : List Byte) : HostRuns s (s.placeBlock l j bytes) := by
  unfold State.placeBlock
  split
  next => exact .refl
  next b hb =>
    have hold := State.holds_of_findUse hb
    split
    next => exact LaneRuns.toHost (.single (.free s b))
    next =>
      split
      next => exact LaneRuns.toHost (.single (.empty s l b hold))
      next =>
        refine .head (.lane (.use s l b _ hold)) (.single (.bytes _ b _ fun h => ?_))
        exact Memory.wf_load (by simpa using h) bytes

theorem Job.keeps_consume (hj : j.state ≠ .queued) (n : Nat) : j.Keeps (j.consume.retime n) :=
  .of_same hj rfl rfl rfl rfl

theorem HostRuns.dataArrives (s : State) (l : Link) (tag : Byte) (payload : List Byte) :
    HostRuns s (s.dataArrives l tag payload) := by
  have hfatal : ∀ e, HostRuns s ((s.fatalError l e).settle l) := fun e =>
    LaneRuns.toHost ((LaneRuns.fatalError s l e).trans (LaneRuns.settle _ l))
  unfold State.dataArrives
  split
  next => exact .single (.raise s l _)
  next j h =>
    split
    next => exact .single (.raise s l _)
    next =>
      split
      next => exact .single (.raise s l _)
      next =>
        split
        next => exact hfatal _
        next =>
          split
          next => exact hfatal _
          next =>
            exact ((LaneRuns.onTimedJob h (Job.keeps_consume (State.active_ne_queued h) _)).toHost.trans
              (HostRuns.placeBlock _ l j _)).trans (LaneRuns.settle _ l).toHost

theorem HostRuns.discardFrame (s : State) (l : Link) : HostRuns s (s.discardFrame l) :=
  .head (.hunt s l) (.single (.raise _ l _))

theorem Runs.frameArrives (s : State) (l : Link) (kind tag : Byte) (payload : List Byte) :
    Runs s (s.frameArrives l kind tag payload) := by
  refine .head (.host (.hunt s l)) ?_
  unfold State.frameArrives
  simp only
  split
  next => exact Runs.requestArrives _ l _
  next =>
    unfold State.dataFrameArrives
    split
    next => exact (HostRuns.dataArrives _ l _ _).toRuns
    next => exact .refl

theorem Runs.takeByte (s : State) (l : Link) (taken : List Byte) (h : (s.link l).breakDetected = false) :
    Runs s (s.takeByte l taken) := by
  unfold State.takeByte
  split
  next k => exact .single (.host (.inFrame s l taken h k))
  next => exact (HostRuns.discardFrame s l).toRuns
  next => exact Runs.frameArrives s l _ _ _

theorem Runs.characterArrives (s : State) (l : Link) (c : LineChar) : Runs s (s.characterArrives l c) := by
  unfold State.characterArrives
  split
  next => exact .refl
  next h =>
    have hno := Bool.eq_false_iff.mpr h
    split
    next => exact .refl
    next =>
      split
      next => exact Runs.takeByte s l _ hno
      next => exact .refl
    next => exact (HostRuns.discardFrame s l).toRuns
    next => exact Runs.takeByte s l _ hno

theorem Runs.levelsArrive (s : State) (l : Link) (levels : LineLevels) : Runs s (s.levelsArrive l levels) := by
  unfold State.levelsArrive
  split
  next => exact .refl
  next => exact Runs.characterArrives s l _

theorem Runs.wholeFrame (s : State) (l : Link) (kind tag : Byte) (limit : Nat) (payload : List Byte) :
    Runs s (s.wholeFrame l kind tag limit payload) := by
  unfold State.wholeFrame
  split
  next => exact .refl
  next =>
    split
    next => exact (HostRuns.discardFrame s l).toRuns
    next => exact Runs.frameArrives s l _ _ _

/-! The end of a transmission (R165) -/

theorem Entry.isNotice_of_isRstpReply {e : Entry} (h : e.isRstpReply = true) : e.isNotice = false := by
  cases e <;> simp_all [Entry.isRstpReply, Entry.isNotice]

theorem Runs.placeFreed {e : Entry} {es : List Entry} (h : (s.link l).outbound = e :: es) :
    Runs s ((s.onLink l (LinkState.sent es)).placeFreed l e) := by
  cases e with
  | reply => exact .head (.host (.sent s l _ es h rfl)) (Runs.handOff _ l)
  | hello => exact .head (.host (.sent s l _ es h rfl)) (Runs.handOff _ l)
  | notice n =>
    simp only [State.placeFreed, State.onLink_onLink]
    exact .single (.host (.noticeSent s l n es h))
  | data t n k b =>
    exact .head (.host (.sent s l _ es h rfl)) (LaneRuns.toRuns (.head (.free _ b) (LaneRuns.settle _ l)))
  | credit t n =>
    simp only [State.placeFreed]
    split
    next => exact .single (.host (.sent s l _ es h rfl))
    next j _ =>
      rw [State.onLink_onLink]
      exact .single (.host (.creditSent s l t n j.tag es h))

theorem Runs.transmissionEnds (s : State) (l : Link) : Runs s (s.transmissionEnds l) := by
  unfold State.transmissionEnds
  split
  next e es _ h =>
    simp only
    split
    next hr =>
      have hnot : e.isNotice = false := Entry.isNotice_of_isRstpReply (by
        simp only [LinkState.endsRstp, Bool.and_eq_true] at hr
        exact hr.1.1)
      exact .head (.host (.sent s l e es h hnot)) (.single (.partReset _ _))
    next => exact Runs.placeFreed h
  next => exact .refl

/-! Slots (R102 to R122) -/

theorem Runs.presAsserted (s : State) (i : SlotId) : Runs s (s.presAsserted i) := by
  unfold State.presAsserted
  split
  next => exact (State.SameHosts.onSlot s i _).runs
  next => exact .refl

theorem Runs.rampAfter (s : State) (p : SlotPhase) : Runs s (s.rampAfter p) := by
  unfold State.rampAfter
  split
  next => exact Runs.rampStep s
  next => exact .refl

/-- A slot leaves its state and every list, with a condition for both links. -/
theorem Runs.leave (s : State) (i : SlotId) (f : Slot → Slot) (c : Condition) (p : SlotPhase) (e : ErrorKind) :
    Runs s ((((((s.onSlot i f).leaveSequencers i).raiseBoth c).rampAfter p).abandonTransfer i e)) :=
  ((((State.SameHosts.onSlot s i f).trans (.leaveSequencers _ i)).runs.trans (Runs.raiseBoth _ c)).trans
    (Runs.rampAfter _ p)).trans (Runs.abandonTransfer _ i e)

theorem Runs.presDeasserted (s : State) (i : SlotId) : Runs s (s.presDeasserted i) := by
  unfold State.presDeasserted
  split
  next => exact .refl
  next => exact (State.SameHosts.onSlot s i _).runs
  all_goals exact Runs.leave s i _ _ _ _

theorem Runs.settleExpires (s : State) (i : SlotId) : Runs s (s.settleExpires i) := by
  have hin := (State.SameHosts.onSlot s i (Slot.enter .present)).runs.trans (Runs.raiseBoth _ (.inserted i))
  unfold State.settleExpires
  simp only
  split
  next => exact (hin.trans (State.SameHosts.queueForPower _ i).runs).trans (Runs.rampStep _)
  next => exact hin

theorem Runs.rampExpires (s : State) (i : SlotId) : Runs s (s.rampExpires i) := by
  have hident : ∀ (t : State) q r, t.SameHosts { t with identQueue := q, ramping := r } := fun _ _ _ =>
    .sameBus (by constructor <;> rfl) rfl
  exact (((State.SameHosts.onSlot s i _).trans (hident _ _ _)).runs.trans (Runs.rampStep _)).trans
    (State.SameHosts.identStep _).runs

theorem Runs.wpAccepted (s : State) (i : SlotId) : Runs s (s.wpAccepted i) := by
  unfold State.wpAccepted
  simp only
  split
  next => exact (State.SameHosts.onSlot s i _).runs
  next => exact (State.SameHosts.onSlot s i _).runs.trans (Runs.raiseBoth _ _)

/-! The module bus (R129 to R138) -/

theorem HostRuns.storeWord (s : State) (x : Transfer) : HostRuns s (s.storeWord x) := by
  unfold State.storeWord
  simp only
  split
  next => exact .single (.identStore s _ fun h => Memory.wf_writes h _ _)
  next b _ _ => exact .single (.bytes s b _ fun h => Memory.wf_writes h _ _)
  next => exact .refl

theorem Runs.identReport (s : State) (i : SlotId) (o : TransferOutcome) : Runs s (s.identReport i o) := by
  have hq : s.SameHosts { s with identQueue := s.identQueue.filter (fun k => k != i) } :=
    .sameBus (by constructor <;> rfl) rfl
  have hfault := fun k => hq.runs.trans (Runs.faultSlot _ i k)
  unfold State.identReport
  simp only
  split
  next => exact hfault _
  next => exact hfault _
  next => exact hfault _
  next =>
    split
    next => exact hfault _
    next => exact (hq.trans (.onSlot _ i _)).runs.trans (Runs.raiseBoth _ _)

theorem Runs.slotEnd (s : State) (i : SlotId) (o : TransferOutcome) : Runs s (s.slotEnd i o) := by
  have hn := fun n => (State.SameHosts.onSlot s i (fun x => { x with noResponse := n }))
  unfold State.slotEnd
  simp only
  split
  next => exact (hn _).runs.trans (Runs.faultSlot _ i _)
  next =>
    split
    next => exact ((hn _).trans (.onSlot _ i _)).runs
    next => exact (hn _).runs

/-- The end of a transfer is taken by the Slot Manager alike whether the bus is FREE by then or not. -/
theorem State.slotEnd_setBusState (s : State) (x : BusState) (i : SlotId) (o : TransferOutcome) :
    (s.setBusState x).slotEnd i o = (s.slotEnd i o).setBusState x := by
  unfold State.slotEnd
  simp only [show ∀ k, (s.setBusState x).slot k = s.slot k from fun _ => rfl]
  split
  next => rfl
  next => split <;> rfl

theorem State.identReport_setBusState (s : State) (x : BusState) (i : SlotId) (o : TransferOutcome) :
    (s.setBusState x).identReport i o = (s.identReport i o).setBusState x := by
  unfold State.identReport
  simp only [show (s.setBusState x).identStore = s.identStore from rfl]
  split
  next => rfl
  next => rfl
  next => rfl
  next => split <;> rfl

theorem Runs.endTransfer (s : State) (x : Transfer) (o : TransferOutcome) : Runs s (s.endTransfer x o) := by
  unfold State.endTransfer
  simp only
  split
  next m _ =>
    rw [State.slotEnd_setBusState]
    exact ((Runs.slotEnd s _ o).tail (.released (LaneRuns.takeReport _ m _ _) (State.SameLinks.onBus _ _)
      (State.arbiterLaw_decide _))).trans (LaneRuns.settle _ m).toRuns
  next =>
    rw [State.identReport_setBusState]
    exact (Runs.identReport s _ o).trans (State.SameLinks.onBus _ (fun b => { b with state := .free })).identified.runs

theorem Runs.goOn (s : State) (x : Transfer) : Runs s (s.goOn x) := (State.SameHosts.goOn s x).runs

theorem Runs.retryOrEnd (s : State) (x : Transfer) (o : TransferOutcome) : Runs s (s.retryOrEnd x o) := by
  unfold State.retryOrEnd
  split
  next => exact Runs.endTransfer s x o
  next => exact Runs.goOn s _

theorem Runs.nextWord (s : State) (x : Transfer) : Runs s (s.nextWord x) := by
  unfold State.nextWord
  split
  next => exact Runs.goOn s _
  next => exact Runs.endTransfer s x _

theorem Runs.takeResponse (s : State) (x : Transfer) : Runs s (s.takeResponse x) := by
  unfold State.takeResponse
  split
  next => exact Runs.endTransfer s x _
  next =>
    split
    next =>
      split
      next => exact (HostRuns.storeWord s x).toRuns.trans (Runs.nextWord _ x)
      next => exact Runs.retryOrEnd s x _
    next =>
      split
      next => exact Runs.retryOrEnd s x _
      next => exact Runs.nextWord s x

theorem Runs.returnGrant (s : State) : Runs s s.returnGrant :=
  (State.SameLinks.onBus s (fun b => { b with state := .free })).decided.runs

theorem Runs.beginTransfer (s : State) (l : Link) (j : Job) (r : BusRequest) : Runs s (s.beginTransfer l j r) := by
  have hgo : ∀ {t : State}, Runs s t → ∀ x, Runs s (t.goOn x) := fun h x => h.trans (Runs.goOn _ x)
  unfold State.beginTransfer
  refine hgo ?_ _
  split
  next => exact .refl
  next b hb =>
    split
    next => exact .refl
    next =>
      refine LaneRuns.toRuns (.single (.use s l b _ ?_))
      unfold State.transferBuffer at hb
      split at hb <;> exact State.holds_of_findUse hb

theorem Runs.laneGrant (s : State) (l : Link) (r : BusRequest) (w : Bool) : Runs s (s.laneGrant l r w) := by
  have hback := (Runs.returnGrant s).trans (LaneRuns.settle _ l).toRuns
  unfold State.laneGrant
  split
  next j _ =>
    simp only
    split
    next b _ _ =>
      split
      next => exact Runs.beginTransfer s l j r
      next e _ =>
        exact (Runs.returnGrant s).trans (LaneRuns.toRuns ((LaneRuns.segmentError _ l _ e).trans (LaneRuns.settle _ l)))
    next => exact hback
  next => exact hback

theorem Runs.grantReaches (s : State) : Runs s s.grantReaches := by
  unfold State.grantReaches
  split
  next => exact .refl
  next => exact .refl
  next => exact Runs.laneGrant s _ _ _
  next i _ =>
    unfold State.identGrant
    split
    next => exact Runs.goOn s _
    next => exact (State.SameLinks.onBus s (fun b => { b with state := .free })).identified.runs

theorem Runs.responseSeen (s : State) : Runs s s.responseSeen := by
  unfold State.responseSeen
  split
  next => exact .refl
  next => exact .refl
  next x _ =>
    split
    next => exact Runs.takeResponse s x
    next => exact .refl

theorem Runs.waitEnds (s : State) : Runs s s.waitEnds := by
  unfold State.waitEnds
  split
  next => exact .refl
  next => exact .refl
  next x _ =>
    split
    next => exact .refl
    next => exact .refl
    next =>
      split
      next => exact Runs.takeResponse s x
      next => exact Runs.goOn s _

theorem Runs.linesReleased (s : State) : Runs s s.linesReleased := by
  unfold State.linesReleased
  split
  next => exact .refl
  next => exact .refl
  next =>
    split
    next => exact Runs.goOn s _
    next => exact .refl

theorem Runs.watchdogExpires (s : State) : Runs s s.watchdogExpires := by
  unfold State.watchdogExpires
  split
  next => exact .refl
  next => exact .refl
  next x _ =>
    split
    next => exact .refl
    next => exact Runs.retryOrEnd s x _

/-! The timers of jobs (R45, R71) -/

theorem LaneRuns.holdExpires (s : State) (l : Link) : LaneRuns s (s.holdExpires l) := by
  unfold State.holdExpires
  split
  next => exact .refl
  next =>
    split
    next => exact (LaneRuns.endJob s l _).trans (LaneRuns.settle _ l)
    next => exact .refl

theorem LaneRuns.dataExpires (s : State) (l : Link) : LaneRuns s (s.dataExpires l) := by
  unfold State.dataExpires
  split
  next => exact .refl
  next =>
    split
    next => exact .refl
    next => exact (LaneRuns.fatalError s l _).trans (LaneRuns.settle _ l)

/-! The bay latch (R73 to R77) -/

theorem LaneRuns.latchPause (s : State) (l : Link) : LaneRuns s (s.latchPause l) := by
  unfold State.latchPause
  split
  next => exact .refl
  next j h =>
    have hj := State.active_ne_queued h
    have hgain : j.state = .pausing ∨ j.state = .paused → LaneRuns s (s.onJob l (fun j => { j with causeLatch := true })) :=
      fun hs => .single (.head s l (fun j => { j with causeLatch := true }) h ⟨rfl, hj,
        fun _ => by simp [Job.causesLaw_iff, hs], fun hp => hp⟩)
    split
    next => exact .refl
    next => exact .refl
    next hs => exact LaneRuns.pauseRunning h (f := fun j => { j with causeLatch := true }) rfl hs (.inr rfl) rfl
    next hs => exact hgain (.inl hs)
    next hs => exact hgain (.inr hs)

theorem LaneRuns.latchResume (h : s.activeJob l = some j) (hs : j.state = .pausing ∨ j.state = .paused) :
    LaneRuns s (s.latchResume l j) := by
  have hj := State.active_ne_queued h
  unfold State.latchResume
  simp only
  split
  next hh =>
    exact .single (.head s l (fun j => { j with causeLatch := false }) h ⟨rfl, hj,
        fun _ => by simp [Job.causesLaw_iff, hs, hh], fun hp => hp⟩)
  next hh =>
    exact LaneRuns.resumeJob h (f := fun j => { j with causeLatch := false }) rfl hj
      (by simpa using hh) rfl rfl

theorem LaneRuns.latchRelease (s : State) (l : Link) : LaneRuns s (s.latchRelease l) := by
  unfold State.latchRelease
  split
  next => exact .refl
  next j h =>
    split
    next => exact .refl
    next => exact .refl
    next => exact .refl
    next hs => exact LaneRuns.latchResume h (.inl hs)
    next hs => exact LaneRuns.latchResume h (.inr hs)

/-- What the Job Scheduler does with a latch report once the latch hold follows it. -/
def State.latchServe (s : State) (a : LatchState) (first : Link) : State :=
  match a with
  | .opened => (s.latchPause .A).latchPause .B
  | .closed => ((s.latchRelease first).latchRelease first.other).settle first

theorem LaneRuns.latchServe (s : State) (a : LatchState) (first : Link) : LaneRuns s (s.latchServe a first) := by
  cases a with
  | opened => exact (LaneRuns.latchPause _ .A).trans (LaneRuns.latchPause _ .B)
  | closed =>
    exact ((LaneRuns.latchRelease _ first).trans (LaneRuns.latchRelease _ first.other)).trans (LaneRuns.settle _ first)

theorem State.latchReport_eq (s : State) (a : LatchState) (first : Link) :
    s.latchReport a first = ({ s with latchHold := a == .opened } : State).latchServe a first := by cases a <;> rfl

theorem HostRuns.raiseAt (s : State) (c : Condition) (atA atB : Bool) : HostRuns s (s.raiseAt c atA atB) := by
  have hA : HostRuns s (if atA then s.onLink .A (LinkState.raise c) else s) := by
    split
    next => exact .single (.raise s .A c)
    next => exact .refl
  unfold State.raiseAt
  simp only
  split
  next => exact hA.tail (.raise _ .B c)
  next => exact hA

/-- Conditions raised before the latch moves are raised alike behind it. -/
theorem State.raiseAt_withLatch (s : State) (a : LatchState) (c : Condition) (atA atB : Bool) :
    ({ ({ s with latch := a, latchDebounce := .stopped } : State).raiseAt c atA atB with
        latchHold := a == LatchState.opened } : State) = (s.raiseAt c atA atB).latched a := by
  cases atA <;> cases atB <;> rfl

theorem State.latchAccepted_eq (s : State) (c : ConditionsFirst) (first : Link) :
    s.latchAccepted c first =
      ((((s.raiseAt (latchOf s.latchPin).condition c.atA c.atB).latched (latchOf s.latchPin)).latchServe
        (latchOf s.latchPin) first).raiseAt (latchOf s.latchPin).condition (!c.atA) (!c.atB)) :=
  congrArg (fun t => t.raiseAt (latchOf s.latchPin).condition (!c.atA) (!c.atB))
    ((State.latchReport_eq _ _ first).trans
      (congrArg (fun t => t.latchServe (latchOf s.latchPin) first) (State.raiseAt_withLatch s _ _ c.atA c.atB)))

theorem Runs.latchAccepted (s : State) (c : ConditionsFirst) (first : Link) : Runs s (s.latchAccepted c first) := by
  rw [State.latchAccepted_eq]
  exact (((HostRuns.raiseAt s _ _ _).toRuns.tail (.latch _ _)).trans (LaneRuns.latchServe _ _ first).toRuns).trans
    (HostRuns.raiseAt _ _ _ _).toRuns

/-! Events and commands -/

theorem Runs.event {f : State → State} (h : Runs s (f s)) : Runs s (event s f) := by
  unfold Machine.event
  split
  next => exact .refl
  next => exact h.tail (.host (.kick _))

theorem Runs.pinEvent {p f : State → State} (hp : s.SameHosts (p s)) (h : Runs (p s) (f (p s))) :
    Runs s (pinEvent s p f) := by
  unfold Machine.pinEvent
  split
  next => exact hp.runs
  next => exact Runs.event (hp.runs.trans h)

theorem Runs.eventIf {c : State → Prop} [DecidablePred c] {f : State → State} (h : ∀ t, Runs t (f t)) :
    Runs s (Machine.event s (fun t => if c t then t else f t)) := by
  refine Runs.event ?_
  split
  next => exact .refl
  next => exact h s

/-- What a command leaves is a run of actions from the state before. -/
def Result.RunsFrom (s : State) (r : Result) : Prop := ∃ t, r = .next t ∧ Runs s t

theorem Result.RunsFrom.next {t : State} (h : Runs s t) : Result.RunsFrom s (.next t) := ⟨t, rfl, h⟩

theorem handed_runs {code : Nat} {owner : State → State}
    (h : (s.link l).replies < Config.replyPlaces → ((s.link l).session = .closed → takenClosed code = true) →
      Runs s (owner s)) : Result.RunsFrom s (handed s l code owner) := by
  refine .next ?_
  split
  next hc =>
    have hr := (LinkState.canHandOn_iff.mp hc).1
    exact Runs.event (Runs.answer hr (h hr))
  next => exact .refl

/-- A request taken only with a session. -/
theorem handed_runs_open {code : Nat} (hcode : takenClosed code = false) {owner : State → State}
    (h : (s.link l).replies < Config.replyPlaces → (s.link l).session ≠ .closed → Runs s (owner s)) :
    Result.RunsFrom s (handed s l code owner) :=
  handed_runs fun hr hc => h hr fun hs => by simp [hc hs] at hcode

/-- Every command's outcome is a next state, reached by a run of actions. -/
theorem exec_runs (c : Instr) (s : State) : Result.RunsFrom s (exec c s) := by
  cases c with
  | openSession l d h => exact handed_runs fun hr _ => (HostRuns.takeOpen hr d h).toRuns
  | closeSession l => exact handed_runs fun _ _ => (HostRuns.takeClose s l).toRuns
  | rstl l => exact handed_runs fun _ _ => (HostRuns.linkReset s l _).toRuns
  | rstp l => exact handed_runs_open rfl fun hr hc => (HostRuns.takeRstp hr hc).toRuns
  | nsub l m => exact handed_runs_open rfl fun hr hc => (HostRuns.takeNsub hr hc m).toRuns
  | nack l c => exact handed_runs_open rfl fun hr hc => (HostRuns.takeNack hr hc c).toRuns
  | nget l => exact handed_runs fun hr _ => Runs.reply hr _ _ _
  | wset l a => exact handed_runs_open rfl fun hr hc => (HostRuns.takeWset hr hc a).toRuns
  | wrel l n => exact handed_runs fun hr _ => (HostRuns.takeWrel hr n).toRuns
  | wget l n => exact handed_runs fun hr _ => (HostRuns.takeWget hr n).toRuns
  | spwrOn l n f => exact handed_runs fun hr _ => Runs.takeSpwrOn hr n f
  | spwrOff l n f => exact handed_runs fun hr _ => Runs.takeSpwrOff hr n f
  | scfg l n v => exact handed_runs fun hr _ => Runs.takeScfg hr n v
  | sclr l n => exact handed_runs fun hr _ => Runs.takeSclr hr n
  | sget l n => exact handed_runs fun hr _ => Runs.takeSget hr n
  | jsub l a => exact handed_runs_open rfl fun hr hc => (HostRuns.takeJsub hr hc a).toRuns
  | jpau l t => exact handed_runs fun hr _ => (HostRuns.takeJpau hr t).toRuns
  | jres l t => exact handed_runs fun hr _ => (HostRuns.takeJres hr t).toRuns
  | jcan l t => exact handed_runs_open rfl fun hr hc => (HostRuns.takeJcan hr hc t).toRuns
  | jget l t => exact handed_runs fun hr _ => (HostRuns.takeJget hr t).toRuns
  | jlst l => exact handed_runs fun hr _ => Runs.reply hr _ _ _
  | unknownRequest l code =>
    refine .next ?_
    split
    next h =>
      rw [Bool.and_eq_true] at h
      exact Runs.event (Runs.reply (LinkState.canHandOn_iff.mp h.1).1 _ _ _)
    next => exact .refl
  | reqFrameArrives l code p => exact .next (Runs.event (Runs.wholeFrame s l _ _ _ _))
  | datFrameArrives l tag p => exact .next (Runs.event (Runs.wholeFrame s l _ _ _ _))
  | frameDiscard l => exact .next (Runs.eventIf fun t => (HostRuns.discardFrame t l).toRuns)
  | gapTimerExpiry l => exact .next (Runs.eventIf fun t => (HostRuns.discardFrame t l).toRuns)
  | breakDetected l => exact .next (Runs.event (.single (.host (.breakDetected s l))))
  | breakEnds l => exact .next (Runs.event (HostRuns.toRuns (.head (.breakEnded s l) (HostRuns.linkReset _ l _))))
  | transmissionEnd l => exact .next (Runs.event (Runs.transmissionEnds s l))
  | powerOnReset r1 r0 => exact .next (.head (.powerOn s r1 r0) (.single (.host (.kick _))))
  | presAssert i => exact .next (Runs.pinEvent (.onSlot s i _) (Runs.presAsserted _ i))
  | presDeassert i => exact .next (Runs.pinEvent (.onSlot s i _) (Runs.presDeasserted _ i))
  | settleTimerExpiry i => exact .next (Runs.eventIf fun t => Runs.settleExpires t i)
  | rampTimerExpiry i => exact .next (Runs.eventIf fun t => Runs.rampExpires t i)
  | trip i a =>
    refine .next (Runs.pinEvent (.onSlot s i _) ?_)
    split
    next => exact Runs.leave _ i _ _ _ _
    next => exact .refl
  | wpPinChange i => exact .next (Runs.pinEvent (.onSlot s i _) (State.SameHosts.onSlot _ i _).runs)
  | wpDebounceExpiry i => exact .next (Runs.eventIf fun t => Runs.wpAccepted t i)
  | baylatchPinChange =>
    exact .next (Runs.pinEvent (.sameBus (by constructor <;> rfl) rfl)
      (State.SameHosts.runs (.sameBus (by constructor <;> rfl) rfl)))
  | latchDebounceExpiry c f => exact .next (Runs.eventIf fun t => Runs.latchAccepted t c f)
  | grant => exact .next (Runs.event (Runs.grantReaches s))
  | wordResponse r md mdp mperr => exact .next (Runs.pinEvent ⟨.onBus s _, id⟩ (Runs.responseSeen _))
  | responseWatchdogExpiry => exact .next (Runs.event (Runs.watchdogExpires s))
  | holdTimerExpiry l => exact .next (Runs.event (LaneRuns.holdExpires s l).toRuns)
  | dataTimerExpiry l => exact .next (Runs.event (LaneRuns.dataExpires s l).toRuns)
  | characterReceived l levels => exact .next (Runs.event (Runs.levelsArrive s l levels))
  | nrstAssert => exact .next (.single (.nrstHeld s))
  | waitTimeEnd => exact .next (Runs.event (Runs.waitEnds s))
  | responseLinesReleased => exact .next (Runs.pinEvent ⟨.onBus s _, id⟩ (Runs.linesReleased _))

/-- A step takes the command at the front of the queue, if one waits. -/
theorem step_eq_next {t : State} (h : step s = .next t) :
    t = s ∨ ∃ c rest, s.pending = c :: rest ∧ exec c { s with pending := rest } = .next t := by
  unfold step at h
  split at h
  next => exact .inl (Host.Outcome.next.inj h).symm
  next c rest hp => exact .inr ⟨c, rest, hp, h⟩

theorem exec_eq_next {c : Instr} {t : State} (h : exec c s = .next t) : Runs s t := by
  obtain ⟨u, hu, hr⟩ := exec_runs c s
  rw [hu] at h
  exact Host.Outcome.next.inj h ▸ hr

theorem Runs.keeps {P : State → Prop} (hact : ∀ {s t}, Action s t → P s → P t) {t : State} (h : Runs s t) (hs : P s) :
    P t := by
  induction h with
  | refl => exact hs
  | tail _ ha ih => exact hact ha ih

/-- A law that says nothing of the queue and that every action keeps is kept by every step. -/
theorem step_keeps {P : State → Prop} (hqueue : ∀ s rest, P s → P { s with pending := rest })
    (hact : ∀ {s t}, Action s t → P s → P t) {t : State} (h : step s = .next t) (hs : P s) : P t := by
  rcases step_eq_next h with rfl | ⟨c, rest, -, he⟩
  · exact hs
  · exact Runs.keeps hact (exec_eq_next he) (hqueue s rest hs)

end

end Sys2Proof.Machine
end

section
/-! PROOFS. What an action does to each link: a few moves of that link alone, with their guards. A law of one link that
each move keeps is kept by every step. -/

namespace Sys2Proof.Machine

/-! Lane actions within their frame -/

theorem LaneAction.frame {s t : State} (h : LaneAction s t) : LaneFrame s t := by
  cases h with
  | free b => exact .freeBuf s b
  | ask l => exact .askBuffer s l
  | empty l b => exact .emptyWriteBuffer s l b
  | use l b u => exact .setHolder s b _
  | unwait l => exact .withdrawWait s l
  | withdraw l => exact .onBus s (.inl (Bus.withdraw_requestIdentify _ l)) (Bus.withdraw_flight _ l)
  | request l r => exact .onBus s (Bus.ask_requestIdentify _ l r) (Bus.ask_flight _ l r)
  | offer l n => exact .offer s l n
  | uncredit l tag => exact .onLink s l fun x => .removeCredit tag x
  | data l tag sequence size b => exact .onLink s l fun x => .push rfl x
  | lane l f => exact .onLink s l fun _ => (by constructor <;> rfl)
  | head l f => exact .onJob s l f
  | stray l f => exact .onJob s l f
  | start l => exact .startJob s l
  | pop l e => exact .onLink s l fun _ => (by constructor <;> rfl)

/-! The moves of one link -/

/-- One move of a link's outbound queue, of what stands beside it for the queue's sake, or of its lane's record, with the
guard under which it is made. -/
inductive QueueMove : LinkState → LinkState → Prop
  | kick (x : LinkState) : QueueMove x x.kick
  /-- A reply or a HELLO joins the outbound queue (R164, R176). -/
  | reply (x : LinkState) (e : Entry) (he : e.isReply = true) (h : x.replies < Config.replyPlaces) : QueueMove x (x.push e)
  | raise (x : LinkState) (c : Condition) : QueueMove x (x.raise c)
  | subscribe (x : LinkState) (mask : ConditionSet) (h : x.replies < Config.replyPlaces) (k : x.session ≠ .closed) :
    QueueMove x (x.subscribe mask)
  | acknowledge (x : LinkState) (left : ConditionSet) (h : x.session ≠ .closed) :
    QueueMove x { x with conditions := left }
  | offer (x : LinkState) (n : Notice) (h : x.session ≠ .closed ∨ x.live ≠ []) : QueueMove x (x.offer n)
  | sent (x : LinkState) (e : Entry) (es : List Entry) (h : x.outbound = e :: es) (k : e.isNotice = false) :
    QueueMove x (x.sent es)
  | noticeSent (x : LinkState) (n : Notice) (es : List Entry) (h : x.outbound = .notice n :: es) :
    QueueMove x (x.sent es).overflowNotice
  | creditSent (x : LinkState) (t n tag : Nat) (es : List Entry) (h : x.outbound = .credit t n :: es) :
    QueueMove x ((x.sent es).pendingCredit tag)
  | offerCredit (x : LinkState) (tag n : Nat) : QueueMove x (x.offerCredit tag n)
  | uncredit (x : LinkState) (tag : Nat) : QueueMove x (x.removeCredit tag)
  | data (x : LinkState) (tag sequence size : Nat) (b : BufId) : QueueMove x (x.push (.data tag sequence size b))
  | lane (x : LinkState) (a : Lane) : QueueMove x (x.withLane a)

/-- One move of a link, with the guard under which it is made. -/
inductive LinkMove : LinkState → LinkState → Prop
  | queue {x y : LinkState} (h : QueueMove x y) : LinkMove x y
  | opening (x : LinkState) (d h : Nat) : LinkMove x (x.opening d h)
  | closing (x : LinkState) (inFlight : Bool) : LinkMove x (x.closeSession inFlight)
  | emptying (x : LinkState) (h : x.session = .closed) : LinkMove x x.emptyQueues
  | rstp (x : LinkState) (h : x.session ≠ .closed) : LinkMove x { x with session := .resetPending, intake := [] }
  | join (x : LinkState) (j : Job) (h : j.Fresh) (hc : x.session ≠ .closed) (hn : x.live.length < Config.liveMax)
    (ht : ∀ k ∈ x.live, k.tag ≠ j.tag) : LinkMove x (x.join j)
  | dropQueued (x : LinkState) (j : Job) (e : HistoryEntry) (h : j ∈ x.live) (k : e.tag = j.tag) :
    LinkMove x (x.dropQueued j e)
  | hunt (x : LinkState) : LinkMove x x.hunt
  | inFrame (x : LinkState) (taken : List Byte) (h : x.breakDetected = false) (k : checkFrame taken = .goOn) :
    LinkMove x (x.inFrame taken)
  | breakDetected (x : LinkState) : LinkMove x { x.hunt with breakDetected := true }
  | breakEnded (x : LinkState) : LinkMove x { x with breakDetected := false }
  | intake (x : LinkState) (f : ReqFrame) (h : x.intake.length < Config.intakeMax) :
    LinkMove x { x with intake := x.intake ++ [f] }
  | handOn (x : LinkState) (f : ReqFrame) (rest : List ReqFrame) (h : x.intake = f :: rest) :
    LinkMove x { x with intake := rest }
  | head (x : LinkState) (f : Job → Job) {j : Job} (h : x.activeJob = some j) (k : j.Keeps (f j)) :
    LinkMove x (x.onHead f)
  | stray (x : LinkState) (f : Job → Job) (h : x.tailQueued = false) (k : ∀ j, (f j).placeLaw = j.placeLaw) :
    LinkMove x (x.onHead f)
  | start (x : LinkState) (j : Job) (js : List Job) (h : x.live = j :: js) (hj : j.state = .queued) :
    LinkMove x (x.onHead (fun j => { j with state := .running }))
  | pop (x : LinkState) (e : HistoryEntry) {j : Job} (h : x.activeJob = some j) (k : e.tag = j.tag) :
    LinkMove x (x.pop e)
  | reset (x : LinkState) : LinkMove x LinkState.reset
  | partReset (x : LinkState) : LinkMove x x.partReset

/-- What happens to one link: a run of moves. -/
abbrev LinkMoves : LinkState → LinkState → Prop := Relation.ReflTransGen LinkMove

theorem LinkMove.moves {x y : LinkState} (h : LinkMove x y) : LinkMoves x y := .single h

section
variable {s t : State} {l : Link}

/-- A change of one link is made of moves at every link, if it is at that link. -/
theorem LinkMoves.onLink {f : LinkState → LinkState} (h : LinkMoves (s.link l) (f (s.link l))) (m : Link) :
    LinkMoves (s.link m) ((s.onLink l f).link m) := by
  by_cases hm : m = l
  · rw [hm, State.onLink_link]; exact h
  · rw [State.onLink_ne s hm]

theorem LinkMoves.onLinks {f : LinkState → LinkState} (h : ∀ x, LinkMove x (f x)) (m : Link) :
    LinkMoves (s.link m) ((s.onLinks f).link m) := by
  rw [State.onLinks_link]
  exact (h _).moves

theorem LinkMoves.of_eq {x y : LinkState} (h : y = x) : LinkMoves x y := h ▸ .refl

/-! The pool's changes of the lanes (R34, R40, R41) -/

theorem LinkMoves.grantCredit (s : State) (l m : Link) : LinkMoves (s.link m) ((s.grantCredit l).link m) := by
  unfold State.grantCredit
  split
  next => exact .refl
  next j h =>
    simp only [State.onTimedJob, State.onLink_onLink]
    refine LinkMoves.onLink ?_ m
    have hkeeps : j.Keeps (({ j with credits := j.credits + 1 } : Job).retime (s.link l).timeout) :=
      .of_same (State.active_ne_queued h) rfl rfl rfl rfl
    have hhead := (LinkMove.head (s.link l)
      (fun j => ({ j with credits := j.credits + 1 } : Job).retime (s.link l).timeout) h hkeeps).moves
    exact (hhead.tail (.queue (.lane _ ⟨_, _, _⟩))).tail (.queue (.offerCredit _ j.tag 1))

theorem State.dropIdleWait_link (s : State) (l m : Link) : (s.dropIdleWait l).link m = s.link m := by
  unfold State.dropIdleWait
  split
  next => rfl
  next => split <;> simp

theorem State.joinWait_link (s : State) (l m : Link) : (s.joinWait l).link m = s.link m := by
  unfold State.joinWait
  split
  next => rfl
  next => cases m <;> rfl

theorem LinkMoves.assign (s : State) (l : Link) (b : BufId) (m : Link) :
    LinkMoves (s.link m) ((s.assign l b).link m) := by
  unfold State.assign
  split
  next => exact .refl
  next =>
    split
    next => exact .of_eq (by simp)
    next => exact .of_eq (by simp)
    next => exact .of_eq (by simp)
    next => exact (LinkMoves.of_eq (by simp)).trans (LinkMoves.grantCredit _ l m)

theorem State.withWaitList_link (s : State) (w : List Link) (m : Link) :
    ({ s with waitList := w } : State).link m = s.link m := by cases m <;> rfl

theorem LinkMoves.giveBuffer (w : List Link) (b : BufId) (s : State) (m : Link) :
    LinkMoves (s.link m) ((giveBuffer w b s).link m) := by
  induction w generalizing s with
  | nil => exact .of_eq (State.withWaitList_link s [] m)
  | cons l rest ih =>
    have hrest : LinkMoves (s.link m) (({ s with waitList := rest } : State).link m) := .of_eq (s.withWaitList_link rest m)
    unfold Machine.giveBuffer
    simp only
    split
    next =>
      have hgiven := hrest.trans (LinkMoves.assign _ l b m)
      split
      next => rw [State.joinWait_link]; exact hgiven
      next => exact hgiven
    next => exact hrest.trans (ih _)

theorem LinkMoves.freeBuf (s : State) (b : BufId) (m : Link) : LinkMoves (s.link m) ((s.freeBuf b).link m) :=
  (LinkMoves.of_eq (by simp)).trans (LinkMoves.giveBuffer _ b (s.setHolder b .free) m)

theorem LinkMoves.emptyWriteBuffer (s : State) (l : Link) (b : BufId) (m : Link) :
    LinkMoves (s.link m) ((s.emptyWriteBuffer l b).link m) := by
  unfold State.emptyWriteBuffer
  split
  next => exact LinkMoves.freeBuf s b m
  next =>
    split
    next =>
      rw [State.dropIdleWait_link]
      exact (LinkMoves.of_eq (by simp)).trans (LinkMoves.grantCredit (s.setHolder b (.lane l .reserved)) l m)
    next => exact LinkMoves.freeBuf s b m

theorem State.startCheck_iff : s.startCheck l = true ↔
    (s.link l).lane.state = .idle ∧ s.latchHold = false ∧ ∃ j js, (s.link l).live = j :: js ∧ j.state = .queued := by
  unfold State.startCheck
  split
  next h => simp [h]
  next j js h => simp [h, and_assoc]

/-! The moves of each action -/

theorem LaneAction.moves (h : LaneAction s t) (m : Link) : LinkMoves (s.link m) (t.link m) := by
  cases h with
  | free b => exact .freeBuf s b m
  | ask l =>
    unfold State.askBuffer
    split
    next => exact .assign s l _ m
    next => exact .of_eq (State.joinWait_link s l m)
  | empty l b => exact .emptyWriteBuffer s l b m
  | use l b u => exact .of_eq (by simp)
  | unwait l => exact .of_eq (by simp)
  | withdraw l => exact .of_eq (by simp)
  | request l r => exact .of_eq (by simp)
  | offer l n hl => exact .onLink (.single (.queue (.offer _ n (.inr hl)))) m
  | uncredit l tag => exact .onLink (.single (.queue (.uncredit _ tag))) m
  | data l tag sequence size b => exact .onLink (.single (.queue (.data _ tag sequence size b))) m
  | lane l f => exact .onLink (.single (.queue (.lane _ _))) m
  | head l f hj hk => exact .onLink (.single (.head _ f hj hk)) m
  | stray l f hq hp => exact .onLink (.single (.stray _ f hq hp)) m
  | start l hc =>
    obtain ⟨-, -, j, js, hx, hj⟩ := State.startCheck_iff.mp hc
    exact .onLink (.head (.start _ j js hx hj) (.single (.queue (.lane _ _)))) m
  | pop l e hj hk => exact .onLink (.single (.pop _ e hj hk)) m

theorem LaneRuns.moves (h : LaneRuns s t) (m : Link) : LinkMoves (s.link m) (t.link m) := by
  induction h with
  | refl => exact .refl
  | tail _ ha ih => exact ih.trans (ha.moves m)

theorem LinkState.replies_reset : LinkState.reset.replies < Config.replyPlaces := by decide

theorem LinkState.replies_partReset (x : LinkState) : x.partReset.replies < Config.replyPlaces :=
  LinkState.replies_emptyQueues x

@[simp] theorem State.blocksReset_link (s : State) (m : Link) : s.blocksReset.link m = s.link m := by
  cases m <;> rfl
@[simp] theorem State.poolReset_link (s : State) (m : Link) : s.poolReset.link m = s.link m := by cases m <;> rfl

/-- A HELLO on both links. -/
theorem State.hellos_link (s : State) (c : ResetCause) (m : Link) :
    ∃ e, e.isReply = true ∧ ((s.hello .A c).hello .B c).link m = (s.link m).push e := by
  cases m
  · refine ⟨.hello c s.latch s.presence, rfl, ?_⟩
    rw [State.hello, State.onLink_ne _ (by decide), State.hello, State.onLink_link]
  · refine ⟨.hello c (s.hello .A c).latch (s.hello .A c).presence, rfl, ?_⟩
    rw [State.hello, State.onLink_link]
    exact congrArg (LinkState.push _) (State.onLink_ne s (l := .A) (by decide) _)

theorem LinkMoves.hellos (s : State) (c : ResetCause) (m : Link) (h : (s.link m).replies < Config.replyPlaces) :
    LinkMoves (s.link m) (((s.hello .A c).hello .B c).link m) := by
  obtain ⟨e, he, heq⟩ := State.hellos_link s c m
  exact heq ▸ (LinkMove.queue (.reply _ e he h)).moves

theorem LinkMoves.hellos_of_reset {u : State} {c : ResetCause} {m : Link} (h : u.link m = LinkState.reset)
    (x : LinkState) : LinkMoves x (((u.hello .A c).hello .B c).link m) := by
  refine .head (.reset x) ?_
  rw [← h]
  exact LinkMoves.hellos u c m (h ▸ LinkState.replies_reset)

theorem HostAction.moves (h : HostAction s t) (m : Link) : LinkMoves (s.link m) (t.link m) := by
  cases h with
  | lane h => exact h.moves m
  | kick => exact .onLinks (fun x => .queue (.kick x)) m
  | reply l code r items h => exact .onLink (.single (.queue (.reply _ _ rfl h))) m
  | raise l c => exact .onLink (.single (.queue (.raise _ c))) m
  | subscribe l mask h k => exact .onLink (.single (.queue (.subscribe _ mask h k))) m
  | acknowledge l left h => exact .onLink (.single (.queue (.acknowledge _ left h))) m
  | window i w h => exact .of_eq (by simp)
  | opening l d h => rw [State.freeWindows_link]; exact .onLink (.single (.opening _ d h)) m
  | closing l b => rw [State.freeWindows_link]; exact .onLink (.single (.closing _ b)) m
  | emptying l h => exact .onLink (.single (.emptying _ h)) m
  | hello l c h => exact .onLink (.single (.queue (.reply _ _ rfl h))) m
  | rstp l h => exact .onLink (.single (.rstp _ h)) m
  | join l j h hc hn ht => exact .onLink (.single (.join _ j h hc hn ht)) m
  | dropQueued l j e h k => exact .onLink (.single (.dropQueued _ j e h k)) m
  | offer l n h => exact .onLink (.single (.queue (.offer _ n (.inl h)))) m
  | hunt l => exact .onLink (.single (.hunt _)) m
  | inFrame l taken h k => exact .onLink (.single (.inFrame _ taken h k)) m
  | breakDetected l => exact .onLink (.single (.breakDetected _)) m
  | breakEnded l => exact .onLink (.single (.breakEnded _)) m
  | intake l f h => exact .onLink (.single (.intake _ f h)) m
  | handOn l f rest h => exact .onLink (.single (.handOn _ f rest h)) m
  | sent l e es h k => exact .onLink (.single (.queue (.sent _ e es h k))) m
  | noticeSent l n es h => exact .onLink (.single (.queue (.noticeSent _ n es h))) m
  | creditSent l c n tag es h => exact .onLink (.single (.queue (.creditSent _ c n tag es h))) m
  | bytes b mem h => exact .of_eq (by simp)
  | identStore mem h => exact .of_eq (by cases m <;> rfl)

theorem Action.moves (h : Action s t) (m : Link) : LinkMoves (s.link m) (t.link m) := by
  cases h with
  | host h => exact h.moves m
  | elsewhere h => exact .of_eq (h.link m)
  | released h k =>
    rw [k.link m]
    exact LaneRuns.moves (s := s.setBusState .free) h m
  | latch a => exact .of_eq (by cases m <;> rfl)
  | partReset c =>
    have hlink : ((s.poolReset.blocksReset).onLinks LinkState.partReset).link m = (s.link m).partReset := by
      rw [State.onLinks_link, State.blocksReset_link, State.poolReset_link]
    refine .head (.partReset _) ?_
    rw [← hlink]
    exact LinkMoves.hellos _ c m (hlink ▸ LinkState.replies_partReset _)
  | powerOn r1 r0 =>
    rw [State.powerOn]
    exact LinkMoves.hellos_of_reset (by cases m <;> rfl) _
  | nrstHeld => cases m <;> exact .single (.reset _)

theorem Runs.moves (h : Runs s t) (m : Link) : LinkMoves (s.link m) (t.link m) := by
  induction h with
  | refl => exact .refl
  | tail _ ha ih => exact ih.trans (ha.moves m)

theorem step_moves (h : step s = .next t) (m : Link) : LinkMoves (s.link m) (t.link m) := by
  rcases step_eq_next h with rfl | ⟨c, rest, -, he⟩
  · exact .refl
  · have := (exec_eq_next he).moves m
    cases m <;> exact this

theorem LinkMoves.keeps {P : LinkState → Prop} (hmove : ∀ {x y}, LinkMove x y → P x → P y) {x y : LinkState}
    (h : LinkMoves x y) (hx : P x) : P y := by
  induction h with
  | refl => exact hx
  | tail _ hm ih => exact hmove hm ih

/-- A law of one link that every move keeps is kept by every step. -/
theorem step_keeps_link {P : LinkState → Prop} (hmove : ∀ {x y}, LinkMove x y → P x → P y) (h : step s = .next t)
    (m : Link) (hs : P (s.link m)) : P (t.link m) := by
  exact LinkMoves.keeps hmove (step_moves h m) hs

end

end Sys2Proof.Machine
end

section
/-! PROOFS. The laws of one link that every step keeps: the limits of its queues (R150, R152, R163, R165), what it holds in
CLOSED (R155, R168, R170), its lists (R5 to R7, R58), its framer (R159, R161), and the places of its jobs (R13). -/

namespace Sys2Proof.Machine

/-! What a move of the queue leaves -/

/-- The session, the framer, the intake and the lists stay as they are. -/
structure LinkState.SameRest (x y : LinkState) : Prop where
  session : y.session = x.session
  dataTimeout : y.dataTimeout = x.dataTimeout
  holdLimit : y.holdLimit = x.holdLimit
  framer : y.framer = x.framer
  gapTimer : y.gapTimer = x.gapTimer
  breakDetected : y.breakDetected = x.breakDetected
  intake : y.intake = x.intake
  live : y.live = x.live
  history : y.history = x.history

section
variable {x y : LinkState} {set : ConditionSet}

theorem LinkState.announce_changes (set : ConditionSet) (x : LinkState) :
    ∃ es k, x.announce set = { x with outbound := es, overflow := k } := by
  cases hmerge : mergeCondition set x.waiting with
  | none => simpa only [LinkState.announce, hmerge] using LinkState.offer_changes (.condition set) x
  | some es => exact ⟨x.sending ++ es, x.overflow, by rw [LinkState.announce, hmerge]⟩

/-- A raise changes the conditions, the outbound queue or the overflow count, and nothing else. -/
theorem LinkState.raise_changes (c : Condition) (x : LinkState) :
    ∃ cs es k, x.raise c = { x with conditions := cs, outbound := es, overflow := k } := by
  unfold LinkState.raise
  split
  · simp only
    split
    · exact ⟨_, x.outbound, x.overflow, rfl⟩
    · obtain ⟨es, k, h⟩ := LinkState.announce_changes c.set { x with conditions := x.conditions ||| c.set }
      exact ⟨_, es, k, h⟩
  · exact ⟨x.conditions, x.outbound, x.overflow, rfl⟩

theorem LinkState.raise_of_not_open {c : Condition} (h : x.session ≠ .opened) : x.raise c = x :=
  if_neg fun hc => h hc.1

theorem LinkState.offerCredit_changes (tag n : Nat) (x : LinkState) :
    ∃ es p, x.offerCredit tag n = { x with outbound := es, lane := { x.lane with pendingCredits := p } } := by
  unfold LinkState.offerCredit
  split
  · exact ⟨_, x.lane.pendingCredits, rfl⟩
  · split
    · exact ⟨_, x.lane.pendingCredits, rfl⟩
    · exact ⟨x.outbound, _, rfl⟩

theorem LinkState.pendingCredit_changes (tag : Nat) (x : LinkState) :
    ∃ es p, x.pendingCredit tag = { x with outbound := es, lane := { x.lane with pendingCredits := p } } := by
  unfold LinkState.pendingCredit
  split
  · exact ⟨x.outbound, x.lane.pendingCredits, rfl⟩
  · exact ⟨_, 0, rfl⟩

theorem LinkState.overflowNotice_changes (x : LinkState) :
    ∃ es, x.overflowNotice = { x with outbound := es, overflow := 0 } := by
  unfold LinkState.overflowNotice
  split
  next h => exact ⟨x.outbound, by cases x; simp_all⟩
  next => exact ⟨_, rfl⟩

theorem QueueMove.sameRest (h : QueueMove x y) : x.SameRest y := by
  cases h with
  | raise c => obtain ⟨_, _, _, h⟩ := LinkState.raise_changes c x; rw [h]; constructor <;> rfl
  | subscribe mask => obtain ⟨_, _, h⟩ := LinkState.subscribe_changes mask x; rw [h]; constructor <;> rfl
  | offer n => obtain ⟨_, _, h⟩ := LinkState.offer_changes n x; rw [h]; constructor <;> rfl
  | noticeSent n es => obtain ⟨_, h⟩ := LinkState.overflowNotice_changes (x.sent es); rw [h]; constructor <;> rfl
  | creditSent t n tag es =>
    obtain ⟨_, _, h⟩ := LinkState.pendingCredit_changes tag (x.sent es); rw [h]; constructor <;> rfl
  | offerCredit tag n => obtain ⟨_, _, h⟩ := LinkState.offerCredit_changes tag n x; rw [h]; constructor <;> rfl
  | _ => constructor <;> rfl

/-! The head job changed -/

theorem LinkState.onHead_eq (f : Job → Job) (x : LinkState) :
    ∃ js, x.onHead f = { x with live := js } ∧ js.tail = x.live.tail := by
  cases h : x.live with
  | nil => exact ⟨[], by rw [LinkState.onHead, h]; cases x; simp_all, rfl⟩
  | cons j js => exact ⟨f j :: js, LinkState.onHead_of_cons h f, rfl⟩

/-! What a CLOSED link holds (R155, R168, R170) -/

theorem LinkState.closedLaw_iff : x.closedLaw = true ↔
    if x.session = .closed then
      x.dataTimeout = none ∧ x.holdLimit = none ∧ x.conditions = 0 ∧ x.mask = 0 ∧ x.overflow = 0 ∧ x.live = [] ∧
        x.history = []
    else x.dataTimeout.isSome = true ∧ x.holdLimit.isSome = true := by
  unfold LinkState.closedLaw
  split <;> simp [and_assoc]

/-- In CLOSED there is no job, and no count of dropped notices. -/
theorem LinkState.closedLaw_of_closed (h : x.closedLaw = true) (hc : x.session = .closed) :
    x.live = [] ∧ x.history = [] ∧ x.overflow = 0 := by
  simp only [LinkState.closedLaw_iff, hc, if_true] at h
  obtain ⟨-, -, -, -, hover, hlive, hhist⟩ := h
  exact ⟨hlive, hhist, hover⟩

theorem LinkState.closedLaw_of_same (h : x.closedLaw = true) (hs : y.session = x.session)
    (ht : y.dataTimeout = x.dataTimeout) (hl : y.holdLimit = x.holdLimit)
    (hrest : x.session = .closed → y.conditions = x.conditions ∧ y.mask = x.mask ∧ y.overflow = x.overflow ∧
      y.live = x.live ∧ y.history = x.history) : y.closedLaw = true := by
  rw [LinkState.closedLaw_iff] at h ⊢
  rw [hs, ht, hl]
  by_cases hc : x.session = .closed
  · obtain ⟨h1, h2, h3, h4, h5⟩ := hrest hc
    rwa [h1, h2, h3, h4, h5]
  · simpa only [hc, if_false] using h

theorem QueueMove.closedLaw (h : QueueMove x y) (hx : x.closedLaw = true) : y.closedLaw = true := by
  refine LinkState.closedLaw_of_same hx h.sameRest.session h.sameRest.dataTimeout h.sameRest.holdLimit fun hc => ?_
  obtain ⟨hlive, -, hover⟩ := LinkState.closedLaw_of_closed hx hc
  have hsame : y.conditions = x.conditions ∧ y.mask = x.mask ∧ y.overflow = x.overflow := by
    cases h with
    | raise c => rw [LinkState.raise_of_not_open (by simp [hc])]; exact ⟨rfl, rfl, rfl⟩
    | subscribe mask _ k => exact absurd hc k
    | acknowledge _ k => exact absurd hc k
    | offer n k => exact absurd k (by simp [hc, hlive])
    | noticeSent n es =>
      obtain ⟨_, h⟩ := LinkState.overflowNotice_changes (x.sent es)
      rw [h]
      exact ⟨rfl, rfl, hover.symm⟩
    | creditSent t n tag es =>
      obtain ⟨_, _, h⟩ := LinkState.pendingCredit_changes tag (x.sent es); rw [h]; exact ⟨rfl, rfl, rfl⟩
    | offerCredit tag n => obtain ⟨_, _, h⟩ := LinkState.offerCredit_changes tag n x; rw [h]; exact ⟨rfl, rfl, rfl⟩
    | _ => exact ⟨rfl, rfl, rfl⟩
  exact ⟨hsame.1, hsame.2.1, hsame.2.2, h.sameRest.live, h.sameRest.history⟩

theorem LinkMove.closedLaw (h : LinkMove x y) (hx : x.closedLaw = true) : y.closedLaw = true := by
  have hwith : x.live ≠ [] → ∀ js hs, { x with live := js, history := hs }.closedLaw = true := fun hne js hs =>
    LinkState.closedLaw_of_same hx rfl rfl rfl fun hc => absurd (LinkState.closedLaw_of_closed hx hc).1 hne
  have honHead : x.live ≠ [] → ∀ f, (x.onHead f).closedLaw = true := fun hne f => by
    obtain ⟨js, h, -⟩ := LinkState.onHead_eq f x
    exact h ▸ hwith hne js x.history
  have hactive : ∀ {j}, x.activeJob = some j → x.live ≠ [] := fun hj hne => by
    obtain ⟨js, hl, -⟩ := LinkState.activeJob_eq_some.mp hj
    simp [hl] at hne
  cases h with
  | queue h => exact h.closedLaw hx
  | opening d h => simp [LinkState.closedLaw_iff, LinkState.opening]
  | closing b => simp [LinkState.closedLaw_iff, LinkState.closeSession, LinkState.clearConditions]
  | rstp hc => exact LinkState.closedLaw_iff.mpr (by simpa [LinkState.closedLaw_iff, hc] using hx)
  | join j _ hc => exact LinkState.closedLaw_of_same hx rfl rfl rfl fun hs => absurd hs hc
  | dropQueued j e hj => exact hwith (List.ne_nil_of_mem hj) _ _
  | head f hj => exact honHead (hactive hj) f
  | stray f hq => exact honHead (fun hne => by simp [LinkState.tailQueued, hne] at hq) f
  | start j js hl => exact honHead (by simp [hl]) _
  | pop e hj => exact hwith (hactive hj) _ _
  | reset => rfl
  | partReset => rfl
  | _ => exact LinkState.closedLaw_of_same hx rfl rfl rfl fun _ => ⟨rfl, rfl, rfl, rfl, rfl⟩

/-! The framer (R159, R161) -/

theorem LinkMove.framerLaw (h : LinkMove x y) (hx : x.framerLaw = true) : y.framerLaw = true := by
  have hsame : y.framer = x.framer → y.gapTimer = x.gapTimer → y.breakDetected = x.breakDetected → y.framerLaw = true :=
    fun h1 h2 h3 => by rw [LinkState.framerLaw, h1, h2, h3]; exact hx
  have honHead : ∀ f, y = x.onHead f → y.framerLaw = true := fun f h => by
    obtain ⟨js, hh, -⟩ := LinkState.onHead_eq f x
    rw [h, hh]
    exact hx
  cases h with
  | queue h => exact hsame h.sameRest.framer h.sameRest.gapTimer h.sameRest.breakDetected
  | inFrame taken hb k => simp [LinkState.framerLaw, LinkState.inFrame, hb, k]
  | hunt => rfl
  | breakDetected => rfl
  | breakEnded =>
    unfold LinkState.framerLaw at hx ⊢
    simp only
    split <;> simp_all
  | reset => rfl
  | partReset => rfl
  | head f => exact honHead f rfl
  | stray f => exact honHead f rfl
  | start => exact honHead _ rfl
  | _ => exact hx

/-! The limits of the queues (R150, R163, R165) -/

/-- `LinkState.withinLimits`, limit by limit. -/
structure LinkState.Within (x : LinkState) : Prop where
  replies : x.replies ≤ Config.replyPlaces
  credits : x.creditEntries ≤ 1
  notices : x.notices ≤ Config.noticePlaces
  intake : x.intake.length ≤ Config.intakeMax
  overflow : x.overflow ≤ Config.overflowMax

theorem LinkState.withinLimits_iff : x.withinLimits = true ↔ x.Within := by
  simp only [LinkState.withinLimits, Bool.and_eq_true, decide_eq_true_eq]
  exact ⟨fun ⟨⟨⟨⟨h1, h2⟩, h3⟩, h4⟩, h5⟩ => ⟨h1, h2, h3, h4, h5⟩, fun ⟨h1, h2, h3, h4, h5⟩ => ⟨⟨⟨⟨h1, h2⟩, h3⟩, h4⟩, h5⟩⟩

/-- No class gains a place, no notice place is freed, and the overflow count stays. -/
structure LinkState.NoGain (x y : LinkState) : Prop where
  replies : y.replies ≤ x.replies
  credits : y.creditEntries ≤ x.creditEntries
  notices : y.notices = x.notices
  overflow : y.overflow = x.overflow

theorem LinkState.NoGain.of_outbound (h : y.outbound = x.outbound) (ho : y.overflow = x.overflow) : x.NoGain y := by
  refine ⟨?_, ?_, ?_, ho⟩ <;> simp only [LinkState.replies, LinkState.creditEntries, LinkState.notices, h, le_refl]

theorem LinkState.NoGain.within (h : x.NoGain y) (hi : y.intake.length ≤ x.intake.length) (hx : x.Within) : y.Within :=
  ⟨h.replies.trans hx.replies, h.credits.trans hx.credits, h.notices.trans_le hx.notices, hi.trans hx.intake,
    h.overflow.trans_le hx.overflow⟩

/-- A merge changes the content of one CONDITION notice alone. -/
theorem mergeCondition_map {β : Type} {f : Entry → β} (hf : ∀ c d, f (.notice (.condition c)) = f (.notice (.condition d)))
    {es fs : List Entry} (h : mergeCondition set es = some fs) : fs.map f = es.map f := by
  induction es generalizing fs with
  | nil => simp [mergeCondition] at h
  | cons e es ih =>
    unfold mergeCondition at h
    split at h
    next => cases h
    next c _ heq =>
      cases heq
      cases h
      simp [hf (c ||| set) c]
    next heq =>
      cases heq
      obtain ⟨gs, hgs, rfl⟩ := Option.map_eq_some_iff.mp h
      simp [ih hgs]

/-- A merge changes the content of one CREDIT alone. -/
theorem mergeCredit_map {β : Type} {f : Entry → β} {tag n : Nat} (hf : ∀ t k m, f (.credit t k) = f (.credit t m))
    {es fs : List Entry} (h : mergeCredit tag n es = some fs) : fs.map f = es.map f := by
  induction es generalizing fs with
  | nil => simp [mergeCredit] at h
  | cons e es ih =>
    unfold mergeCredit at h
    split at h
    next => cases h
    next t k _ heq =>
      cases heq
      split at h
      · cases h
        simp [hf t (k + n) k]
      · obtain ⟨gs, hgs, rfl⟩ := Option.map_eq_some_iff.mp h
        simp [ih hgs]
    next heq =>
      cases heq
      obtain ⟨gs, hgs, rfl⟩ := Option.map_eq_some_iff.mp h
      simp [ih hgs]

theorem countP_eq_of_map_eq {p : Entry → Bool} {es fs : List Entry} (h : fs.map p = es.map p) :
    fs.countP p = es.countP p := by
  have hcount : ∀ l : List Entry, l.countP p = (l.map p).countP id := fun l => by rw [List.countP_map]; rfl
  rw [hcount, hcount, h]

/-- Entries behind the one in transmission replaced by entries of the same classes. -/
theorem LinkState.NoGain.of_waiting {es : List Entry} (h : ∀ p ∈ [Entry.isReply, Entry.isCredit, Entry.isNotice],
    es.map p = x.waiting.map p) : x.NoGain { x with outbound := x.sending ++ es } := by
  have hcount : ∀ p ∈ [Entry.isReply, Entry.isCredit, Entry.isNotice], (x.sending ++ es).countP p = x.outbound.countP p :=
    fun p hp => by
      conv_rhs => rw [← x.sending_append_waiting]
      rw [List.countP_append, List.countP_append, countP_eq_of_map_eq (h p hp)]
  exact ⟨(hcount _ (by simp)).le, (hcount _ (by simp)).le, hcount _ (by simp), rfl⟩

/-- What an offer of a notice does to the places of the notice class and to the overflow count. -/
inductive LinkState.Offered (x y : LinkState) : Prop
  /-- A place was free. -/
  | placed (hr : y.replies = x.replies) (hc : y.creditEntries = x.creditEntries) (hi : y.intake = x.intake)
    (h : x.notices < Config.noticePlaces) (hn : y.notices = x.notices + 1) (ho : y.overflow = x.overflow)
  /-- No place was free. -/
  | dropped (hr : y.replies = x.replies) (hc : y.creditEntries = x.creditEntries) (hi : y.intake = x.intake)
    (h : Config.noticePlaces ≤ x.notices) (hn : y.notices = x.notices) (ho : y.overflow ≤ Config.overflowMax)
  /-- A waiting notice took it. -/
  | kept (hi : y.intake = x.intake) (h : x.NoGain y)

theorem LinkState.offered (n : Notice) (x : LinkState) : x.Offered (x.offer n) := by
  rcases Nat.lt_or_ge x.notices Config.noticePlaces with h | h
  · rw [LinkState.offer_of_place n h]
    refine .placed ?_ ?_ rfl h ?_ rfl <;>
      simp [LinkState.push, LinkState.replies, LinkState.creditEntries, LinkState.notices, List.countP_append,
        Entry.isReply, Entry.isCredit, Entry.isNotice]
  · rw [LinkState.offer_of_full n h]
    exact .dropped rfl rfl rfl h rfl (Nat.min_le_left _ _)

theorem LinkState.announce_offered (set : ConditionSet) (x : LinkState) : x.Offered (x.announce set) := by
  cases hmerge : mergeCondition set x.waiting with
  | none => simpa only [LinkState.announce, hmerge] using x.offered (.condition set)
  | some es =>
    simp only [LinkState.announce, hmerge]
    refine .kept rfl (.of_waiting fun p hp => mergeCondition_map ?_ hmerge)
    simp only [List.mem_cons, List.not_mem_nil, or_false] at hp
    rcases hp with rfl | rfl | rfl <;> intros <;> rfl

theorem LinkState.raise_offered (c : Condition) (x : LinkState) : x.Offered (x.raise c) := by
  unfold LinkState.raise
  split
  next =>
    simp only
    split
    next => exact .kept rfl (.of_outbound rfl rfl)
    next =>
      cases LinkState.announce_offered c.set { x with conditions := x.conditions ||| c.set } with
      | placed hr hc hi h hn ho => exact .placed hr hc hi h hn ho
      | dropped hr hc hi h hn ho => exact .dropped hr hc hi h hn ho
      | kept hi h => exact .kept hi ⟨h.replies, h.credits, h.notices, h.overflow⟩
  next => exact .kept rfl (.of_outbound rfl rfl)

theorem LinkState.Offered.within (h : x.Offered y) (hx : x.Within) : y.Within := by
  cases h with
  | placed hr hc hi h hn ho =>
    exact ⟨hr.trans_le hx.replies, hc.trans_le hx.credits, hn.trans_le h, hi ▸ hx.intake, ho.trans_le hx.overflow⟩
  | dropped hr hc hi h hn ho =>
    exact ⟨hr.trans_le hx.replies, hc.trans_le hx.credits, hn.trans_le hx.notices, hi ▸ hx.intake, ho⟩
  | kept hi h => exact h.within (hi ▸ le_refl _) hx

/-- A reply behind the queue. -/
theorem LinkState.push_counts (x : LinkState) (e : Entry) :
    (x.push e).replies = x.replies + (if e.isReply then 1 else 0) ∧
      (x.push e).creditEntries = x.creditEntries + (if e.isCredit then 1 else 0) ∧
      (x.push e).notices = x.notices + (if e.isNotice then 1 else 0) := by
  simp [LinkState.push, LinkState.replies, LinkState.creditEntries, LinkState.notices, List.countP_append,
    List.countP_cons]

theorem Entry.classes_of_isReply {e : Entry} (h : e.isReply = true) : e.isCredit = false ∧ e.isNotice = false := by
  cases e <;> simp_all [Entry.isReply, Entry.isCredit, Entry.isNotice]

theorem LinkState.push_reply_counts {e : Entry} (h : e.isReply = true) (x : LinkState) :
    (x.push e).replies = x.replies + 1 ∧ (x.push e).creditEntries = x.creditEntries ∧ (x.push e).notices = x.notices := by
  obtain ⟨hc, hn⟩ := Entry.classes_of_isReply h
  simpa [h, hc, hn] using x.push_counts e

/-- The queue without its oldest entry. -/
theorem LinkState.sent_counts {e : Entry} {es : List Entry} (h : x.outbound = e :: es) :
    x.replies = (x.sent es).replies + (if e.isReply then 1 else 0) ∧
      x.creditEntries = (x.sent es).creditEntries + (if e.isCredit then 1 else 0) ∧
      x.notices = (x.sent es).notices + (if e.isNotice then 1 else 0) := by
  simp [LinkState.sent, LinkState.replies, LinkState.creditEntries, LinkState.notices, h, List.countP_cons]

theorem LinkState.NoGain.sent {e : Entry} {es : List Entry} (h : x.outbound = e :: es) (k : e.isNotice = false) :
    x.NoGain (x.sent es) := by
  obtain ⟨hr, hc, hn⟩ := LinkState.sent_counts h
  exact ⟨by omega, by omega, by simp_all, rfl⟩

theorem LinkState.NoGain.removeCredit (tag : Nat) (x : LinkState) : x.NoGain (x.removeCredit tag) := by
  have hle : ∀ p : Entry → Bool, (x.removeCredit tag).outbound.countP p ≤ x.outbound.countP p := fun p => by
    conv_rhs => rw [← x.sending_append_waiting]
    exact List.Sublist.countP_le (List.filter_sublist.append_left _)
  refine ⟨hle _, hle _, ?_, rfl⟩
  conv_rhs => rw [LinkState.notices, ← x.sending_append_waiting]
  simp only [LinkState.removeCredit, LinkState.notices, List.countP_append, List.countP_filter, Nat.add_left_cancel_iff]
  refine List.countP_congr fun e _ => ?_
  cases e <;> simp [Entry.isNotice]

/-- A CREDIT merged, queued in the free credit place, or pending. -/
theorem LinkState.offerCredit_counts (tag n : Nat) (hx : x.creditEntries ≤ 1) :
    (x.offerCredit tag n).replies = x.replies ∧ (x.offerCredit tag n).creditEntries ≤ 1 ∧
      (x.offerCredit tag n).notices = x.notices ∧ (x.offerCredit tag n).overflow = x.overflow := by
  unfold LinkState.offerCredit
  split
  next es hes =>
    have hmap : ∀ p ∈ [Entry.isReply, Entry.isCredit, Entry.isNotice],
        (x.sending ++ es).countP p = x.outbound.countP p := fun p hp => by
      conv_rhs => rw [← x.sending_append_waiting]
      rw [List.countP_append, List.countP_append, countP_eq_of_map_eq (mergeCredit_map ?_ hes)]
      simp only [List.mem_cons, List.not_mem_nil, or_false] at hp
      rcases hp with rfl | rfl | rfl <;> intros <;> rfl
    exact ⟨hmap _ (by simp), (hmap _ (by simp)).trans_le hx, hmap _ (by simp), rfl⟩
  next =>
    split
    next h0 =>
      obtain ⟨hr, hc, hn⟩ := x.push_counts (.credit tag n)
      exact ⟨hr, by rw [hc, h0]; simp [Entry.isCredit], hn, rfl⟩
    next => exact ⟨rfl, hx, rfl, rfl⟩

/-- The pending credits take the place of the CREDIT that has been sent. -/
theorem LinkState.creditSent_counts {t n : Nat} {es : List Entry} (h : x.outbound = .credit t n :: es) (tag : Nat) :
    ((x.sent es).pendingCredit tag).replies = x.replies ∧
      ((x.sent es).pendingCredit tag).creditEntries ≤ x.creditEntries ∧
      ((x.sent es).pendingCredit tag).notices = x.notices ∧ ((x.sent es).pendingCredit tag).overflow = x.overflow := by
  obtain ⟨hr, hc, hn⟩ := LinkState.sent_counts h
  unfold LinkState.pendingCredit
  split
  next => simp_all [Entry.isReply, Entry.isCredit, Entry.isNotice, LinkState.sent]
  next =>
    obtain ⟨hr', hc', hn'⟩ := (x.sent es).push_counts (.credit tag (x.sent es).lane.pendingCredits)
    refine ⟨hr'.trans hr.symm, (hc'.trans hc.symm).le, hn'.trans hn.symm, rfl⟩

theorem LinkState.onHead_outbound (f : Job → Job) (x : LinkState) : (x.onHead f).outbound = x.outbound := by
  obtain ⟨js, h, -⟩ := LinkState.onHead_eq f x
  rw [h]

theorem LinkState.onHead_intake (f : Job → Job) (x : LinkState) : (x.onHead f).intake = x.intake := by
  obtain ⟨js, h, -⟩ := LinkState.onHead_eq f x
  rw [h]

theorem LinkState.onHead_overflow (f : Job → Job) (x : LinkState) : (x.onHead f).overflow = x.overflow := by
  obtain ⟨js, h, -⟩ := LinkState.onHead_eq f x
  rw [h]

/-- Of the entries of a queue only the one in transmission is left. -/
theorem LinkState.Within.emptyQueues (hx : x.Within) : x.emptyQueues.Within := by
  have hle : ∀ p : Entry → Bool, x.emptyQueues.outbound.countP p ≤ x.outbound.countP p := fun p =>
    List.Sublist.countP_le (List.take_sublist _ _)
  exact ⟨(hle _).trans hx.replies, (hle _).trans hx.credits, (hle _).trans hx.notices, Nat.zero_le _, hx.overflow⟩

theorem LinkState.Within.of_emptyQueues (hx : x.Within) (ho : y.outbound = x.emptyQueues.outbound) (hi : y.intake = [])
    (hv : y.overflow = 0) : y.Within := by
  obtain ⟨hr, hc, hn, -, -⟩ := hx.emptyQueues
  refine ⟨?_, ?_, ?_, by simp [hi], by simp [hv]⟩
  all_goals simp only [LinkState.replies, LinkState.creditEntries, LinkState.notices, ho]; assumption

theorem QueueMove.within (h : QueueMove x y) (hx : x.Within) : y.Within := by
  have hi : y.intake.length ≤ x.intake.length := by rw [h.sameRest.intake]
  cases h with
  | reply e he hlt =>
    obtain ⟨hr, hc, hn⟩ := LinkState.push_reply_counts he x
    exact ⟨hr.trans_le hlt, hc.trans_le hx.credits, hn.trans_le hx.notices, hx.intake, hx.overflow⟩
  | raise c => exact (x.raise_offered c).within hx
  | subscribe mask hlt =>
    obtain ⟨hr, hc, hn⟩ := LinkState.push_reply_counts (e := .reply 0x20 .ok [.mask mask]) rfl { x with mask := mask }
    have hmasked : (x.masked mask).Within :=
      ⟨hr.trans_le hlt, hc.trans_le hx.credits, hn.trans_le hx.notices, hx.intake, hx.overflow⟩
    by_cases hnew : x.newlySubscribed mask = 0
    · rwa [LinkState.subscribe_of_none_new hnew]
    · rw [LinkState.subscribe_of_new hnew]
      exact (LinkState.announce_offered _ _).within hmasked
  | offer n => exact (x.offered n).within hx
  | sent e es h k => exact (LinkState.NoGain.sent h k).within hi hx
  | noticeSent n es h =>
    obtain ⟨hr, hc, hn⟩ := LinkState.sent_counts h
    have hsent : (x.sent es).Within := ⟨by have := hx.replies; omega, by have := hx.credits; omega,
      by have := hx.notices; omega, hx.intake, hx.overflow⟩
    unfold LinkState.overflowNotice
    split
    next => exact hsent
    next =>
      obtain ⟨hr', hc', hn'⟩ := (x.sent es).push_counts (.notice (.overflow (x.sent es).overflow))
      exact ⟨hr'.trans_le hsent.replies, hc'.trans_le hsent.credits, (hn'.trans hn.symm).trans_le hx.notices, hx.intake,
        Nat.zero_le _⟩
  | creditSent t n tag es h =>
    obtain ⟨hr, hc, hn, ho⟩ := LinkState.creditSent_counts h tag
    exact ⟨hr.trans_le hx.replies, hc.trans hx.credits, hn.trans_le hx.notices, hi.trans hx.intake,
      ho.trans_le hx.overflow⟩
  | offerCredit tag n =>
    obtain ⟨hr, hc, hn, ho⟩ := LinkState.offerCredit_counts (x := x) tag n hx.credits
    exact ⟨hr.trans_le hx.replies, hc, hn.trans_le hx.notices, hi.trans hx.intake, ho.trans_le hx.overflow⟩
  | uncredit tag => exact (LinkState.NoGain.removeCredit tag x).within hi hx
  | data tag sequence size b =>
    obtain ⟨hr, hc, hn⟩ := x.push_counts (.data tag sequence size b)
    exact ⟨hr.trans_le hx.replies, hc.trans_le hx.credits, hn.trans_le hx.notices, hx.intake, hx.overflow⟩
  | _ => exact ⟨hx.replies, hx.credits, hx.notices, hx.intake, hx.overflow⟩

theorem LinkState.onHead_within (f : Job → Job) (hx : x.Within) : (x.onHead f).Within :=
  (LinkState.NoGain.of_outbound (LinkState.onHead_outbound f x) (LinkState.onHead_overflow f x)).within
    (LinkState.onHead_intake f x ▸ le_refl _) hx

theorem LinkMove.within (h : LinkMove x y) (hx : x.Within) : y.Within := by
  cases h with
  | queue h => exact h.within hx
  | opening d h => exact ⟨hx.replies, hx.credits, hx.notices, hx.intake, Nat.zero_le _⟩
  | closing b => exact hx.of_emptyQueues rfl rfl rfl
  | emptying h => exact hx.emptyQueues
  | rstp h => exact ⟨hx.replies, hx.credits, hx.notices, Nat.zero_le _, hx.overflow⟩
  | intake f h =>
    refine ⟨hx.replies, hx.credits, hx.notices, ?_, hx.overflow⟩
    simpa using h
  | handOn f rest h =>
    refine ⟨hx.replies, hx.credits, hx.notices, ?_, hx.overflow⟩
    have := hx.intake
    rw [h, List.length_cons] at this
    exact Nat.le_of_succ_le this
  | head f => exact LinkState.onHead_within f hx
  | stray f => exact LinkState.onHead_within f hx
  | start => exact LinkState.onHead_within _ hx
  | reset => constructor <;> decide
  | partReset => exact hx.of_emptyQueues rfl rfl rfl
  | _ => exact ⟨hx.replies, hx.credits, hx.notices, hx.intake, hx.overflow⟩

/-! The overflow count (R151, R152) -/

theorem LinkState.overflowLaw_iff : x.overflowLaw = true ↔ x.overflow = 0 ∨ x.notices = Config.noticePlaces := by
  simp [LinkState.overflowLaw]

theorem LinkState.NoGain.overflowLaw (h : x.NoGain y) (hx : x.overflowLaw = true) : y.overflowLaw = true := by
  rw [LinkState.overflowLaw_iff] at hx ⊢
  rwa [h.overflow, h.notices]

theorem LinkState.overflowLaw_of_zero (h : x.overflow = 0) : x.overflowLaw = true := LinkState.overflowLaw_iff.mpr (.inl h)

theorem LinkState.Offered.overflowLaw (h : x.Offered y) (hw : x.Within) (hx : x.overflowLaw = true) :
    y.overflowLaw = true := by
  cases h with
  | placed hr hc hi h hn ho =>
    rw [LinkState.overflowLaw_iff] at hx
    exact LinkState.overflowLaw_of_zero (ho.trans (hx.resolve_right h.ne))
  | dropped hr hc hi h hn ho => exact LinkState.overflowLaw_iff.mpr (.inr (hn.trans (le_antisymm hw.notices h)))
  | kept hi h => exact h.overflowLaw hx

theorem QueueMove.overflowLaw (h : QueueMove x y) (hw : x.Within) (hx : x.overflowLaw = true) : y.overflowLaw = true := by
  cases h with
  | reply e he =>
    obtain ⟨-, -, hn⟩ := LinkState.push_reply_counts he x
    rw [LinkState.overflowLaw_iff, hn]
    exact LinkState.overflowLaw_iff.mp hx
  | raise c => exact (x.raise_offered c).overflowLaw hw hx
  | subscribe mask hlt =>
    obtain ⟨hr, hc, hn⟩ := LinkState.push_reply_counts (e := .reply 0x20 .ok [.mask mask]) rfl { x with mask := mask }
    have hmasked : (x.masked mask).Within :=
      ⟨hr.trans_le hlt, hc.trans_le hw.credits, hn.trans_le hw.notices, hw.intake, hw.overflow⟩
    have hlaw : (x.masked mask).overflowLaw = true := by
      rw [LinkState.overflowLaw_iff, LinkState.masked_notices]
      exact LinkState.overflowLaw_iff.mp hx
    by_cases hnew : x.newlySubscribed mask = 0
    · rwa [LinkState.subscribe_of_none_new hnew]
    · rw [LinkState.subscribe_of_new hnew]
      exact (LinkState.announce_offered _ _).overflowLaw hmasked hlaw
  | offer n => exact (x.offered n).overflowLaw hw hx
  | sent e es h k => exact (LinkState.NoGain.sent h k).overflowLaw hx
  | noticeSent n es h =>
    obtain ⟨_, h⟩ := LinkState.overflowNotice_changes (x.sent es)
    exact LinkState.overflowLaw_of_zero (by rw [h])
  | creditSent t n tag es h =>
    obtain ⟨hr, hc, hn, ho⟩ := LinkState.creditSent_counts h tag
    exact LinkState.NoGain.overflowLaw ⟨hr.le, hc, hn, ho⟩ hx
  | offerCredit tag n =>
    obtain ⟨hr, -, hn, ho⟩ := LinkState.offerCredit_counts (x := x) tag n hw.credits
    rw [LinkState.overflowLaw_iff, hn, ho]
    exact LinkState.overflowLaw_iff.mp hx
  | uncredit tag => exact (LinkState.NoGain.removeCredit tag x).overflowLaw hx
  | data tag sequence size b =>
    obtain ⟨-, -, hn⟩ := x.push_counts (.data tag sequence size b)
    rw [LinkState.overflowLaw_iff, hn]
    exact LinkState.overflowLaw_iff.mp hx
  | _ => exact hx

theorem LinkMove.overflowLaw (h : LinkMove x y) (hw : x.Within) (hc : x.closedLaw = true) (hx : x.overflowLaw = true) :
    y.overflowLaw = true := by
  have honHead : ∀ f, (x.onHead f).overflowLaw = true := fun f =>
    (LinkState.NoGain.of_outbound (LinkState.onHead_outbound f x) (LinkState.onHead_overflow f x)).overflowLaw hx
  cases h with
  | queue h => exact h.overflowLaw hw hx
  | opening d h => exact LinkState.overflowLaw_of_zero rfl
  | closing b => exact LinkState.overflowLaw_of_zero rfl
  | emptying h => exact LinkState.overflowLaw_of_zero (LinkState.closedLaw_of_closed hc h).2.2
  | head f => exact honHead f
  | stray f => exact honHead f
  | start => exact honHead _
  | reset => exact LinkState.overflowLaw_of_zero rfl
  | partReset => exact LinkState.overflowLaw_of_zero rfl
  | _ => exact hx

end

theorem State.limitsKept_iff {s : State} : s.limitsKept = true ↔ ∀ l, (s.link l).Within := by
  simp only [State.limitsKept, Bool.and_eq_true, LinkState.withinLimits_iff]
  exact ⟨fun h l => by cases l; exacts [h.1, h.2], fun h => ⟨h .A, h .B⟩⟩

/-- Settles O4: each move of a link keeps its limits, and the law of its overflow count beside the law of CLOSED. -/
theorem everyStepKeepsTheQueueLimits : Obligations.EveryStepKeepsTheQueueLimits := by
  unfold Obligations.EveryStepKeepsTheQueueLimits
  intro s t hs hstep
  rw [State.limitsKept_iff] at hs ⊢
  refine ⟨fun l => step_keeps_link (fun h => h.within) hstep l (hs l), fun hA hB hcA hcB => ?_⟩
  have hlaw : ∀ l, (s.link l).overflowLaw = true → (s.link l).closedLaw = true → (t.link l).overflowLaw = true :=
    fun l ho hc =>
      (step_keeps_link (P := fun x => x.Within ∧ x.closedLaw = true ∧ x.overflowLaw = true)
        (fun h ⟨hw, hc, ho⟩ => ⟨h.within hw, h.closedLaw hc, h.overflowLaw hw hc ho⟩) hstep l ⟨hs l, hc, ho⟩).2.2
  exact ⟨hlaw .A hA hcA, hlaw .B hB hcB⟩

end Sys2Proof.Machine
end

section
/-! PROOFS. The laws of sessions and windows (R78, R155, R168, R170), of the lists and the places of jobs (R5 to R7, R13, R58),
of the memories, of the latch, the arbiter and the framers; and that no command touches the queue. -/

namespace Sys2Proof.Machine

section
variable {s t : State} {l : Link}

theorem LaneRuns.frame (h : LaneRuns s t) : LaneFrame s t := by
  induction h with
  | refl => exact .refl s
  | tail _ ha ih => exact ih.trans ha.frame

/-! What the hosts' side leaves: the slots with their sequencers, the latch, and the queue of commands (log entry 4) -/

/-- The slots, the sequencers, the latch and the queue stay, and no transfer begins. -/
structure State.SameModules (s t : State) : Prop where
  pending : t.pending = s.pending
  latch : t.latch = s.latch
  latchHold : t.latchHold = s.latchHold
  slots : t.slots = s.slots
  powerWait : t.powerWait = s.powerWait
  ramping : t.ramping = s.ramping
  identQueue : t.identQueue = s.identQueue
  flight : ∀ x, t.bus.state = .inFlight x → s.bus.state = .inFlight x

theorem State.SameModules.refl (s : State) : s.SameModules s := by constructor <;> simp

theorem State.SameModules.trans {u : State} (h : s.SameModules t) (k : t.SameModules u) : s.SameModules u :=
  ⟨k.1.trans h.1, k.2.trans h.2, k.3.trans h.3, k.4.trans h.4, k.5.trans h.5, k.6.trans h.6, k.7.trans h.7,
    fun x hx => h.8 x (k.8 x hx)⟩

theorem LaneFrame.modules (h : LaneFrame s t) : s.SameModules t :=
  ⟨h.pending, h.latch, h.latchHold, h.slots, h.powerWait, h.ramping, h.identQueue, fun x => (h.flight x).mp⟩

theorem HostAction.modules (h : HostAction s t) : s.SameModules t := by
  cases h with
  | lane h => exact h.frame.modules
  | _ => constructor <;> simp [State.reply, State.hello, State.offer, State.kick]

theorem HostRuns.modules (h : HostRuns s t) : s.SameModules t := by
  induction h with
  | refl => exact .refl s
  | tail _ ha ih => exact ih.trans ha.modules

theorem Action.pending (h : Action s t) : t.pending = s.pending := by
  cases h with
  | host h => exact h.modules.pending
  | elsewhere h => exact h.pending
  | released h k => exact k.pending.trans (LaneRuns.frame h).pending
  | _ => simp [State.hello, State.partReset, State.powerOn, State.nrstHeld, State.blocksReset,
      State.poolReset, State.latched]

theorem Runs.pending (h : Runs s t) : t.pending = s.pending := by
  induction h with
  | refl => rfl
  | tail _ ha ih => exact ha.pending.trans ih

end

/-- Settles O2: every outcome is a run of actions, and none of them touches the queue. -/
theorem everyCommandGoesOnAndLeavesTheQueue : Obligations.EveryCommandGoesOnAndLeavesTheQueue := by
  unfold Obligations.EveryCommandGoesOnAndLeavesTheQueue
  intro c s
  obtain ⟨t, ht, hr⟩ := exec_runs c s
  exact ⟨t, ht, hr.pending⟩

section
variable {s t : State} {l : Link}

/-! Windows (R78, R97) -/

/-- `State.windowsKept`, window by window. -/
theorem State.windowsKept_iff : s.windowsKept = true ↔
    ∀ i w, s.windows.get i = some w → (s.link w.owner).session ≠ .closed := by
  simp only [State.windowsKept, State.enabledWindows, List.all_eq_true, bne_iff_ne, ne_eq]
  refine ⟨fun h i w hw => h w ?_, fun h w hw => ?_⟩
  · refine List.mem_filterMap.mpr ⟨some w, ?_, rfl⟩
    rw [← hw]
    simp [Vector.get]
  · obtain ⟨o, ho, rfl⟩ := List.mem_filterMap.mp hw
    obtain ⟨i, hi, he⟩ := Vector.mem_iff_getElem.mp (Vector.mem_toList_iff.mp ho)
    exact h ⟨i, hi⟩ w he

/-- No window is enabled anew, and no session closes. -/
theorem State.windowsKept_of_same (hs : s.windowsKept = true) (hw : t.windows = s.windows)
    (hc : ∀ m, (t.link m).session = .closed → (s.link m).session = .closed) : t.windowsKept = true := by
  rw [State.windowsKept_iff] at hs ⊢
  intro i w hi hno
  exact hs i w (hw ▸ hi) (hc _ hno)

theorem State.windowsKept_of_none (h : ∀ i, s.windows.get i = none) : s.windowsKept = true :=
  State.windowsKept_iff.mpr fun i w hi => by rw [h i] at hi; cases hi

theorem State.freeWindows_get (s : State) (l : Link) (i : Fin 8) :
    (s.freeWindows l).windows.get i = (s.windows.get i).filter (fun w => w.owner != l) := by
  simp only [State.freeWindows, Vector.get_ofFn]
  cases s.windows.get i with
  | none => rfl
  | some w => by_cases h : w.owner = l <;> simp [Option.filter, h]

/-- The windows of the link whose session changes are freed with it. -/
theorem State.windowsKept_freeWindows (hs : s.windowsKept = true) (f : LinkState → LinkState) :
    ((s.onLink l f).freeWindows l).windowsKept = true := by
  rw [State.windowsKept_iff] at hs ⊢
  intro i w hi
  rw [State.freeWindows_get, Option.filter_eq_some_iff, State.onLink_windows] at hi
  obtain ⟨hw, hne⟩ := hi
  rw [State.freeWindows_link, State.onLink_ne _ (by simpa using hne)]
  exact hs i w hw

theorem State.windowsKept_onLink (hs : s.windowsKept = true) {f : LinkState → LinkState}
    (hf : (f (s.link l)).session = .closed → (s.link l).session = .closed) : (s.onLink l f).windowsKept = true := by
  refine State.windowsKept_of_same hs (by simp) fun m hm => ?_
  by_cases h : m = l
  · subst h
    rw [State.onLink_link] at hm
    exact hf hm
  · rwa [State.onLink_ne s h] at hm

theorem State.windowsKept_move (hs : s.windowsKept = true) {f : LinkState → LinkState}
    (hf : QueueMove (s.link l) (f (s.link l))) : (s.onLink l f).windowsKept = true :=
  State.windowsKept_onLink hs fun h => hf.sameRest.session ▸ h

theorem LaneFrame.windowsKept (h : LaneFrame s t) (hs : s.windowsKept = true) : t.windowsKept = true :=
  State.windowsKept_of_same hs h.windows fun m hm => (h.link m).session ▸ hm

theorem State.SameLinks.windowsKept (h : s.SameLinks t) (hs : s.windowsKept = true) : t.windowsKept = true :=
  State.windowsKept_of_same hs h.windows fun m hm => h.link m ▸ hm

theorem HostAction.windowsKept (h : HostAction s t) (hs : s.windowsKept = true) : t.windowsKept = true := by
  cases h with
  | lane h => exact h.frame.windowsKept hs
  | kick => exact State.windowsKept_of_same hs rfl fun m hm => by cases m <;> exact hm
  | reply l code r items h => exact State.windowsKept_move hs (.reply _ _ rfl h)
  | raise l c => exact State.windowsKept_move hs (.raise _ c)
  | subscribe l mask h k => exact State.windowsKept_move hs (.subscribe _ mask h k)
  | acknowledge l left h => exact State.windowsKept_move hs (.acknowledge _ left h)
  | window i w h =>
    rw [State.windowsKept_iff] at hs ⊢
    intro k v hk
    rw [State.setWindow_link]
    by_cases hki : k = i
    · subst hki
      exact h v (by simpa [State.setWindow, get_set_self] using hk)
    · exact hs k v (by simpa [State.setWindow, get_set_ne _ hki] using hk)
  | opening l d h => exact State.windowsKept_freeWindows hs _
  | closing l b => exact State.windowsKept_freeWindows hs _
  | hello l c h => exact State.windowsKept_move hs (.reply _ _ rfl h)
  | rstp l h => exact State.windowsKept_onLink hs (by simp)
  | offer l n h => exact State.windowsKept_move hs (.offer _ n (.inl h))
  | sent l e es h k => exact State.windowsKept_move hs (.sent _ e es h k)
  | noticeSent l n es h => exact State.windowsKept_move hs (.noticeSent _ n es h)
  | creditSent l c n tag es h => exact State.windowsKept_move hs (.creditSent _ c n tag es h)
  | bytes b m h => exact State.windowsKept_of_same hs rfl fun m hm => by simpa using hm
  | identStore m h => exact State.windowsKept_of_same hs rfl fun m hm => by cases m <;> exact hm
  | _ => exact State.windowsKept_onLink hs fun h => h

theorem Action.windowsKept (h : Action s t) (hs : s.windowsKept = true) : t.windowsKept = true := by
  cases h with
  | host h => exact h.windowsKept hs
  | elsewhere h => exact h.windowsKept hs
  | released h k => exact k.windowsKept ((LaneRuns.frame h).windowsKept ((State.SameLinks.onBus s _).windowsKept hs))
  | latch a => exact State.windowsKept_of_same hs rfl fun m hm => by cases m <;> exact hm
  | partReset c =>
    refine State.windowsKept_of_none fun i => ?_
    simp [State.partReset, State.hello, State.blocksReset]
  | powerOn r1 r0 =>
    refine State.windowsKept_of_none fun i => ?_
    simp [State.powerOn, State.hello, State.blocksReset]
  | nrstHeld =>
    refine State.windowsKept_of_none fun i => ?_
    simp [State.nrstHeld, State.blocksReset]

end

/-- Settles O5: the windows by what each action does to them and to the sessions, CLOSED by the moves of each link. -/
theorem everyStepKeepsTheSessionLaws : Obligations.EveryStepKeepsTheSessionLaws := by
  unfold Obligations.EveryStepKeepsTheSessionLaws
  intro s t hstep
  refine ⟨fun hs => step_keeps (fun s rest h => ?_) Action.windowsKept hstep hs, fun hA hB => ?_⟩
  · exact State.windowsKept_of_same h rfl fun m hm => by cases m <;> exact hm
  · exact ⟨step_keeps_link LinkMove.closedLaw hstep .A hA, step_keeps_link LinkMove.closedLaw hstep .B hB⟩

/-! The lists (R5 to R7, R58) -/

section
variable {x y : LinkState}

/-- `LinkState.listsLaw`, part by part. -/
structure LinkState.Lists (x : LinkState) : Prop where
  live : x.live.length ≤ Config.liveMax
  history : x.history.length ≤ Config.historyMax
  tail : ∀ j ∈ x.live.tail, j.state = .queued
  causes : ∀ j ∈ x.live, j.causesLaw = true
  tags : (x.live.map Job.tag ++ x.history.map HistoryEntry.tag).Nodup

theorem LinkState.listsLaw_iff : x.listsLaw = true ↔ x.Lists := by
  simp only [LinkState.listsLaw, Bool.and_eq_true, decide_eq_true_eq, List.all_eq_true, beq_iff_eq]
  exact ⟨fun ⟨⟨⟨⟨h1, h2⟩, h3⟩, h4⟩, h5⟩ => ⟨h1, h2, h3, h4, h5⟩, fun ⟨h1, h2, h3, h4, h5⟩ => ⟨⟨⟨⟨h1, h2⟩, h3⟩, h4⟩, h5⟩⟩

theorem LinkState.Lists.of_same (h : x.Lists) (hl : y.live = x.live) (hh : y.history = x.history) : y.Lists := by
  obtain ⟨h1, h2, h3, h4, h5⟩ := h
  exact ⟨hl ▸ h1, hh ▸ h2, hl ▸ h3, hl ▸ h4, hl ▸ hh ▸ h5⟩

theorem LinkState.Lists.of_empty (hl : x.live = []) (hh : x.history = []) : x.Lists := by
  constructor <;> simp [hl, hh]

theorem addHistory_length (h : List HistoryEntry) (e : HistoryEntry) : (addHistory h e).length ≤ Config.historyMax := by
  simp only [addHistory, List.length_drop, List.length_append, List.length_singleton]
  omega

theorem addHistory_sublist (h : List HistoryEntry) (e : HistoryEntry) : (addHistory h e).Sublist (h ++ [e]) :=
  List.drop_sublist _ _

/-- A live job has left the list, and its entry has joined the history. -/
theorem LinkState.Lists.ended (h : x.Lists) {j : Job} (hj : j ∈ x.live) {js : List Job} (hjs : js.Sublist x.live)
    (hno : ∀ k ∈ js, k.tag ≠ j.tag) (htail : ∀ k ∈ js.tail, k.state = .queued) {e : HistoryEntry} (he : e.tag = j.tag)
    (hl : y.live = js) (hh : y.history = addHistory x.history e) : y.Lists where
  live := hl ▸ hjs.length_le.trans h.live
  history := hh ▸ addHistory_length _ _
  tail := hl ▸ htail
  causes := hl ▸ fun k hk => h.causes k (hjs.subset hk)
  tags := by
    rw [hl, hh]
    obtain ⟨hlive, hhist, hdis⟩ := List.nodup_append.mp h.tags
    have hnew : j.tag ∉ x.history.map HistoryEntry.tag := fun hm =>
      hdis _ (List.mem_map_of_mem hj) _ hm rfl
    have hsub := (addHistory_sublist x.history e).map HistoryEntry.tag
    rw [List.map_append, List.map_singleton, he] at hsub
    refine List.nodup_append.mpr ⟨hlive.sublist (hjs.map _), List.Nodup.sublist hsub ?_, fun a ha b hb hab => ?_⟩
    · exact List.nodup_append.mpr ⟨hhist, List.nodup_singleton _, by simpa using hnew⟩
    · subst hab
      obtain ⟨k, hk, rfl⟩ := List.mem_map.mp ha
      rcases List.mem_append.mp (hsub.subset hb) with hb | hb
      · exact hdis _ (List.mem_map_of_mem (hjs.subset hk)) _ hb rfl
      · exact hno k hk (List.mem_singleton.mp hb)

/-- The head of the live list becomes another job of the same tag. -/
theorem LinkState.Lists.newHead (h : x.Lists) {j k : Job} {js : List Job} (hx : x.live = j :: js) (ht : k.tag = j.tag)
    (hk : k.causesLaw = true) (hl : y.live = k :: js) (hh : y.history = x.history) : y.Lists where
  live := by simpa [hl, hx] using h.live
  history := hh ▸ h.history
  tail := by simpa [hl, hx] using h.tail
  causes := by
    intro i hi
    rw [hl] at hi
    rcases List.mem_cons.mp hi with rfl | hi
    · exact hk
    · exact h.causes i (hx ▸ List.mem_cons_of_mem _ hi)
  tags := by simpa [hl, hh, hx, ht] using h.tags

theorem LinkState.Lists.join (h : x.Lists) {j : Job} (hj : j.Fresh) (hn : x.live.length < Config.liveMax)
    (ht : ∀ k ∈ x.live, k.tag ≠ j.tag) : (x.join j).Lists where
  live := by simpa [LinkState.join] using hn
  history := (List.length_filter_le _ _).trans h.history
  tail := by
    intro k hk
    cases hx : x.live with
    | nil => simp [LinkState.join, hx] at hk
    | cons i is =>
      simp only [LinkState.join, hx, List.cons_append, List.tail_cons, List.mem_append, List.mem_singleton] at hk
      rcases hk with hk | rfl
      · exact h.tail k (by simpa [hx] using hk)
      · exact hj.queued
  causes := by
    intro k hk
    simp only [LinkState.join, List.mem_append, List.mem_singleton] at hk
    rcases hk with hk | rfl
    · exact h.causes k hk
    · exact hj.causes
  tags := by
    obtain ⟨hlive, hhist, hdis⟩ := List.nodup_append.mp h.tags
    simp only [LinkState.join, List.map_append, List.map_singleton]
    refine List.nodup_append.mpr ⟨?_, hhist.sublist (List.filter_sublist.map _), fun a ha b hb hab => ?_⟩
    · refine List.nodup_append.mpr ⟨hlive, List.nodup_singleton _, fun a ha b hb hab => ?_⟩
      obtain ⟨k, hk, rfl⟩ := List.mem_map.mp ha
      exact ht k hk (hab.trans (List.mem_singleton.mp hb))
    · subst hab
      obtain ⟨e, he, rfl⟩ := List.mem_map.mp hb
      obtain ⟨he, hne⟩ := List.mem_filter.mp he
      rcases List.mem_append.mp ha with ha | ha
      · exact hdis _ ha _ (List.mem_map_of_mem he) rfl
      · simp [List.mem_singleton.mp ha] at hne

theorem LinkMove.lists (h : LinkMove x y) (hx : x.Lists) : y.Lists := by
  have hactive : ∀ {j}, x.activeJob = some j → ∃ js, x.live = j :: js ∧ j.state ≠ .queued := LinkState.activeJob_eq_some.mp
  cases h with
  | queue h => exact hx.of_same h.sameRest.live h.sameRest.history
  | opening d h => exact .of_empty rfl rfl
  | closing b => exact .of_empty rfl rfl
  | reset => exact .of_empty rfl rfl
  | partReset => exact .of_empty rfl rfl
  | join j h hc hn ht => exact hx.join h hn ht
  | dropQueued j e hj he =>
    refine hx.ended hj List.filter_sublist (fun k hk => by simpa using (List.mem_filter.mp hk).2) ?_ he rfl rfl
    cases hl : x.live with
    | nil => simp
    | cons i is =>
      intro k hk
      refine hx.tail k (hl ▸ ?_)
      rw [List.filter_cons] at hk
      split at hk
      · exact List.mem_of_mem_filter hk
      · exact List.mem_of_mem_filter (List.mem_of_mem_tail hk)
  | head f hj hk =>
    obtain ⟨js, hl, -⟩ := hactive hj
    rw [LinkState.onHead_of_cons hl]
    exact hx.newHead hl hk.tag (hk.causes (hx.causes _ (hl ▸ List.mem_cons_self ..))) rfl rfl
  | stray f hq =>
    refine absurd ?_ (Bool.eq_false_iff.mp hq)
    simpa [LinkState.tailQueued] using hx.tail
  | start j js hl hj =>
    rw [LinkState.onHead_of_cons hl]
    have hc := hx.causes j (hl ▸ List.mem_cons_self ..)
    refine hx.newHead (k := { j with state := .running }) hl rfl ?_ rfl rfl
    simpa [Job.causesLaw, hj] using hc
  | pop e hj he =>
    obtain ⟨js, hl, -⟩ := hactive hj
    have htags := hx.tags
    simp only [hl, List.map_cons, List.cons_append, List.nodup_cons, List.mem_append, not_or] at htags
    refine hx.ended (hl ▸ List.mem_cons_self ..) (List.tail_sublist x.live) ?_ ?_ he rfl rfl
    · rw [hl]
      exact fun k hk h => htags.1.1 (h ▸ List.mem_map_of_mem hk)
    · exact fun k hk => hx.tail k (List.mem_of_mem_tail hk)
  | _ => exact hx.of_same rfl rfl

/-! The places of the jobs (R13) -/

theorem LinkState.onHead_places (h : ∀ j ∈ x.live, j.placeLaw = true) {f : Job → Job}
    (hf : ∀ j, x.live.head? = some j → j.placeLaw = true → (f j).placeLaw = true) :
    ∀ j ∈ (x.onHead f).live, j.placeLaw = true := by
  cases hl : x.live with
  | nil => simp [LinkState.onHead, hl]
  | cons j js =>
    rw [LinkState.onHead_of_cons hl]
    have hj := h j (hl ▸ List.mem_cons_self ..)
    intro k hk
    rcases List.mem_cons.mp hk with rfl | hk
    · exact hf j (by simp [hl]) hj
    · exact h k (hl ▸ List.mem_cons_of_mem _ hk)

theorem LinkMove.places (h : LinkMove x y) (hx : ∀ j ∈ x.live, j.placeLaw = true) : ∀ j ∈ y.live, j.placeLaw = true := by
  cases h with
  | queue h => exact h.sameRest.live ▸ hx
  | opening d h => simp [LinkState.opening]
  | closing b => simp [LinkState.closeSession]
  | reset => simp [LinkState.reset]
  | partReset => simp [LinkState.partReset, LinkState.reset]
  | join j h =>
    intro k hk
    rcases List.mem_append.mp hk with hk | hk
    · exact hx k hk
    · exact List.mem_singleton.mp hk ▸ h.place
  | dropQueued => exact fun j hj => hx j (List.mem_of_mem_filter hj)
  | head f hj hk =>
    obtain ⟨js, hl, -⟩ := LinkState.activeJob_eq_some.mp hj
    refine LinkState.onHead_places hx fun k hk' => ?_
    simp only [hl, List.head?_cons, Option.some.injEq] at hk'
    exact hk' ▸ hk.place
  | stray f _ hp => exact LinkState.onHead_places hx fun k _ h => (hp k).trans h
  | start => exact LinkState.onHead_places hx fun k _ h => h
  | pop => exact fun j hj => hx j (List.mem_of_mem_tail hj)
  | _ => exact hx

end

theorem State.listsKept_iff {s : State} : s.listsKept = true ↔ ∀ l, (s.link l).Lists := by
  simp only [State.listsKept, Bool.and_eq_true, LinkState.listsLaw_iff]
  exact ⟨fun h l => by cases l; exacts [h.1, h.2], fun h => ⟨h .A, h .B⟩⟩

theorem State.placesKept_iff {s : State} : s.placesKept = true ↔ ∀ l, ∀ j ∈ (s.link l).live, j.placeLaw = true := by
  simp only [State.placesKept, Bool.and_eq_true, List.all_eq_true]
  exact ⟨fun h l => by cases l; exacts [h.1, h.2], fun h => ⟨h .A, h .B⟩⟩

/-- Settles O6: the lists and the places of the jobs, move by move. -/
theorem everyStepKeepsTheJobLists : Obligations.EveryStepKeepsTheJobLists := by
  unfold Obligations.EveryStepKeepsTheJobLists
  intro s t hstep
  rw [State.listsKept_iff, State.listsKept_iff, State.placesKept_iff, State.placesKept_iff]
  exact ⟨fun hs l => step_keeps_link LinkMove.lists hstep l (hs l),
    fun hs l => step_keeps_link LinkMove.places hstep l (hs l)⟩

section
variable {s t : State} {l : Link}

/-! The latch hold (R74, R75, R77) -/

theorem State.latchLaw_iff : s.latchLaw = true ↔ s.latchHold = (s.latch == .opened) := by simp [State.latchLaw]

theorem State.latchLaw_of_same (hs : s.latchLaw = true) (hl : t.latch = s.latch) (hh : t.latchHold = s.latchHold) :
    t.latchLaw = true := by
  rw [State.latchLaw_iff] at hs ⊢
  rw [hl, hh, hs]

theorem Action.latchLaw (h : Action s t) (hs : s.latchLaw = true) : t.latchLaw = true := by
  have hsample : ∀ p : Bool, (!p) = (latchOf p == .opened) := by decide
  cases h with
  | host h => exact State.latchLaw_of_same hs h.modules.latch h.modules.latchHold
  | elsewhere h => exact State.latchLaw_of_same hs h.latch h.latchHold
  | released h k =>
    exact State.latchLaw_of_same hs (k.latch.trans (LaneRuns.frame h).latch) (k.latchHold.trans (LaneRuns.frame h).latchHold)
  | latch a => exact State.latchLaw_iff.mpr rfl
  | partReset c =>
    rw [State.latchLaw_iff]
    simpa [State.partReset, State.hello, State.blocksReset] using hsample _
  | powerOn r1 r0 =>
    rw [State.latchLaw_iff]
    simpa [State.powerOn, State.hello, State.blocksReset] using hsample _
  | nrstHeld => exact State.latchLaw_of_same hs rfl rfl

/-! The arbiter (R127, R128) -/

theorem State.arbiterLaw_of_bus (hs : s.arbiterLaw = true) (hb : t.bus = s.bus) : t.arbiterLaw = true := by
  rw [State.arbiterLaw, hb]
  exact hs

/-- A FREE bus without requests has none to withdraw. -/
theorem State.arbiterLaw_withdraw (hs : s.arbiterLaw = true) (l : Link) :
    (s.onBus (fun b => b.withdraw l)).arbiterLaw = true := by
  cases hb : s.bus.state with
  | free =>
    simp only [State.arbiterLaw, hb, Bool.and_eq_true, Option.isNone_iff_eq_none] at hs
    obtain ⟨⟨hA, hB⟩, hI⟩ := hs
    cases l <;> simp [State.arbiterLaw, State.onBus, Bus.withdraw, Bus.setRequest, hb, hA, hB, hI]
  | inFlight x => simp [State.arbiterLaw, State.onBus, (Bus.withdraw_flight s.bus l x).mpr hb]
  | granted g =>
    cases g with
    | identify i => cases l <;> simp [State.arbiterLaw, State.onBus, Bus.withdraw, Bus.setRequest, hb]
    | lane m r w =>
      have hstate := (Bus.setRequest_state s.bus l none).trans hb
      by_cases hm : m = l <;> simp [State.arbiterLaw, State.onBus, Bus.withdraw, hstate, hm]

theorem LaneAction.arbiterLaw (h : LaneAction s t) (hs : s.arbiterLaw = true) : t.arbiterLaw = true := by
  cases h with
  | withdraw l => exact State.arbiterLaw_withdraw hs l
  | request l r => exact State.arbiterLaw_decide (s.onBus (fun b => b.setRequest l (some r)))
  | _ => exact State.arbiterLaw_of_bus hs (by simp [State.offer, State.onJob, State.startJob])

theorem HostAction.arbiterLaw (h : HostAction s t) (hs : s.arbiterLaw = true) : t.arbiterLaw = true := by
  cases h with
  | lane h => exact h.arbiterLaw hs
  | _ => exact State.arbiterLaw_of_bus hs (by simp [State.reply, State.hello, State.offer])

theorem Action.arbiterLaw (h : Action s t) (hs : s.arbiterLaw = true) : t.arbiterLaw = true := by
  cases h with
  | host h => exact h.arbiterLaw hs
  | elsewhere h => exact h.arbiter hs
  | released h k hu => exact hu
  | latch a => exact hs
  | partReset c => simp [State.arbiterLaw, State.partReset, State.hello, State.blocksReset, Bus.held, Bus.reset]
  | powerOn r1 r0 => simp [State.arbiterLaw, State.powerOn, State.hello, State.blocksReset, Bus.held, Bus.reset]
  | nrstHeld => rfl

end

/-- Settles O11: the latch and the arbiter action by action, the framers move by move. -/
theorem everyStepKeepsTheLatchTheArbiterAndTheFramers :
    Obligations.EveryStepKeepsTheLatchTheArbiterAndTheFramers := by
  unfold Obligations.EveryStepKeepsTheLatchTheArbiterAndTheFramers
  intro s t hstep
  exact ⟨step_keeps (fun _ _ h => h) Action.latchLaw hstep, step_keeps (fun _ _ h => h) Action.arbiterLaw hstep,
    fun l => step_keeps_link LinkMove.framerLaw hstep l⟩

end Sys2Proof.Machine
end

section
/-! PROOFS. The laws of the pool that every step keeps: the canonical form of the memories (log entry 2), the cap of each
lane, and the buffer wait list (R32, R33). -/

namespace Sys2Proof.Machine

/-! The memories (log entry 2) -/

/-- Every buffer's bytes are in canonical form. -/
def State.BuffersWf (s : State) : Prop := ∀ b, (s.buffers.get b).bytes.wf = true

section
variable {s t : State} {l : Link}

theorem State.memoriesKept_iff : s.memoriesKept = true ↔ s.BuffersWf ∧ s.identStore.wf = true := by
  simp only [State.memoriesKept, Bool.and_eq_true, List.all_eq_true, State.BuffersWf]
  refine and_congr_left fun _ => ⟨fun h b => h _ (by simp [Vector.get]), fun h b hb => ?_⟩
  obtain ⟨i, hi, rfl⟩ := Vector.mem_iff_getElem.mp (Vector.mem_toList_iff.mp hb)
  exact h ⟨i, hi⟩

theorem State.BuffersWf.of_buffers (h : s.BuffersWf) (hb : t.buffers = s.buffers) : t.BuffersWf := by
  rw [State.BuffersWf, hb]
  exact h

theorem State.BuffersWf.setHolder (h : s.BuffersWf) (b : BufId) (x : Holder) : (s.setHolder b x).BuffersWf := fun c => by
  rw [State.setHolder_bytes]
  exact h c

theorem State.BuffersWf.setBytes (h : s.BuffersWf) {b : BufId} {m : Memory} (hm : m.wf = true) :
    (s.setBytes b m).BuffersWf := fun c => by
  by_cases hc : c = b
  · rw [hc, State.setBytes_bytes]; exact hm
  · rw [State.setBytes_ne s hc]; exact h c

theorem State.BuffersWf.assign (h : s.BuffersWf) (l : Link) (b : BufId) : (s.assign l b).BuffersWf := by
  unfold State.assign
  split
  next => exact h
  next =>
    split
    next => exact h.setHolder b _
    next => exact h.setHolder b _
    next => exact (h.setHolder b _).setBytes (Memory.wf_load (h b) _)
    next => exact (h.setHolder b _).of_buffers (State.grantCredit_buffers _ l)

theorem State.BuffersWf.giveBuffer (w : List Link) (b : BufId) (h : s.BuffersWf) : (giveBuffer w b s).BuffersWf := by
  induction w generalizing s with
  | nil => exact h
  | cons l rest ih =>
    have hrest : State.BuffersWf { s with waitList := rest } := h
    unfold Machine.giveBuffer
    simp only
    split
    next =>
      split
      next => exact (hrest.assign l b).of_buffers (State.joinWait_buffers _ l)
      next => exact hrest.assign l b
    next => exact ih hrest

theorem State.BuffersWf.freeBuf (h : s.BuffersWf) (b : BufId) : (s.freeBuf b).BuffersWf :=
  State.BuffersWf.giveBuffer _ b (h.setHolder b .free)

theorem State.BuffersWf.emptyWriteBuffer (h : s.BuffersWf) (l : Link) (b : BufId) :
    (s.emptyWriteBuffer l b).BuffersWf := by
  unfold State.emptyWriteBuffer
  split
  next => exact h.freeBuf b
  next =>
    split
    next =>
      exact ((h.setHolder b _).of_buffers (State.grantCredit_buffers _ l)).of_buffers (State.dropIdleWait_buffers _ l)
    next => exact h.freeBuf b

theorem LaneAction.buffersWf (h : LaneAction s t) (hs : s.BuffersWf) : t.BuffersWf := by
  cases h with
  | free b => exact hs.freeBuf b
  | ask l =>
    unfold State.askBuffer
    split
    next b _ => exact hs.assign l b
    next => exact hs.of_buffers (State.joinWait_buffers s l)
  | empty l b => exact hs.emptyWriteBuffer l b
  | use l b u => exact hs.setHolder b _
  | _ => exact hs.of_buffers (by simp [State.offer, State.onJob, State.startJob])

theorem LaneRuns.buffersWf (h : LaneRuns s t) (hs : s.BuffersWf) : t.BuffersWf := by
  induction h with
  | refl => exact hs
  | tail _ ha ih => exact ha.buffersWf ih

theorem State.BuffersWf.poolReset (h : s.BuffersWf) : s.poolReset.BuffersWf := fun b => by
  simp only [State.poolReset, Vector.get_ofFn]
  split <;> exact h b

theorem HostAction.memoriesKept (h : HostAction s t) (hs : s.BuffersWf ∧ s.identStore.wf = true) :
    t.BuffersWf ∧ t.identStore.wf = true := by
  obtain ⟨hb, hi⟩ := hs
  have hrest : t.buffers = s.buffers → t.identStore = s.identStore → t.BuffersWf ∧ t.identStore.wf = true :=
    fun h k => ⟨hb.of_buffers h, k ▸ hi⟩
  cases h with
  | lane h => exact ⟨h.buffersWf hb, h.frame.identStore ▸ hi⟩
  | bytes b m hm => exact ⟨hb.setBytes (hm (hb b)), hi⟩
  | identStore m hm => exact ⟨hb, hm hi⟩
  | _ => exact hrest (by simp [State.reply, State.hello, State.offer, State.kick])
           (by simp [State.reply, State.hello, State.offer, State.kick])

theorem Action.memoriesKept (h : Action s t) (hs : s.BuffersWf ∧ s.identStore.wf = true) :
    t.BuffersWf ∧ t.identStore.wf = true := by
  obtain ⟨hb, hi⟩ := hs
  have hrest : t.buffers = s.buffers → t.identStore = s.identStore → t.BuffersWf ∧ t.identStore.wf = true :=
    fun h k => ⟨hb.of_buffers h, k ▸ hi⟩
  cases h with
  | host h => exact h.memoriesKept ⟨hb, hi⟩
  | elsewhere h => exact hrest h.buffers h.identStore
  | released h k =>
    have hfree : (s.setBusState .free).BuffersWf := hb
    exact ⟨(LaneRuns.buffersWf h hfree).of_buffers k.buffers, k.identStore.trans (LaneRuns.frame h).identStore ▸ hi⟩
  | latch a => exact ⟨hb, hi⟩
  | partReset c =>
    exact ⟨hb.poolReset.of_buffers (by simp [State.partReset, State.hello, State.blocksReset]),
      by simpa [State.partReset, State.hello, State.blocksReset, State.poolReset] using hi⟩
  | powerOn r1 r0 =>
    have hlinks : State.BuffersWf { s with linkA := LinkState.reset, linkB := LinkState.reset } := hb
    exact ⟨hlinks.poolReset.of_buffers (by simp [State.powerOn, State.hello, State.blocksReset]),
      by simpa [State.powerOn, State.hello, State.blocksReset, State.poolReset] using hi⟩
  | nrstHeld =>
    have hlinks : State.BuffersWf { s with linkA := LinkState.reset, linkB := LinkState.reset } := hb
    exact ⟨hlinks.poolReset.of_buffers rfl, hi⟩

end

/-- Settles O8: the canonical form of every memory, action by action. -/
theorem everyStepKeepsTheMemoriesCanonical : Obligations.EveryStepKeepsTheMemoriesCanonical := by
  unfold Obligations.EveryStepKeepsTheMemoriesCanonical
  intro s t hs hstep
  rw [State.memoriesKept_iff] at hs ⊢
  exact step_keeps (fun _ _ h => h) Action.memoriesKept hstep hs

/-! The pool (R32, R33) -/

/-- Neither lane holds more than 8 buffers (R32). -/
def State.Capped (s : State) : Prop := ∀ l, s.heldCount l ≤ Config.laneCap

/-- The wait list holds no lane twice, and a buffer is FREE only while it is empty (R33). -/
structure State.Waits (s : State) : Prop where
  nodup : s.waitList.Nodup
  noneFree : s.waitList ≠ [] → ∀ b, (s.buffers.get b).holder ≠ .free

section
variable {s t : State} {l : Link} {b : BufId}

theorem State.freeBuffer?_eq_none : s.freeBuffer? = none ↔ ∀ b, (s.buffers.get b).holder ≠ .free := by
  simp [State.freeBuffer?, bufferIds]

theorem State.poolKept_iff : s.poolKept = true ↔ s.Capped := by
  simp only [State.poolKept, Bool.and_eq_true, decide_eq_true_eq]
  exact ⟨fun ⟨hA, hB⟩ l => by cases l; exacts [hA, hB], fun h => ⟨h .A, h .B⟩⟩

theorem State.waitLaw_iff : s.waitLaw = true ↔ s.Waits := by
  simp only [State.waitLaw, Bool.and_eq_true, Bool.or_eq_true, decide_eq_true_eq, List.isEmpty_iff,
    Option.isNone_iff_eq_none, State.freeBuffer?_eq_none]
  exact ⟨fun ⟨hn, hf⟩ => ⟨hn, fun hne => hf.resolve_left hne⟩, fun ⟨hn, hf⟩ => ⟨hn, or_iff_not_imp_left.mpr hf⟩⟩

/-- A count over the buffers after a change at one of them. -/
theorem countP_change {p q : BufId → Bool} (h : ∀ c, c ≠ b → q c = p c) :
    bufferIds.countP q + (if p b then 1 else 0) = bufferIds.countP p + (if q b then 1 else 0) := by
  obtain ⟨as, bs, hsplit⟩ := List.append_of_mem (List.mem_finRange b)
  have hnodup := List.nodup_finRange 16
  rw [hsplit] at hnodup
  have hnotin : b ∉ as ∧ b ∉ bs := by
    obtain ⟨-, hcons, hdis⟩ := List.nodup_append.mp hnodup
    exact ⟨fun hb => hdis b hb b (List.mem_cons_self ..) rfl, (List.nodup_cons.mp hcons).1⟩
  have hcongr : ∀ cs : List BufId, b ∉ cs → cs.countP q = cs.countP p := fun cs hcs =>
    List.countP_congr fun c hc => by rw [h c fun e => hcs (e ▸ hc)]
  unfold bufferIds
  rw [hsplit, List.countP_append, List.countP_append, List.countP_cons, List.countP_cons, hcongr as hnotin.1,
    hcongr bs hnotin.2]
  omega

/-- Only what the lane holds counts. -/
theorem State.heldCount_le (h : ∀ b, t.holds l b = true → s.holds l b = true) : t.heldCount l ≤ s.heldCount l :=
  List.countP_mono_left fun b _ => h b

/-- One more buffer counts for one. -/
theorem State.heldCount_le_succ (h : ∀ c, c ≠ b → t.holds l c = s.holds l c) : t.heldCount l ≤ s.heldCount l + 1 := by
  have hchange := countP_change h
  unfold State.heldCount
  split at hchange <;> split at hchange <;> omega

theorem State.holds_iff : s.holds l b = true ↔ ∃ u, (s.buffers.get b).holder = .lane l u := by
  unfold State.holds
  split
  next h => simp [h]
  next m u h =>
    simp only [decide_eq_true_eq, h, Holder.lane.injEq]
    exact ⟨fun e => ⟨u, e, rfl⟩, fun ⟨_, e, _⟩ => e⟩

theorem State.Capped.of_buffers (h : s.Capped) (hb : t.buffers = s.buffers) : t.Capped := fun l => by
  refine le_trans (State.heldCount_le fun b hb' => ?_) (h l)
  rwa [State.holds, hb] at hb'

theorem State.Waits.of_same (h : s.Waits) (hb : t.buffers = s.buffers) (hw : t.waitList.Sublist s.waitList) :
    t.Waits where
  nodup := h.nodup.sublist hw
  noneFree hne b := by
    rw [hb]
    exact h.noneFree (fun e => hne (List.sublist_nil.mp (e ▸ hw))) b

/-- A held buffer is held in another way. -/
theorem State.Capped.use (h : s.Capped) (hb : s.holds l b = true) (u : BufferUse) :
    (s.setHolder b (.lane l u)).Capped := fun m => by
  refine le_trans (State.heldCount_le fun c hc => ?_) (h m)
  by_cases e : c = b
  · rw [e, State.holds_iff, State.setHolder_holder] at hc
    obtain ⟨_, hc⟩ := hc
    cases hc
    exact e ▸ hb
  · rwa [State.holds_congr (State.setHolder_ne s e _)] at hc

theorem State.Waits.use (h : s.Waits) (u : BufferUse) : (s.setHolder b (.lane l u)).Waits where
  nodup := h.nodup
  noneFree hne c := by
    by_cases e : c = b
    · rw [e, State.setHolder_holder]; simp
    · rw [State.setHolder_ne s e]; exact h.noneFree hne c

/-! A buffer handed out (R34) -/

theorem State.activeJob_of_wantsBuffer (h : s.wantsBuffer l = true) :
    s.heldCount l < Config.laneCap ∧ ∃ j, s.activeJob l = some j ∧ j.state = .running ∧ s.jobNeedsBuffer l j = true := by
  simp only [State.wantsBuffer, Bool.and_eq_true, decide_eq_true_eq] at h
  obtain ⟨hcap, h⟩ := h
  split at h
  next => cases h
  next j hj =>
    simp only [Bool.and_eq_true, decide_eq_true_eq] at h
    exact ⟨hcap, j, hj, h.1, h.2⟩

/-- The buffer that a lane is given becomes its own. -/
theorem State.assign_holder (h : s.wantsBuffer l = true) (b : BufId) :
    ∃ u, ((s.assign l b).buffers.get b).holder = .lane l u := by
  obtain ⟨-, j, hj, -, -⟩ := State.activeJob_of_wantsBuffer h
  simp only [State.assign, hj]
  split
  next => exact ⟨_, State.setHolder_holder ..⟩
  next => exact ⟨_, State.setHolder_holder ..⟩
  next => exact ⟨_, (State.setBytes_holder ..).trans (State.setHolder_holder ..)⟩
  next => exact ⟨_, (congrArg (fun v => (Vector.get v b).holder) (State.grantCredit_buffers _ l)).trans
      (State.setHolder_holder ..)⟩

@[simp] theorem State.grantCredit_waitList (s : State) (l : Link) : (s.grantCredit l).waitList = s.waitList := by
  unfold State.grantCredit
  split <;> simp [State.onTimedJob]

@[simp] theorem State.assign_waitList (s : State) (l : Link) (b : BufId) : (s.assign l b).waitList = s.waitList := by
  unfold State.assign
  split
  · rfl
  · split <;> simp

theorem State.joinWait_waitList (s : State) (l : Link) :
    (s.joinWait l).waitList = if l ∈ s.waitList then s.waitList else s.waitList ++ [l] := by
  unfold State.joinWait
  split <;> rfl

theorem State.dropIdleWait_waitList (s : State) (l : Link) : (s.dropIdleWait l).waitList.Sublist s.waitList := by
  unfold State.dropIdleWait
  split
  next => exact .refl _
  next =>
    split
    next => exact List.filter_sublist
    next => exact .refl _

/-- No buffer is FREE, so a lane may join the wait list. -/
theorem State.Waits.joinWait (h : s.waitList.Nodup) (hf : ∀ b, (s.buffers.get b).holder ≠ .free) (l : Link) :
    (s.joinWait l).Waits where
  nodup := by
    rw [State.joinWait_waitList]
    split
    next => exact h
    next hl => exact List.nodup_append.mpr ⟨h, List.nodup_singleton l, fun a ha c hc e => hl (List.mem_singleton.mp hc ▸ e ▸ ha)⟩
  noneFree _ b := by rw [State.joinWait_buffers]; exact hf b

/-- A lane below its cap is given one more buffer. -/
theorem State.Capped.assign (h : s.Capped) (hw : s.wantsBuffer l = true) (b : BufId) : (s.assign l b).Capped := fun m => by
  obtain ⟨u, hu⟩ := State.assign_holder hw b
  have hsame : ∀ m c, c ≠ b → (s.assign l b).holds m c = s.holds m c := fun m c hc =>
    State.holds_congr (State.assign_get_ne s l hc) m
  by_cases hm : m = l
  · subst hm
    exact (State.heldCount_le_succ (hsame m)).trans (State.activeJob_of_wantsBuffer hw).1
  · refine le_trans (State.heldCount_le fun c hc => ?_) (h m)
    by_cases e : c = b
    · rw [e, State.holds_iff, hu] at hc
      obtain ⟨v, hv⟩ := hc
      cases hv
      exact absurd rfl hm
    · rwa [hsame m c e] at hc

/-- A lane that needs a buffer is given the one that is FREE. -/
theorem State.Waits.assign (hn : s.waitList.Nodup) (ho : s.waitList ≠ [] → ∀ c, c ≠ b → (s.buffers.get c).holder ≠ .free)
    (hw : s.wantsBuffer l = true) : (s.assign l b).Waits where
  nodup := by rw [State.assign_waitList]; exact hn
  noneFree hne c := by
    obtain ⟨u, hu⟩ := State.assign_holder hw b
    rw [State.assign_waitList] at hne
    by_cases e : c = b
    · rw [e, hu]; simp
    · rw [State.assign_get_ne s l e]; exact ho hne c e

theorem State.wantsBuffer_withWaitList (s : State) (w : List Link) (l : Link) :
    ({ s with waitList := w } : State).wantsBuffer l = s.wantsBuffer l := by cases l <;> rfl

theorem State.Capped.giveBuffer (h : s.Capped) (w : List Link) (b : BufId) : (giveBuffer w b s).Capped := by
  induction w generalizing s with
  | nil => exact h
  | cons l rest ih =>
    unfold Machine.giveBuffer
    simp only
    split
    next hwants =>
      have hgiven := State.Capped.assign (s := { s with waitList := rest }) h hwants b
      split
      next => exact hgiven.of_buffers (State.joinWait_buffers _ l)
      next => exact hgiven
    next => exact ih (s := { s with waitList := rest }) h

/-- A FREE buffer goes to a lane of the wait list that needs it, or stays FREE with the list empty. -/
theorem State.Waits.giveBuffer (w : List Link) (hw : w.Nodup)
    (ho : w ≠ [] → ∀ c, c ≠ b → (s.buffers.get c).holder ≠ .free) : (giveBuffer w b s).Waits := by
  induction w generalizing s with
  | nil => exact ⟨List.nodup_nil, fun hne => absurd rfl hne⟩
  | cons l rest ih =>
    obtain ⟨hl, hrest⟩ := List.nodup_cons.mp hw
    have hothers := ho (List.cons_ne_nil _ _)
    unfold Machine.giveBuffer
    simp only
    split
    next hwants =>
      have hgiven : (State.assign { s with waitList := rest } l b).Waits :=
        State.Waits.assign (s := { s with waitList := rest }) hrest (fun _ => hothers) hwants
      split
      next =>
        refine State.Waits.joinWait hgiven.nodup (fun c => ?_) l
        by_cases e : c = b
        · obtain ⟨u, hu⟩ := State.assign_holder hwants b
          rw [e, hu]; simp
        · rw [State.assign_get_ne _ l e]; exact hothers c e
      next => exact hgiven
    next => exact ih (s := { s with waitList := rest }) hrest fun _ => hothers

theorem State.Capped.freeBuf (h : s.Capped) (b : BufId) : (s.freeBuf b).Capped := by
  refine State.Capped.giveBuffer (fun m => le_trans (State.heldCount_le fun c hc => ?_) (h m)) _ b
  by_cases e : c = b
  · rw [e, State.holds_iff, State.setHolder_holder] at hc
    obtain ⟨_, hc⟩ := hc
    cases hc
  · rwa [State.holds_congr (State.setHolder_ne s e _)] at hc

theorem State.Waits.freeBuf (h : s.Waits) (b : BufId) : (s.freeBuf b).Waits := by
  refine State.Waits.giveBuffer _ h.nodup fun hne c hc => ?_
  rw [State.setHolder_ne s hc]
  exact h.noneFree hne c

theorem State.Capped.emptyWriteBuffer (h : s.Capped) (hb : s.holds l b = true) : (s.emptyWriteBuffer l b).Capped := by
  unfold State.emptyWriteBuffer
  split
  next => exact h.freeBuf b
  next =>
    split
    next => exact (h.use hb .reserved).of_buffers (by simp)
    next => exact h.freeBuf b

theorem State.Waits.emptyWriteBuffer (h : s.Waits) (l : Link) (b : BufId) : (s.emptyWriteBuffer l b).Waits := by
  unfold State.emptyWriteBuffer
  split
  next => exact h.freeBuf b
  next =>
    split
    next =>
      exact ((h.use .reserved).of_same (State.grantCredit_buffers _ l) (by rw [State.grantCredit_waitList])).of_same
        (State.dropIdleWait_buffers _ l) (State.dropIdleWait_waitList _ l)
    next => exact h.freeBuf b

theorem LaneAction.capped (h : LaneAction s t) (hs : s.Capped) : t.Capped := by
  cases h with
  | free b => exact hs.freeBuf b
  | ask l hw =>
    unfold State.askBuffer
    split
    next b _ => exact hs.assign hw b
    next => exact hs.of_buffers (State.joinWait_buffers _ l)
  | empty l b hb => exact hs.emptyWriteBuffer hb
  | use l b u hb => exact hs.use hb u
  | unwait l => exact hs.of_buffers rfl
  | _ => exact hs.of_buffers (by simp [State.offer, State.onJob, State.startJob])

theorem LaneAction.waits (h : LaneAction s t) (hs : s.Waits) : t.Waits := by
  cases h with
  | free b => exact hs.freeBuf b
  | ask l hw =>
    unfold State.askBuffer
    split
    next b hb =>
      have hf : (s.buffers.get b).holder = .free := by simpa using List.find?_some hb
      have hempty : s.waitList = [] := by
        by_contra hne
        exact hs.noneFree hne b hf
      exact State.Waits.assign hs.nodup (fun hne => absurd hempty hne) hw
    next hnone => exact State.Waits.joinWait hs.nodup (State.freeBuffer?_eq_none.mp hnone) l
  | empty l b hb => exact hs.emptyWriteBuffer l b
  | use l b u hb => exact hs.use u
  | unwait l => exact hs.of_same rfl List.filter_sublist
  | _ =>
    exact hs.of_same (by simp [State.offer, State.onJob, State.startJob])
      (by simp [State.offer, State.onJob, State.startJob])

theorem LaneRuns.capped (h : LaneRuns s t) (hs : s.Capped) : t.Capped := by
  induction h with
  | refl => exact hs
  | tail _ ha ih => exact ha.capped ih

theorem LaneRuns.waits (h : LaneRuns s t) (hs : s.Waits) : t.Waits := by
  induction h with
  | refl => exact hs
  | tail _ ha ih => exact ha.waits ih

theorem State.Capped.poolReset (h : s.Capped) : s.poolReset.Capped := fun l => by
  refine le_trans (State.heldCount_le fun b hb => ?_) (h l)
  rw [State.holds_iff] at hb ⊢
  simp only [State.poolReset, Vector.get_ofFn] at hb
  split at hb
  next => exact hb
  next => simp at hb

theorem State.poolReset_waits (s : State) : s.poolReset.Waits := ⟨List.nodup_nil, fun hne => absurd rfl hne⟩

theorem HostAction.capped (h : HostAction s t) (hs : s.Capped) : t.Capped := by
  cases h with
  | lane h => exact h.capped hs
  | bytes b m => exact fun l => le_trans (State.heldCount_le fun c hc => by simpa [State.holds_iff] using hc) (hs l)
  | _ => exact hs.of_buffers (by simp [State.reply, State.hello, State.offer, State.kick])

theorem HostAction.waits (h : HostAction s t) (hs : s.Waits) : t.Waits := by
  cases h with
  | lane h => exact h.waits hs
  | bytes b m => exact ⟨hs.nodup, fun hne c => by rw [State.setBytes_holder]; exact hs.noneFree hne c⟩
  | _ =>
    exact hs.of_same (by simp [State.reply, State.hello, State.offer, State.kick])
      (by simp [State.reply, State.hello, State.offer, State.kick])

theorem Action.capped (h : Action s t) (hs : s.Capped) : t.Capped := by
  have hlinks : State.Capped { s with linkA := LinkState.reset, linkB := LinkState.reset } := hs
  cases h with
  | host h => exact h.capped hs
  | elsewhere h => exact hs.of_buffers h.buffers
  | released h k =>
    have hfree : (s.setBusState .free).Capped := hs
    exact (LaneRuns.capped h hfree).of_buffers k.buffers
  | latch a => exact hs
  | partReset c => exact hs.poolReset.of_buffers (by simp [State.partReset, State.hello, State.blocksReset])
  | powerOn r1 r0 => exact hlinks.poolReset.of_buffers (by simp [State.powerOn, State.hello, State.blocksReset])
  | nrstHeld => exact hlinks.poolReset

theorem Action.waits (h : Action s t) (hs : s.Waits) : t.Waits := by
  cases h with
  | host h => exact h.waits hs
  | elsewhere h => exact hs.of_same h.buffers (by rw [h.waitList])
  | released h k =>
    have hfree : (s.setBusState .free).Waits := hs.of_same rfl (.refl _)
    exact (LaneRuns.waits h hfree).of_same k.buffers (by rw [k.waitList])
  | latch a => exact hs.of_same rfl (.refl _)
  | partReset c =>
    exact s.poolReset_waits.of_same (by simp [State.partReset, State.hello, State.blocksReset])
      (by simp [State.partReset, State.hello, State.blocksReset])
  | powerOn r1 r0 =>
    exact (State.poolReset_waits { s with linkA := LinkState.reset, linkB := LinkState.reset }).of_same
      (by simp [State.powerOn, State.hello, State.blocksReset]) (by simp [State.powerOn, State.hello, State.blocksReset])
  | nrstHeld =>
    exact (State.poolReset_waits { s with linkA := LinkState.reset, linkB := LinkState.reset }).of_same rfl (.refl _)

end

/-- Settles O9: the cap and the law of the wait list, action by action. -/
theorem everyStepKeepsThePool : Obligations.EveryStepKeepsThePool := by
  unfold Obligations.EveryStepKeepsThePool
  intro s t hs hw hstep
  rw [State.poolKept_iff] at hs ⊢
  rw [State.waitLaw_iff] at hw ⊢
  exact ⟨step_keeps (fun _ _ h => h) Action.capped hstep hs,
    step_keeps (fun _ _ h => ⟨h.nodup, h.noneFree⟩) Action.waits hstep hw⟩

end Sys2Proof.Machine
end

section
/-! PROOFS. A law of the whole part that no single action keeps is kept by the events: what has to be shown of it, event by
event, and the step that follows. -/

namespace Sys2Proof.Machine

/-- One move of a link that touches neither its jobs nor its lane: a reply, a condition, the framer, and the intake. -/
inductive PlainMove : LinkState → LinkState → Prop
  | reply (x : LinkState) (e : Entry) (he : e.isReply = true) (h : x.replies < Config.replyPlaces) : PlainMove x (x.push e)
  | raise (x : LinkState) (c : Condition) : PlainMove x (x.raise c)
  | hunt (x : LinkState) : PlainMove x x.hunt
  | inFrame (x : LinkState) (taken : List Byte) : PlainMove x (x.inFrame taken)
  | breakDetected (x : LinkState) : PlainMove x { x.hunt with breakDetected := true }
  | breakEnded (x : LinkState) : PlainMove x { x with breakDetected := false }
  | intake (x : LinkState) (f : ReqFrame) : PlainMove x { x with intake := x.intake ++ [f] }
  | handOn (x : LinkState) (rest : List ReqFrame) : PlainMove x { x with intake := rest }
  | replySent (x : LinkState) (e : Entry) (es : List Entry) (h : x.outbound = e :: es) (k : e.isReply = true) :
    PlainMove x (x.sent es)

/-- The law is kept by what each event does, at the grain at which the model names it. -/
structure Kept (P : State → Prop) : Prop where
  queue : ∀ s rest, P s → P { s with pending := rest }
  kick : ∀ s, P s → P s.kick
  plain : ∀ {s l f}, PlainMove (s.link l) (f (s.link l)) → P s → P (s.onLink l f)
  request : ∀ {s : State} {l : Link} (r : Request), (s.link l).replies < Config.replyPlaces →
    ((s.link l).session = .closed → takenClosed r.code = true) → P s → P (s.takeRequest l r)
  linkReset : ∀ s l c, P s → P (s.linkReset l c)
  dataArrives : ∀ s l tag payload, P s → P (s.dataArrives l tag payload)
  noticeSent : ∀ {s : State} {l : Link} {n : Notice} {es : List Entry}, (s.link l).outbound = .notice n :: es → P s →
    P (s.onLink l (fun x => (x.sent es).overflowNotice))
  dataSent : ∀ {s : State} {l : Link} {t n k : Nat} {b : BufId} {es : List Entry}, (s.link l).transmitting = true →
    (s.link l).outbound = .data t n k b :: es → P s → P (((s.onLink l (LinkState.sent es)).freeBuf b).settle l)
  creditSent : ∀ {s : State} {l : Link} {t n : Nat} {es : List Entry}, (s.link l).transmitting = true →
    (s.link l).outbound = .credit t n :: es → P s →
    P ((s.onLink l (LinkState.sent es)).placeFreed l (.credit t n))
  partReset : ∀ s c, P s → P (s.partReset c)
  powerOn : ∀ s r1 r0, P s → P (s.powerOn r1 r0)
  nrstHeld : ∀ s, P s → P s.nrstHeld
  holdExpires : ∀ s l, P s → P (s.holdExpires l)
  dataExpires : ∀ s l, P s → P (s.dataExpires l)
  presPin : ∀ s i b, P s → P (s.onSlot i (fun x => { x with presPin := b }))
  tripPin : ∀ s i b, P s → P (s.onSlot i (fun x => { x with tripPin := b }))
  wpPin : ∀ s i, P s → P (s.onSlot i (fun x => { x with wpPin := !x.wpPin }))
  wpMeasure : ∀ s i, P s → P (s.onSlot i Slot.wpMeasure)
  latchPin : ∀ s, P s → P { s with latchPin := !s.latchPin }
  latchMeasure : ∀ s, P s → P s.latchMeasure
  latchAccepted : ∀ s c first, P s → P (s.latchAccepted c first)
  presAsserted : ∀ s i, P s → P (s.presAsserted i)
  presDeasserted : ∀ s i, P s → P (s.presDeasserted i)
  settleExpires : ∀ s i, (s.slot i).settleTimer ≠ .stopped → P s → P (s.settleExpires i)
  rampExpires : ∀ s i, (s.slot i).rampTimer ≠ .stopped → P s → P (s.rampExpires i)
  tripped : ∀ s i, (s.slot i).state.powered = true → P s → P (s.tripped i)
  wpAccepted : ∀ s i, P s → P (s.wpAccepted i)
  grantReaches : ∀ s, P s → P s.grantReaches
  respond : ∀ s r md mdp mperr, P s → P (s.onBus (Bus.respond r md mdp mperr))
  responseSeen : ∀ s, P s → P s.responseSeen
  waitEnds : ∀ s, P s → P s.waitEnds
  release : ∀ s, P s → P (s.onBus (fun b => { b with mack := false, mrej := false, late := false }))
  linesReleased : ∀ s, P s → P s.linesReleased
  watchdogExpires : ∀ s, P s → P s.watchdogExpires

namespace Kept

variable {P : State → Prop} (h : Kept P) {s : State} {l : Link}
include h

theorem reply (hr : (s.link l).replies < Config.replyPlaces) (hs : P s) (code : Nat) (r : ReplyCode) (items : List Item) :
    P (s.reply l code r items) := h.plain (.reply _ _ rfl hr) hs

/-! Hand-off and arriving frames (R160 to R164) -/

theorem answer (hr : (s.link l).replies < Config.replyPlaces) (hs : P s) {code : Nat} {owner : State → State}
    (ho : ((s.link l).session = .closed → takenClosed code = true) → P (owner s)) : P (s.answer l code owner) := by
  unfold State.answer
  split
  next => exact h.reply hr hs _ _ _
  next hno => exact ho fun hc => by simpa [hc] using hno

theorem serve (hr : (s.link l).replies < Config.replyPlaces) (hs : P s) (f : ReqFrame) : P (s.serve l f) := by
  unfold State.serve
  split
  next =>
    refine h.answer hr hs fun hc => ?_
    unfold State.takePayload
    split
    next => exact h.reply hr hs _ _ _
    next r hp => exact h.request r hr (fun hs => parseRequest_code hp ▸ hc hs) hs
  next => exact h.reply hr hs _ _ _

theorem handOff (hs : P s) (l : Link) : P (s.handOff l) := by
  unfold State.handOff
  split
  next => exact hs
  next f rest _ =>
    split
    next hc =>
      refine h.serve ?_ (h.plain (.handOn _ rest) hs) f
      rw [State.onLink_link]
      exact (LinkState.canHandOn_iff.mp hc).1
    next => exact hs

theorem requestArrives (hs : P s) (l : Link) (f : ReqFrame) : P (s.requestArrives l f) := by
  unfold State.requestArrives
  split
  next => exact hs
  next =>
    split
    next => exact h.handOff (h.plain (.intake _ f) hs) l
    next => exact h.plain (.raise _ _) hs

theorem discardFrame (hs : P s) (l : Link) : P (s.discardFrame l) := h.plain (.raise _ _) (h.plain (.hunt _) hs)

theorem frameArrives (hs : P s) (l : Link) (kind tag : Byte) (payload : List Byte) :
    P (s.frameArrives l kind tag payload) := by
  have hhunt := h.plain (l := l) (.hunt _) hs
  unfold State.frameArrives
  simp only
  split
  next => exact h.requestArrives hhunt l _
  next =>
    unfold State.dataFrameArrives
    split
    next => exact h.dataArrives _ l _ _ hhunt
    next => exact hhunt

theorem takeByte (hs : P s) (l : Link) (taken : List Byte) : P (s.takeByte l taken) := by
  unfold State.takeByte
  split
  next => exact h.plain (.inFrame _ taken) hs
  next => exact h.discardFrame hs l
  next => exact h.frameArrives hs l _ _ _

theorem levelsArrive (hs : P s) (l : Link) (levels : LineLevels) : P (s.levelsArrive l levels) := by
  unfold State.levelsArrive
  split
  next => exact hs
  next =>
    unfold State.characterArrives
    split
    next => exact hs
    next =>
      split
      next => exact hs
      next =>
        split
        next => exact h.takeByte hs l _
        next => exact hs
      next => exact h.discardFrame hs l
      next => exact h.takeByte hs l _

theorem wholeFrame (hs : P s) (l : Link) (kind tag : Byte) (limit : Nat) (payload : List Byte) :
    P (s.wholeFrame l kind tag limit payload) := by
  unfold State.wholeFrame
  split
  next => exact hs
  next =>
    split
    next => exact h.discardFrame hs l
    next => exact h.frameArrives hs l _ _ _

theorem transmissionEnds (hs : P s) (l : Link) : P (s.transmissionEnds l) := by
  unfold State.transmissionEnds
  split
  next e es ht ho =>
    have hsent : e.isReply = true → P (s.onLink l (LinkState.sent es)) := fun he => h.plain (.replySent _ e es ho he) hs
    simp only
    split
    next hr =>
      refine h.partReset _ _ (hsent ?_)
      simp only [LinkState.endsRstp, Bool.and_eq_true] at hr
      cases e <;> simp_all [Entry.isRstpReply, Entry.isReply]
    next =>
      cases e with
      | reply => exact h.handOff (hsent rfl) l
      | hello => exact h.handOff (hsent rfl) l
      | notice n =>
        simp only [State.placeFreed, State.onLink_onLink]
        exact h.noticeSent ho hs
      | data t n k b => exact h.dataSent ht ho hs
      | credit t n => exact h.creditSent ht ho hs
  next => exact hs

/-! Events and commands -/

theorem event {f : State → State} (hs : P s) (hf : P (f s)) : P (event s f) := by
  unfold Machine.event
  split
  next => exact hs
  next => exact h.kick _ hf

theorem eventIf {c : State → Prop} [DecidablePred c] {f : State → State} (hs : P s) (hf : ¬ c s → P (f s)) :
    P (Machine.event s (fun t => if c t then t else f t)) := by
  refine h.event hs ?_
  split
  next => exact hs
  next hc => exact hf hc

theorem pinEvent {p f : State → State} (hp : P (p s)) (hs : P s) (hf : P (f (p s))) : P (pinEvent s p f) := by
  unfold Machine.pinEvent
  split
  next => exact hp
  next => exact h.event hs hf

/-- The law holds of the outcome, if there is one. -/
theorem handed_next {code : Nat} {owner : State → State} {t : State} (hs : P s) (he : handed s l code owner = .next t)
    (ho : (s.link l).replies < Config.replyPlaces → ((s.link l).session = .closed → takenClosed code = true) →
      P (owner s)) : P t := by
  rw [handed] at he
  rw [← Host.Outcome.next.inj he]
  split
  next hc =>
    have hr := (LinkState.canHandOn_iff.mp hc).1
    exact h.event hs (h.answer hr hs (ho hr))
  next => exact hs

theorem exec_next {c : Instr} {t : State} (hs : P s) (he : exec c s = .next t) : P t := by
  have hnext : ∀ {u : State}, P u → (Host.Outcome.next u : Result) = .next t → P t := fun hu e =>
    Host.Outcome.next.inj e ▸ hu
  have hreq : ∀ (l : Link) (r : Request), handed s l r.code (fun t => t.takeRequest l r) = .next t → P t := fun l r e =>
    h.handed_next hs e fun hr hc => h.request r hr hc hs
  cases c with
  | openSession l d k => exact hreq l (.openSession d k) he
  | closeSession l => exact hreq l .closeSession he
  | rstl l => exact hreq l .rstl he
  | rstp l => exact hreq l .rstp he
  | nsub l m => exact hreq l (.nsub m) he
  | nack l c => exact hreq l (.nack c) he
  | nget l => exact hreq l .nget he
  | wset l a => exact hreq l (.wset a) he
  | wrel l n => exact hreq l (.wrel n) he
  | wget l n => exact hreq l (.wget n) he
  | spwrOn l n f => exact hreq l (.spwr n 1 f) he
  | spwrOff l n f => exact hreq l (.spwr n 0 f) he
  | scfg l n v => exact hreq l (.scfg n v) he
  | sclr l n => exact hreq l (.sclr n) he
  | sget l n => exact hreq l (.sget n) he
  | jsub l a => exact hreq l (.jsub a) he
  | jpau l n => exact hreq l (.jpau n) he
  | jres l n => exact hreq l (.jres n) he
  | jcan l n => exact hreq l (.jcan n) he
  | jget l n => exact hreq l (.jget n) he
  | jlst l => exact hreq l .jlst he
  | unknownRequest l code =>
    refine hnext ?_ he
    split
    next hc =>
      rw [Bool.and_eq_true] at hc
      exact h.event hs (h.reply (LinkState.canHandOn_iff.mp hc.1).1 hs _ _ _)
    next => exact hs
  | reqFrameArrives l code p => exact hnext (h.event hs (h.wholeFrame hs l _ _ _ _)) he
  | datFrameArrives l tag p => exact hnext (h.event hs (h.wholeFrame hs l _ _ _ _)) he
  | frameDiscard l => exact hnext (h.eventIf hs fun _ => h.discardFrame hs l) he
  | gapTimerExpiry l => exact hnext (h.eventIf hs fun _ => h.discardFrame hs l) he
  | breakDetected l => exact hnext (h.event hs (h.plain (.breakDetected _) hs)) he
  | breakEnds l => exact hnext (h.event hs (h.linkReset _ l _ (h.plain (.breakEnded _) hs))) he
  | transmissionEnd l => exact hnext (h.event hs (h.transmissionEnds hs l)) he
  | powerOnReset r1 r0 => exact hnext (h.kick _ (h.powerOn s r1 r0 hs)) he
  | presAssert i =>
    have hp := h.presPin s i true hs
    exact hnext (h.pinEvent (f := fun t => t.presAsserted i) hp hs (h.presAsserted _ i hp)) he
  | presDeassert i =>
    have hp := h.presPin s i false hs
    exact hnext (h.pinEvent hp hs (h.presDeasserted _ i hp)) he
  | settleTimerExpiry i => exact hnext (h.eventIf hs fun ht => h.settleExpires s i ht hs) he
  | rampTimerExpiry i => exact hnext (h.eventIf hs fun ht => h.rampExpires s i ht hs) he
  | trip i a =>
    have hp := h.tripPin s i a hs
    refine hnext (h.pinEvent hp hs ?_) he
    split
    next hc =>
      rw [Bool.and_eq_true] at hc
      exact h.tripped _ i hc.2 hp
    next => exact hp
  | wpPinChange i =>
    have hp := h.wpPin s i hs
    exact hnext (h.pinEvent hp hs (h.wpMeasure _ i hp)) he
  | wpDebounceExpiry i => exact hnext (h.eventIf hs fun _ => h.wpAccepted s i hs) he
  | baylatchPinChange =>
    have hp := h.latchPin s hs
    exact hnext (h.pinEvent hp hs (h.latchMeasure _ hp)) he
  | latchDebounceExpiry c f => exact hnext (h.eventIf hs fun _ => h.latchAccepted s c f hs) he
  | grant => exact hnext (h.event hs (h.grantReaches s hs)) he
  | wordResponse r md mdp mperr =>
    have hp := h.respond s r md mdp mperr hs
    exact hnext (h.pinEvent hp hs (h.responseSeen _ hp)) he
  | responseWatchdogExpiry => exact hnext (h.event hs (h.watchdogExpires s hs)) he
  | holdTimerExpiry l => exact hnext (h.event hs (h.holdExpires s l hs)) he
  | dataTimerExpiry l => exact hnext (h.event hs (h.dataExpires s l hs)) he
  | characterReceived l levels => exact hnext (h.event hs (h.levelsArrive hs l levels)) he
  | nrstAssert => exact hnext (h.nrstHeld s hs) he
  | waitTimeEnd => exact hnext (h.event hs (h.waitEnds s hs)) he
  | responseLinesReleased =>
    have hp := h.release s hs
    exact hnext (h.pinEvent hp hs (h.linesReleased _ hp)) he

theorem step_next {t : State} (hs : P s) (hstep : step s = .next t) : P t := by
  rcases step_eq_next hstep with rfl | ⟨c, rest, -, he⟩
  · exact hs
  · exact h.exec_next (h.queue s rest hs) he

end Kept

end Sys2Proof.Machine
end

section
/-! PROOFS. The slot records, the three sequencers and the slot of the transfer in flight (R100, R101, R105 to R107, R126,
R136): kept by every event. -/

namespace Sys2Proof.Machine

/-! The slot record (R100, R101, R102, R106, R136) -/

/-- `Slot.law`, field by field. -/
structure Slot.Law (x : Slot) : Prop where
  fault : x.faultKind.isSome = true ↔ x.state = .faulted
  identity : x.identity.isSome = true ↔ x.state = .ready ∨ x.state = .draining
  settle : x.settleTimer ≠ .stopped ↔ x.state = .settling
  ramp : x.rampTimer ≠ .stopped ↔ x.state = .ramping
  count : x.noResponse ≤ Config.noResponseMax
  live : x.state = .ready ∨ x.state = .draining → x.noResponse < Config.noResponseMax

theorem beq_bool_iff {a b : Bool} : (a == b) = true ↔ (a = true ↔ b = true) := by rw [beq_iff_eq, Bool.eq_iff_iff]

theorem Slot.law_iff {x : Slot} : x.law = true ↔ x.Law := by
  simp only [Slot.law, Bool.and_eq_true, beq_bool_iff]
  simp only [Bool.or_eq_true, bne_iff_ne, decide_eq_true_eq, beq_iff_eq]
  exact ⟨fun ⟨⟨⟨⟨⟨h1, h2⟩, h3⟩, h4⟩, h5⟩, h6⟩ => ⟨h1, h2, h3, h4, h5, h6⟩,
    fun ⟨h1, h2, h3, h4, h5, h6⟩ => ⟨⟨⟨⟨⟨h1, h2⟩, h3⟩, h4⟩, h5⟩, h6⟩⟩

/-- A state in which the record holds nothing and no timer runs (R101). -/
def SlotPhase.bare (p : SlotPhase) : Prop := p = .empty ∨ p = .present ∨ p = .queuedForPower ∨ p = .identifying

/-- A state in which a slot stands in none of the three sequencers (R105 to R107). -/
def SlotPhase.unlisted (p : SlotPhase) : Prop := p ≠ .queuedForPower ∧ p ≠ .identifying ∧ p ≠ .ramping

/-- A state in which a transfer may be in flight to a slot (R126). -/
def SlotPhase.served (p : SlotPhase) : Prop := p = .ready ∨ p = .draining ∨ p = .identifying

section
variable {x : Slot}

theorem Slot.Law.enter (h : x.Law) {p : SlotPhase} (hp : p.bare) : (x.enter p).Law := by
  rcases hp with rfl | rfl | rfl | rfl <;> exact ⟨by simp [Slot.enter], by simp [Slot.enter], by simp [Slot.enter],
    by simp [Slot.enter], h.count, by simp [Slot.enter]⟩

theorem Slot.Law.fail (h : x.Law) (k : FaultKind) : (x.fail k).Law :=
  ⟨by simp [Slot.fail, Slot.enter], by simp [Slot.fail, Slot.enter], by simp [Slot.fail, Slot.enter],
    by simp [Slot.fail, Slot.enter], h.count, by simp [Slot.fail, Slot.enter]⟩

theorem Slot.accept_law (d : Identity) (x : Slot) : (x.accept d).Law :=
  ⟨by simp [Slot.accept, Slot.enter], by simp [Slot.accept, Slot.enter], by simp [Slot.accept, Slot.enter],
    by simp [Slot.accept, Slot.enter], Nat.zero_le _, fun _ => by simp [Slot.accept, Config.noResponseMax]⟩

theorem Slot.Law.settleStart (h : x.Law) (hx : x.state = .empty) : x.settleStart.Law := by
  obtain ⟨hf, hi, -, hr, hc, -⟩ := h
  simp only [hx, reduceCtorEq, or_self, iff_false, not_not] at hf hi hr
  exact ⟨by simpa [Slot.settleStart] using hf, by simpa [Slot.settleStart] using hi, by simp [Slot.settleStart],
    by simpa [Slot.settleStart] using hr, hc, by simp [Slot.settleStart]⟩

theorem Slot.Law.rampStart (h : x.Law) (n : Nat) : ({ x.enter .ramping with rampTimer := .running n } : Slot).Law :=
  ⟨by simp [Slot.enter], by simp [Slot.enter], by simp [Slot.enter], by simp [Slot.enter], h.count, by simp [Slot.enter]⟩

theorem Slot.Law.drain (h : x.Law) (hx : x.state = .ready) : ({ x with state := .draining } : Slot).Law := by
  obtain ⟨hf, hi, hs, hr, hc, hl⟩ := h
  simp only [hx, reduceCtorEq, or_false, iff_false, iff_true, true_implies] at hf hi hs hr hl
  exact ⟨by simpa using hf, by simpa using hi, by simpa using hs, by simpa using hr, hc, fun _ => hl⟩

theorem Slot.Law.counted (h : x.Law) {n : Nat} (hn : n ≤ Config.noResponseMax)
    (hl : x.state = .ready ∨ x.state = .draining → n < Config.noResponseMax) : ({ x with noResponse := n } : Slot).Law :=
  ⟨h.fault, h.identity, h.settle, h.ramp, hn, hl⟩

/-- Of a slot that stands in a sequencer or settles, the record holds nothing. -/
theorem Slot.held_law (y : Slot) : y.held.Law := by
  constructor <;> simp [Slot.held, Slot.reset]

theorem Slot.sampled_law (y : Slot) : y.sampled.Law := by
  unfold Slot.sampled
  simp only
  split <;> constructor <;> simp [Slot.held, Slot.reset]

theorem Slot.sampled_unlisted (y : Slot) : y.sampled.state.unlisted := by
  unfold Slot.sampled
  simp only
  split <;> simp [SlotPhase.unlisted, Slot.held, Slot.reset]

end

/-! The sequencers and the transfer in flight -/

/-- Each slot record keeps its law, and each sequencer holds exactly the slots of its state, each once (R105 to R107). -/
structure State.Sequenced (s : State) : Prop where
  law : ∀ i, (s.slot i).Law
  waitNodup : s.powerWait.Nodup
  identNodup : s.identQueue.Nodup
  wait : ∀ i, i ∈ s.powerWait ↔ (s.slot i).state = .queuedForPower
  ident : ∀ i, i ∈ s.identQueue ↔ (s.slot i).state = .identifying
  ramp : ∀ i, s.ramping = some i ↔ (s.slot i).state = .ramping

/-- The slot of a transfer is in the state that R126 gives. -/
def State.Serves (s : State) (x : Transfer) : Prop :=
  match x.requester with
  | .lane _ => (s.slot x.slot).state = .ready ∨ (s.slot x.slot).state = .draining
  | .identify => (s.slot x.slot).state = .identifying

/-- A transfer in flight to a slot other than the one given, if one is, goes to a slot in the state that R126 gives. -/
def State.FlightBut (s : State) (i : Option SlotId) : Prop :=
  ∀ x, s.bus.state = .inFlight x → i ≠ some x.slot → s.Serves x

/-- The laws of slots, sequencers and transfer together; the transfer to the slot given is left out. -/
structure State.SlotsBut (s : State) (i : Option SlotId) : Prop where
  sequenced : s.Sequenced
  flight : s.FlightBut i

section
variable {s t : State} {i : SlotId} {o : Option SlotId}

theorem State.slotsLaw_iff : s.slotsKept = true ∧ s.sequencersLaw = true ↔ s.SlotsBut none := by
  have hslots : s.slots.toList.all Slot.law = true ↔ ∀ i, (s.slot i).Law := by
    simp only [List.all_eq_true, Slot.law_iff]
    refine ⟨fun h i => h _ (by simp [State.slot, Vector.get]), fun h x hx => ?_⟩
    obtain ⟨k, hk, rfl⟩ := Vector.mem_iff_getElem.mp (Vector.mem_toList_iff.mp hx)
    exact h ⟨k, hk⟩
  have hflight : s.flightLaw = true ↔ s.FlightBut none := by
    unfold State.flightLaw State.FlightBut State.Serves
    cases hb : s.bus.state with
    | free => simp
    | granted g => simp
    | inFlight x => cases hx : x.requester <;> simp [hx]
  have hseq : s.sequencersLaw = true ↔ s.powerWait.Nodup ∧ s.identQueue.Nodup ∧ ∀ i,
      (i ∈ s.powerWait ↔ (s.slot i).state = .queuedForPower) ∧
        (i ∈ s.identQueue ↔ (s.slot i).state = .identifying) ∧ (s.ramping = some i ↔ (s.slot i).state = .ramping) := by
    simp only [State.sequencersLaw, Bool.and_eq_true, decide_eq_true_eq, List.all_eq_true, List.mem_finRange,
      forall_const, beq_bool_iff, and_assoc]
    simp only [beq_iff_eq]
  simp only [State.slotsKept, Bool.and_eq_true, hslots, hflight, hseq]
  constructor
  · rintro ⟨⟨hl, hf⟩, hw, hq, hall⟩
    exact ⟨⟨hl, hw, hq, fun i => (hall i).1, fun i => (hall i).2.1, fun i => (hall i).2.2⟩, hf⟩
  · rintro ⟨⟨hl, hw, hq, h1, h2, h3⟩, hf⟩
    exact ⟨⟨hl, hf⟩, hw, hq, fun i => ⟨h1 i, h2 i, h3 i⟩⟩

theorem State.Serves.served (h : s.Serves x) : (s.slot x.slot).state.served := by
  unfold State.Serves at h
  split at h
  next => exact h.elim .inl fun h => .inr (.inl h)
  next => exact .inr (.inr h)

theorem State.Serves.of_slot {x : Transfer} (h : s.Serves x) (hslot : t.slot x.slot = s.slot x.slot) : t.Serves x := by
  unfold State.Serves at h ⊢
  rwa [hslot]

/-- What the hosts' side leaves keeps the laws. -/
theorem State.SameModules.slotsBut (h : s.SameModules t) (hs : s.SlotsBut o) : t.SlotsBut o := by
  have hslot : ∀ i, t.slot i = s.slot i := fun i => by rw [State.slot, State.slot, h.slots]
  obtain ⟨⟨hl, hw, hq, h1, h2, h3⟩, hf⟩ := hs
  refine ⟨⟨?_, ?_, ?_, ?_, ?_, ?_⟩, fun x hx hne => (hf x (h.flight x hx) hne).of_slot (hslot _)⟩
  · exact fun i => hslot i ▸ hl i
  · exact h.powerWait ▸ hw
  · exact h.identQueue ▸ hq
  · exact fun i => by rw [h.powerWait, hslot]; exact h1 i
  · exact fun i => by rw [h.identQueue, hslot]; exact h2 i
  · exact fun i => by rw [h.ramping, hslot]; exact h3 i

theorem HostRuns.slotsBut (h : HostRuns s t) (hs : s.SlotsBut o) : t.SlotsBut o := h.modules.slotsBut hs

theorem LaneRuns.slotsBut (h : LaneRuns s t) (hs : s.SlotsBut o) : t.SlotsBut o := h.toHost.slotsBut hs

/-! Changes of one slot -/

/-- One slot changes with its membership of the sequencers; that of the others stays. -/
theorem State.Sequenced.change (hs : s.Sequenced) (hslot : ∀ k, k ≠ i → t.slot k = s.slot k) (hlaw : (t.slot i).Law)
    (hw : t.powerWait.Nodup) (hq : t.identQueue.Nodup)
    (hothers : ∀ k, k ≠ i → (k ∈ t.powerWait ↔ k ∈ s.powerWait) ∧ (k ∈ t.identQueue ↔ k ∈ s.identQueue) ∧
      (t.ramping = some k ↔ s.ramping = some k))
    (hi : (i ∈ t.powerWait ↔ (t.slot i).state = .queuedForPower) ∧ (i ∈ t.identQueue ↔ (t.slot i).state = .identifying) ∧
      (t.ramping = some i ↔ (t.slot i).state = .ramping)) : t.Sequenced := by
  have hall : ∀ k, (t.slot k).Law ∧ (k ∈ t.powerWait ↔ (t.slot k).state = .queuedForPower) ∧
      (k ∈ t.identQueue ↔ (t.slot k).state = .identifying) ∧ (t.ramping = some k ↔ (t.slot k).state = .ramping) := by
    intro k
    by_cases hk : k = i
    · subst hk
      exact ⟨hlaw, hi⟩
    · obtain ⟨h1, h2, h3⟩ := hothers k hk
      rw [hslot k hk]
      exact ⟨hs.law k, h1.trans (hs.wait k), h2.trans (hs.ident k), h3.trans (hs.ramp k)⟩
  exact ⟨fun k => (hall k).1, hw, hq, fun k => (hall k).2.1, fun k => (hall k).2.2.1, fun k => (hall k).2.2.2⟩

/-- The sequencers hold no slot that is in none of their states. -/
theorem State.Sequenced.unlisted (hs : s.Sequenced) (h : (s.slot i).state.unlisted) :
    i ∉ s.powerWait ∧ i ∉ s.identQueue ∧ s.ramping ≠ some i :=
  ⟨mt (hs.wait i).mp h.1, mt (hs.ident i).mp h.2.1, mt (hs.ramp i).mp h.2.2⟩

/-- The record of a slot changes and the slot stays in its sequencers, or stays out of them. -/
theorem State.Sequenced.onSlot (hs : s.Sequenced) {f : Slot → Slot} (hlaw : (f (s.slot i)).Law)
    (hstate : (f (s.slot i)).state = (s.slot i).state ∨
      (f (s.slot i)).state.unlisted ∧ (s.slot i).state.unlisted) : (s.onSlot i f).Sequenced := by
  refine hs.change (i := i) (fun k hk => State.onSlot_slot_ne s hk f) (by rwa [State.onSlot_slot]) hs.waitNodup
    hs.identNodup (fun _ _ => ⟨.rfl, .rfl, .rfl⟩) ?_
  rw [State.onSlot_slot]
  rcases hstate with h | ⟨⟨h1, h2, h3⟩, hold⟩
  · rw [h]
    exact ⟨hs.wait i, hs.ident i, hs.ramp i⟩
  · obtain ⟨k1, k2, k3⟩ := hs.unlisted hold
    exact ⟨iff_of_false k1 h1, iff_of_false k2 h2, iff_of_false k3 h3⟩

/-- The transfer in flight does not see a change of a slot that no transfer can be in flight to. -/
theorem State.FlightBut.change (hs : s.FlightBut o) (hbus : ∀ x, t.bus.state = .inFlight x → s.bus.state = .inFlight x)
    (hslot : ∀ k, (s.slot k).state.served → t.slot k = s.slot k) : t.FlightBut o := fun x hx hne => by
  have hserves := hs x (hbus x hx) hne
  exact hserves.of_slot (hslot _ hserves.served)

theorem State.FlightBut.onSlot (hs : s.FlightBut o) (f : Slot → Slot)
    (h : ¬ (s.slot i).state.served ∨ (f (s.slot i)).state = (s.slot i).state) : (s.onSlot i f).FlightBut o := by
  intro x hx hne
  have hserves := hs x hx hne
  by_cases hi : x.slot = i
  · rcases h with h | h
    · exact absurd (hi ▸ hserves.served) h
    · unfold State.Serves at hserves ⊢
      rw [hi, State.onSlot_slot, h, ← hi]
      exact hserves
  · exact hserves.of_slot (State.onSlot_slot_ne s hi f)

/-- A change of a record that keeps its state. -/
theorem State.SlotsBut.onSlot (hs : s.SlotsBut o) {f : Slot → Slot} (hlaw : (f (s.slot i)).Law)
    (hstate : (f (s.slot i)).state = (s.slot i).state) : (s.onSlot i f).SlotsBut o :=
  ⟨hs.sequenced.onSlot hlaw (.inl hstate), hs.flight.onSlot f (.inr hstate)⟩

/-- A change between states of no sequencer, from one in which no transfer is in flight. -/
theorem State.SlotsBut.move (hs : s.SlotsBut o) {f : Slot → Slot} (hlaw : (f (s.slot i)).Law)
    (hnew : (f (s.slot i)).state.unlisted) (hold : (s.slot i).state.unlisted) (hserved : ¬ (s.slot i).state.served) :
    (s.onSlot i f).SlotsBut o :=
  ⟨hs.sequenced.onSlot hlaw (.inr ⟨hnew, hold⟩), hs.flight.onSlot f (.inl hserved)⟩

/-! The sequencers' own steps -/

/-- The slot leaves every sequencer. -/
theorem State.Sequenced.leave (hs : s.Sequenced) {f : Slot → Slot} (hlaw : (f (s.slot i)).Law)
    (hnew : (f (s.slot i)).state.unlisted) : ((s.onSlot i f).leaveSequencers i).Sequenced := by
  have hslot : ∀ k, ((s.onSlot i f).leaveSequencers i).slot k = (s.onSlot i f).slot k := fun _ => rfl
  obtain ⟨h1, h2, h3⟩ := hnew
  refine hs.change (i := i) (fun k hk => (hslot k).trans (State.onSlot_slot_ne s hk f)) ?_ ?_ ?_ (fun k hk => ?_) ?_
  · rwa [hslot, State.onSlot_slot]
  · exact hs.waitNodup.filter _
  · exact hs.identNodup.filter _
  · refine ⟨by simp [State.leaveSequencers, hk], by simp [State.leaveSequencers, hk], ?_⟩
    by_cases h : s.ramping = some i <;> simp [State.leaveSequencers, h, Ne.symm hk]
  · rw [hslot, State.onSlot_slot]
    refine ⟨iff_of_false (by simp [State.leaveSequencers]) h1, iff_of_false (by simp [State.leaveSequencers]) h2,
      iff_of_false ?_ h3⟩
    by_cases h : s.ramping = some i <;> simp [State.leaveSequencers, h]

/-- A slot that leaves its state is lost to a transfer in flight to it alone. -/
theorem State.FlightBut.leave (hs : s.FlightBut none) (f : Slot → Slot) :
    ((s.onSlot i f).leaveSequencers i).FlightBut (some i) := fun x hx hne =>
  (hs x hx (by simp)).of_slot (State.onSlot_slot_ne s (fun e => hne (by rw [e])) f)

theorem State.SlotsBut.leave (hs : s.SlotsBut none) {f : Slot → Slot} (hlaw : (f (s.slot i)).Law)
    (hnew : (f (s.slot i)).state.unlisted) : ((s.onSlot i f).leaveSequencers i).SlotsBut (some i) :=
  ⟨hs.sequenced.leave hlaw hnew, hs.flight.leave f⟩

/-- No transfer is lost with a slot that none can be in flight to. -/
theorem State.SlotsBut.leave_unserved (hs : s.SlotsBut none) {f : Slot → Slot} (hlaw : (f (s.slot i)).Law)
    (hnew : (f (s.slot i)).state.unlisted) (hserved : ¬ (s.slot i).state.served) :
    ((s.onSlot i f).leaveSequencers i).SlotsBut none :=
  ⟨hs.sequenced.leave hlaw hnew, hs.flight.onSlot f (.inl hserved)⟩

theorem State.Sequenced.queueForPower (hs : s.Sequenced) (hold : (s.slot i).state.unlisted) :
    (s.queueForPower i).Sequenced := by
  obtain ⟨k1, k2, k3⟩ := hs.unlisted hold
  have hslot : ∀ k, (s.queueForPower i).slot k = (s.onSlot i (Slot.enter .queuedForPower)).slot k := fun _ => rfl
  refine hs.change (i := i) (fun k hk => (hslot k).trans (State.onSlot_slot_ne s hk _)) ?_ ?_ hs.identNodup
    (fun k hk => ⟨?_, .rfl, .rfl⟩) ?_
  · rw [hslot, State.onSlot_slot]
    exact (hs.law i).enter (.inr (.inr (.inl rfl)))
  · exact List.nodup_append.mpr ⟨hs.waitNodup, List.nodup_singleton i, fun a ha b hb e =>
      k1 (List.mem_singleton.mp hb ▸ e ▸ ha)⟩
  · simp [State.queueForPower, hk]
  · rw [hslot, State.onSlot_slot]
    exact ⟨by simp [State.queueForPower, Slot.enter], iff_of_false k2 (by simp [Slot.enter]),
      iff_of_false k3 (by simp [Slot.enter])⟩

theorem State.SlotsBut.queueForPower (hs : s.SlotsBut o) (hold : (s.slot i).state.unlisted)
    (hserved : ¬ (s.slot i).state.served) : (s.queueForPower i).SlotsBut o :=
  ⟨hs.sequenced.queueForPower hold, hs.flight.onSlot _ (.inl hserved)⟩

/-- The head of the power wait list is taken: it ramps, or is faulted where its TRIP is asserted. -/
theorem State.Sequenced.takeHead (hs : s.Sequenced) {rest : List SlotId} (hw : s.powerWait = i :: rest)
    {f : Slot → Slot} (hlaw : (f (s.slot i)).Law) {r : Option SlotId}
    (hr : (r = none ∧ s.ramping = none ∧ (f (s.slot i)).state.unlisted) ∨
      (s.ramping = none ∧ r = some i ∧ (f (s.slot i)).state = .ramping)) :
    (({ s with powerWait := rest, ramping := r } : State).onSlot i f).Sequenced := by
  have hnodup := hs.waitNodup
  rw [hw, List.nodup_cons] at hnodup
  have hnone : s.ramping = none := hr.elim (·.2.1) (·.1)
  have hqueued : (s.slot i).state = .queuedForPower := (hs.wait i).mp (by rw [hw]; exact List.mem_cons_self ..)
  have hident : i ∉ s.identQueue := mt (hs.ident i).mp (by rw [hqueued]; decide)
  refine hs.change (i := i) (fun k hk => State.onSlot_slot_ne _ hk f) (by rw [State.onSlot_slot]; exact hlaw) hnodup.2
    hs.identNodup (fun k hk => ⟨by simp [hw, hk], .rfl, ?_⟩) ?_
  · rcases hr with ⟨rfl, h, -⟩ | ⟨h, rfl, -⟩
    · simp [h]
    · simp [h, Ne.symm hk]
  · rw [State.onSlot_slot]
    change (_ ↔ (f (s.slot i)).state = _) ∧ (_ ↔ (f (s.slot i)).state = _) ∧ (_ ↔ (f (s.slot i)).state = _)
    rcases hr with ⟨rfl, h, h1, h2, h3⟩ | ⟨h, rfl, h3⟩
    · exact ⟨iff_of_false hnodup.1 h1, iff_of_false hident h2, iff_of_false (by simp) h3⟩
    · rw [h3]
      exact ⟨iff_of_false hnodup.1 (by decide), iff_of_false hident (by decide), by simp⟩

/-- The Ramp Sequencer's check touches no slot but those that wait for power, and not the bus. -/
theorem rampFrom_rest (w : List SlotId) (s : State) :
    (rampFrom w s).1.bus = s.bus ∧ ∀ k, k ∉ w → (rampFrom w s).1.slot k = s.slot k := by
  induction w generalizing s with
  | nil => exact ⟨rfl, fun _ _ => rfl⟩
  | cons i rest ih =>
    unfold rampFrom
    simp only
    split
    next =>
      obtain ⟨hb, hs⟩ := ih (({ s with powerWait := rest } : State).onSlot i (Slot.fail .overcurrent))
      refine ⟨hb, fun k hk => ?_⟩
      rw [List.mem_cons, not_or] at hk
      exact (hs k hk.2).trans (State.onSlot_slot_ne _ hk.1 _)
    next =>
      refine ⟨rfl, fun k hk => ?_⟩
      rw [List.mem_cons, not_or] at hk
      exact State.onSlot_slot_ne _ hk.1 _

theorem State.Sequenced.rampFrom (w : List SlotId) (hs : s.Sequenced) (hw : s.powerWait = w) (hr : s.ramping = none) :
    (rampFrom w s).1.Sequenced := by
  induction w generalizing s with
  | nil => exact ⟨hs.law, List.nodup_nil, hs.identNodup, fun k => by simpa [Machine.rampFrom, hw, State.slot] using hs.wait k, hs.ident, hs.ramp⟩
  | cons i rest ih =>
    unfold Machine.rampFrom
    simp only
    split
    next =>
      have hstep := hs.takeHead hw ((hs.law i).fail .overcurrent) (r := none)
        (.inl ⟨rfl, hr, by simp [SlotPhase.unlisted, Slot.fail, Slot.enter]⟩)
      refine ih (s := ({ s with powerWait := rest } : State).onSlot i (Slot.fail .overcurrent)) ?_ rfl hr
      simpa only [← hr] using hstep
    next =>
      exact hs.takeHead hw (f := fun x => { x.enter .ramping with rampTimer := .running Config.rampMs })
        ((hs.law i).rampStart _) (.inr ⟨hr, rfl, rfl⟩)

theorem State.SlotsBut.rampCheck (hs : s.SlotsBut o) : s.rampCheck.1.SlotsBut o := by
  unfold State.rampCheck
  split
  next => exact hs
  next hr =>
    obtain ⟨hb, hk⟩ := rampFrom_rest s.powerWait s
    refine ⟨hs.sequenced.rampFrom _ rfl hr, hs.flight.change (fun x hx => hb ▸ hx) fun k hserved => hk k ?_⟩
    rw [hs.sequenced.wait k]
    rcases hserved with h | h | h <;> simp [h]

theorem State.SlotsBut.rampStep (hs : s.SlotsBut o) : s.rampStep.SlotsBut o :=
  (HostRuns.raiseFaults _ _).slotsBut hs.rampCheck

theorem State.SlotsBut.rampAfter (hs : s.SlotsBut o) (p : SlotPhase) : (s.rampAfter p).SlotsBut o := by
  unfold State.rampAfter
  split
  next => exact hs.rampStep
  next => exact hs

theorem State.SameModules.onBus (s : State) (f : Bus → Bus)
    (h : ∀ x, (f s.bus).state = .inFlight x → s.bus.state = .inFlight x) : s.SameModules (s.onBus f) := by
  constructor <;> first | rfl | exact h

theorem State.SameModules.free (s : State) : s.SameModules (s.setBusState .free) :=
  .onBus s (fun b => { b with state := .free }) fun _ h => by cases h

theorem State.SameModules.decide (s : State) : s.SameModules (s.onBus Bus.decide) :=
  .onBus s _ fun x h => (Bus.decide_flight s.bus x).mp h

theorem State.SameModules.identStep (s : State) : s.SameModules s.identStep := by
  have hjoin : s.SameModules s.identJoin := by
    rcases State.identJoin_cases s with h | ⟨i, is, -, h⟩ <;> rw [h]
    · exact .refl s
    · exact .onBus s _ fun _ h => h
  exact hjoin.trans (.decide _)

/-- The transfer to the slot that has left its state is abandoned, and so the law of the transfer is whole again (R139). -/
theorem State.SlotsBut.abandonTransfer (hs : s.SlotsBut (some i)) (e : ErrorKind) :
    (s.abandonTransfer i e).SlotsBut none := by
  have hwhole : (∀ x, s.bus.state = .inFlight x → x.slot ≠ i) → s.SlotsBut none := fun h =>
    ⟨hs.sequenced, fun x hx _ => hs.flight x hx fun he => h x hx (Option.some.inj he).symm⟩
  have hfree : (s.setBusState .free).SlotsBut none := ⟨((State.SameModules.free s).slotsBut hs).sequenced, fun _ h => by cases h⟩
  unfold State.abandonTransfer
  split
  next x hx =>
    split
    next =>
      simp only
      split
      next m _ =>
        have hreport := (LaneRuns.takeReport _ m x.direction (.error e)).slotsBut hfree
        exact (LaneRuns.settle _ m).slotsBut (((State.SameModules.identStep _).trans (.decide _)).slotsBut hreport)
      next => exact ((State.SameModules.identStep _).trans (.decide _)).slotsBut hfree
    next hne =>
      exact (State.SameModules.identStep s).slotsBut (hwhole fun y hy => by rw [hx] at hy; cases hy; exact hne)
  next hx => exact (State.SameModules.identStep s).slotsBut (hwhole fun y hy => by rw [hx] at hy; cases hy)
  next hx => exact (State.SameModules.identStep s).slotsBut (hwhole fun y hy => by rw [hx] at hy; cases hy)

/-! Events of a slot (R102 to R122) -/

/-- A slot leaves its state and every sequencer, and its transfer is abandoned. -/
theorem State.SlotsBut.leaveState (hs : s.SlotsBut none) {f : Slot → Slot} (hlaw : (f (s.slot i)).Law)
    (hnew : (f (s.slot i)).state.unlisted) (c : Condition) (p : SlotPhase) (e : ErrorKind) :
    ((((((s.onSlot i f).leaveSequencers i).raiseBoth c).rampAfter p).abandonTransfer i e)).SlotsBut none :=
  (((HostRuns.raiseBoth _ c).slotsBut (hs.leave hlaw hnew)).rampAfter p).abandonTransfer e

theorem State.SlotsBut.presAsserted (hs : s.SlotsBut none) (i : SlotId) : (s.presAsserted i).SlotsBut none := by
  unfold State.presAsserted
  split
  next hx =>
    exact hs.move ((hs.sequenced.law i).settleStart hx) (by simp [SlotPhase.unlisted, Slot.settleStart])
      (by simp [SlotPhase.unlisted, hx]) (by simp [SlotPhase.served, hx])
  next => exact hs

theorem SlotPhase.unlisted_empty : SlotPhase.empty.unlisted := by simp [SlotPhase.unlisted]
theorem SlotPhase.unlisted_present : SlotPhase.present.unlisted := by simp [SlotPhase.unlisted]
theorem SlotPhase.unlisted_faulted : SlotPhase.faulted.unlisted := by simp [SlotPhase.unlisted]

theorem State.SlotsBut.presDeasserted (hs : s.SlotsBut none) (i : SlotId) : (s.presDeasserted i).SlotsBut none := by
  have hempty := (hs.sequenced.law i).enter (p := .empty) (.inl rfl)
  unfold State.presDeasserted
  split
  next => exact hs
  next hx =>
    exact hs.move hempty SlotPhase.unlisted_empty (by simp [SlotPhase.unlisted, hx]) (by simp [SlotPhase.served, hx])
  all_goals exact hs.leaveState hempty SlotPhase.unlisted_empty _ _ _

theorem State.SlotsBut.settleExpires (hs : s.SlotsBut none) (h : (s.slot i).settleTimer ≠ .stopped) :
    (s.settleExpires i).SlotsBut none := by
  have hx := (hs.sequenced.law i).settle.mp h
  have hpresent : (s.onSlot i (Slot.enter .present)).SlotsBut none :=
    hs.move ((hs.sequenced.law i).enter (.inr (.inl rfl))) SlotPhase.unlisted_present (by simp [SlotPhase.unlisted, hx])
      (by simp [SlotPhase.served, hx])
  have hraised := (HostRuns.raiseBoth _ (.inserted i)).slotsBut hpresent
  have hstate : (((s.onSlot i (Slot.enter .present)).raiseBoth (.inserted i)).slot i).state = .present := by
    simp [State.raiseBoth, Slot.enter]
  unfold State.settleExpires
  simp only
  split
  next =>
    refine (hraised.queueForPower ?_ ?_).rampStep <;> rw [hstate]
    · exact SlotPhase.unlisted_present
    · simp [SlotPhase.served]
  next => exact hraised

theorem State.SlotsBut.rampExpires (hs : s.SlotsBut none) (h : (s.slot i).rampTimer ≠ .stopped) :
    (s.rampExpires i).SlotsBut none := by
  have hx := (hs.sequenced.law i).ramp.mp h
  have hw : i ∉ s.powerWait := mt (hs.sequenced.wait i).mp (by simp [hx])
  have hq : i ∉ s.identQueue := mt (hs.sequenced.ident i).mp (by simp [hx])
  have hr : s.ramping = some i := (hs.sequenced.ramp i).mpr hx
  refine (State.SameModules.identStep _).slotsBut (State.SlotsBut.rampStep ⟨?_, ?_⟩)
  · refine hs.sequenced.change (i := i) (fun k hk => State.onSlot_slot_ne s hk _) ?_ hs.sequenced.waitNodup ?_
      (fun k hk => ⟨.rfl, by simp [hk], by simp [hr, Ne.symm hk]⟩) ?_
    · change ((s.onSlot i (Slot.enter .identifying)).slot i).Law
      rw [State.onSlot_slot]
      exact (hs.sequenced.law i).enter (.inr (.inr (.inr rfl)))
    · exact List.nodup_append.mpr ⟨hs.sequenced.identNodup, List.nodup_singleton i, fun a ha b hb e =>
        hq (List.mem_singleton.mp hb ▸ e ▸ ha)⟩
    · change (_ ↔ ((s.onSlot i (Slot.enter .identifying)).slot i).state = _) ∧
        (_ ↔ ((s.onSlot i (Slot.enter .identifying)).slot i).state = _) ∧
        (_ ↔ ((s.onSlot i (Slot.enter .identifying)).slot i).state = _)
      rw [State.onSlot_slot]
      exact ⟨iff_of_false hw (by simp [Slot.enter]), by simp [Slot.enter], by simp [Slot.enter]⟩
  · exact hs.flight.onSlot (Slot.enter .identifying) (.inl (by simp [SlotPhase.served, hx]))

theorem State.SlotsBut.wpAccepted (hs : s.SlotsBut none) (i : SlotId) : (s.wpAccepted i).SlotsBut none := by
  have hwp : (s.onSlot i (fun x => { x with wp := x.wpPin, wpDebounce := .stopped })).SlotsBut none :=
    hs.onSlot (hs.sequenced.law i |> fun ⟨h1, h2, h3, h4, h5, h6⟩ => ⟨h1, h2, h3, h4, h5, h6⟩) rfl
  unfold State.wpAccepted
  simp only
  split
  next => exact hwp
  next => exact (HostRuns.raiseBoth _ _).slotsBut hwp

/-! Slot requests (R111 to R121) -/

theorem State.SameModules.reply (s : State) (l : Link) (code : Nat) (r : ReplyCode) (items : List Item) :
    s.SameModules (s.reply l code r items) := by constructor <;> simp [State.reply]

theorem State.SlotsBut.reply (hs : s.SlotsBut o) (l : Link) (code : Nat) (r : ReplyCode) (items : List Item) :
    (s.reply l code r items).SlotsBut o := (State.SameModules.reply s l code r items).slotsBut hs

theorem State.SlotsBut.takeSpwrOn (hs : s.SlotsBut none) (l : Link) (n : Nat) (force : Bool) :
    (s.takeSpwrOn l n force).SlotsBut none := by
  unfold State.takeSpwrOn
  split
  next i _ =>
    unfold State.spwrOnSlot
    split
    next hx =>
      refine (HostRuns.raiseFaults _ _).slotsBut (State.SlotsBut.reply (State.SlotsBut.rampCheck ?_) _ _ _ _)
      exact hs.queueForPower (by simp [SlotPhase.unlisted, hx]) (by simp [SlotPhase.served, hx])
    all_goals exact hs.reply _ _ _ _
  next => exact hs.reply _ _ _ _

/-- A READY slot that no lane's block is in flight to is in no transfer at all. -/
theorem State.SlotsBut.powerOff (hs : s.SlotsBut none) (hx : (s.slot i).state = .ready) (h : s.jobTransferTo i = false) :
    (s.onSlot i (Slot.enter .present)).SlotsBut none := by
  refine ⟨hs.sequenced.onSlot ((hs.sequenced.law i).enter (.inr (.inl rfl))) (.inr ⟨SlotPhase.unlisted_present,
    by simp [SlotPhase.unlisted, hx]⟩), fun x hb hne => ?_⟩
  have hserves := hs.flight x hb hne
  refine hserves.of_slot (State.onSlot_slot_ne s (fun e => ?_) _)
  have hb' : s.bus.state = .inFlight x := hb
  cases hr : x.requester with
  | lane l => simp [State.jobTransferTo, Bus.slotInFlight, Bus.identifyInFlight, hb', e, hr] at h
  | identify => simp [State.Serves, hr, e, hx] at hserves

theorem State.SlotsBut.forceOff (hs : s.SlotsBut none) (hx : (s.slot i).state = .ready) : (s.forceOff i).SlotsBut none := by
  unfold State.forceOff
  split
  next h =>
    refine ⟨hs.sequenced.onSlot ((hs.sequenced.law i).drain hx) (.inr ⟨by simp [SlotPhase.unlisted],
      by simp [SlotPhase.unlisted, hx]⟩), fun x hb hne => ?_⟩
    have hserves := hs.flight x hb hne
    by_cases e : x.slot = i
    · cases hr : x.requester with
      | lane l => simp [State.Serves, hr, e]
      | identify => simp [State.Serves, hr, e, hx] at hserves
    · exact hserves.of_slot (State.onSlot_slot_ne s e _)
  next h => exact hs.powerOff hx (Bool.eq_false_iff.mpr h)

theorem State.SlotsBut.takeSpwrOff (hs : s.SlotsBut none) (l : Link) (n : Nat) (force : Bool) :
    (s.takeSpwrOff l n force).SlotsBut none := by
  unfold State.takeSpwrOff
  split
  next => exact hs.reply _ _ _ _
  next i _ =>
    have hpresent := (hs.sequenced.law i).enter (p := .present) (.inr (.inl rfl))
    have hdown : ¬ (s.slot i).state.served → (s.powerDown i).SlotsBut none := fun h =>
      hs.leave_unserved hpresent SlotPhase.unlisted_present h
    unfold State.spwrOffSlot
    split
    next => exact hs.reply _ _ _ _
    next => exact hs.reply _ _ _ _
    next hx => exact (hdown (by simp [SlotPhase.served, hx])).reply _ _ _ _
    next hx =>
      exact (HostRuns.raiseFaults _ _).slotsBut
        (((hdown (by simp [SlotPhase.served, hx])).rampCheck).reply _ _ _ _)
    next =>
      exact ((hs.leave hpresent SlotPhase.unlisted_present).reply _ _ _ _).abandonTransfer _
    next hx =>
      split
      next =>
        split
        next => exact (hs.forceOff hx).reply _ _ _ _
        next => exact hs.reply _ _ _ _
      next hu =>
        refine (hs.powerOff hx ?_).reply _ _ _ _
        simp only [State.slotInUse, Bool.or_eq_true, not_or, Bool.not_eq_true] at hu
        exact hu.1.1
    next => exact hs.reply _ _ _ _
    next => exact hs.reply _ _ _ _
    next => exact hs.reply _ _ _ _

theorem Slot.Law.of_same {x y : Slot} (h : x.Law) (h1 : y.state = x.state) (h2 : y.faultKind = x.faultKind)
    (h3 : y.identity = x.identity) (h4 : y.settleTimer = x.settleTimer) (h5 : y.rampTimer = x.rampTimer)
    (h6 : y.noResponse = x.noResponse) : y.Law := by
  obtain ⟨k1, k2, k3, k4, k5, k6⟩ := h
  exact ⟨by rwa [h1, h2], by rwa [h1, h3], by rwa [h1, h4], by rwa [h1, h5], by rwa [h6], by rwa [h1, h6]⟩

theorem State.SlotsBut.request (hs : s.SlotsBut none) {l : Link} (r : Request)
    (hr : (s.link l).replies < Config.replyPlaces) (hc : (s.link l).session = .closed → takenClosed r.code = true) :
    (s.takeRequest l r).SlotsBut none := by
  have hopen : takenClosed r.code = false → (s.link l).session ≠ .closed := fun h hs => by simp [hc hs] at h
  cases r with
  | openSession d h => exact (HostRuns.takeOpen hr d h).slotsBut hs
  | closeSession => exact (HostRuns.takeClose s l).slotsBut hs
  | rstl => exact (HostRuns.linkReset s l _).slotsBut hs
  | rstp => exact (HostRuns.takeRstp hr (hopen rfl)).slotsBut hs
  | nsub m => exact (HostRuns.takeNsub hr (hopen rfl) m).slotsBut hs
  | nack c => exact (HostRuns.takeNack hr (hopen rfl) c).slotsBut hs
  | nget => exact hs.reply _ _ _ _
  | wset a => exact (HostRuns.takeWset hr (hopen rfl) a).slotsBut hs
  | wrel n => exact (HostRuns.takeWrel hr n).slotsBut hs
  | wget n => exact (HostRuns.takeWget hr n).slotsBut hs
  | spwr n p f =>
    change (s.takeSpwr l n p f).SlotsBut none
    unfold State.takeSpwr
    split
    next => exact hs.takeSpwrOff l n f
    next => exact hs.takeSpwrOn l n f
    next => exact hs.reply _ _ _ _
  | scfg n v =>
    change (s.takeScfg l n v).SlotsBut none
    unfold State.takeScfg
    split
    next i on _ _ =>
      exact (hs.onSlot (f := fun x => { x with autoBringup := on })
        ((hs.sequenced.law i).of_same rfl rfl rfl rfl rfl rfl) rfl).reply _ _ _ _
    next => exact hs.reply _ _ _ _
  | sclr n =>
    change (s.takeSclr l n).SlotsBut none
    unfold State.takeSclr
    split
    next => exact hs.reply _ _ _ _
    next i _ =>
      split
      next hx =>
        exact (hs.move ((hs.sequenced.law i).enter (.inr (.inl rfl))) SlotPhase.unlisted_present
          (by simp [SlotPhase.unlisted, hx]) (by simp [SlotPhase.served, hx])).reply _ _ _ _
      next => exact hs.reply _ _ _ _
  | sget n =>
    change (s.takeSget l n).SlotsBut none
    unfold State.takeSget
    split <;> exact hs.reply _ _ _ _
  | jsub a => exact (HostRuns.takeJsub hr (hopen rfl) a).slotsBut hs
  | jpau t => exact (HostRuns.takeJpau hr t).slotsBut hs
  | jres t => exact (HostRuns.takeJres hr t).slotsBut hs
  | jcan t => exact (HostRuns.takeJcan hr (hopen rfl) t).slotsBut hs
  | jget t => exact (HostRuns.takeJget hr t).slotsBut hs
  | jlst => exact hs.reply _ _ _ _

/-! The end of a transfer (R109, R136 to R138) -/

/-- Of the outcomes of a block transfer only NO_RESPONSE counts up, and success begins anew. -/
theorem TransferOutcome.count_le (o : TransferOutcome) {n : Nat} (h : n < Config.noResponseMax) :
    o.count n ≤ Config.noResponseMax ∧ (o ≠ .noResponse → o.count n < Config.noResponseMax) := by
  cases o <;> simp [TransferOutcome.count, Config.noResponseMax] at h ⊢ <;> omega

theorem State.onSlot_onSlot (s : State) (i : SlotId) (f g : Slot → Slot) :
    (s.onSlot i f).onSlot i g = s.onSlot i (fun x => g (f x)) := by
  simp [State.onSlot, get_set_self]

/-- While nothing is in flight, the law of the transfer says nothing. -/
theorem State.Sequenced.idle (hs : s.Sequenced) (h : s.bus.state = .free) : s.SlotsBut o :=
  ⟨hs, fun x hx => by rw [h] at hx; cases hx⟩

/-- The Slot Manager takes the end of a lane's transfer, which is no longer in flight. -/
theorem State.Sequenced.slotEnd (hs : s.Sequenced) (hfree : s.bus.state = .free)
    (hx : (s.slot i).state = .ready ∨ (s.slot i).state = .draining) (out : TransferOutcome) :
    (s.slotEnd i out).SlotsBut none := by
  have hold : (s.slot i).state.unlisted := by rcases hx with h | h <;> simp [SlotPhase.unlisted, h]
  obtain ⟨hle, hlt⟩ := out.count_le ((hs.law i).live hx)
  have hmove : ∀ {f : Slot → Slot}, (f (s.slot i)).Law → (f (s.slot i)).state.unlisted → (s.onSlot i f).SlotsBut none :=
    fun hlaw hnew => (hs.onSlot hlaw (.inr ⟨hnew, hold⟩)).idle hfree
  have hbare : ∀ n, n ≤ Config.noResponseMax → ∀ {p : SlotPhase}, p.bare →
      (({ (s.slot i) with noResponse := n } : Slot).enter p).Law := fun n hn p hp => by
    rcases hp with rfl | rfl | rfl | rfl <;> exact ⟨by simp [Slot.enter], by simp [Slot.enter], by simp [Slot.enter],
      by simp [Slot.enter], hn, by simp [Slot.enter]⟩
  unfold State.slotEnd State.faultSlot
  simp only [State.onSlot_onSlot]
  split
  next =>
    refine (HostRuns.raiseBoth _ _).slotsBut (hmove ?_ SlotPhase.unlisted_faulted)
    exact ⟨by simp [Slot.fail, Slot.enter], by simp [Slot.fail, Slot.enter], by simp [Slot.fail, Slot.enter],
      by simp [Slot.fail, Slot.enter], hle, by simp [Slot.fail, Slot.enter]⟩
  next hno =>
    split
    next => exact hmove (hbare _ hle (.inr (.inl rfl))) SlotPhase.unlisted_present
    next =>
      refine hmove ((hs.law i).counted hle fun _ => ?_) hold
      by_cases hout : out = .noResponse
      · exact lt_of_le_of_ne hle fun he => hno ⟨hout, he, hx⟩
      · exact hlt hout

/-- A slot leaves the identify queue with its state. -/
theorem State.Sequenced.identified (hs : s.Sequenced) (hx : (s.slot i).state = .identifying) {f : Slot → Slot}
    (hlaw : (f (s.slot i)).Law) (hnew : (f (s.slot i)).state.unlisted) :
    (({ s with identQueue := s.identQueue.filter (fun k => k != i) } : State).onSlot i f).Sequenced := by
  have hw : i ∉ s.powerWait := mt (hs.wait i).mp (by simp [hx])
  have hr : s.ramping ≠ some i := mt (hs.ramp i).mp (by simp [hx])
  refine hs.change (i := i) (fun k hk => State.onSlot_slot_ne _ hk f) (by rw [State.onSlot_slot]; exact hlaw) hs.waitNodup
    (hs.identNodup.filter _) (fun k hk => ⟨.rfl, by simp [hk], .rfl⟩) ?_
  rw [State.onSlot_slot]
  exact ⟨iff_of_false hw hnew.1, iff_of_false (by simp) hnew.2.1, iff_of_false hr hnew.2.2⟩

/-- The Identify Sequencer takes the report of an identity read, which is no longer in flight. -/
theorem State.Sequenced.identReport (hs : s.Sequenced) (hfree : s.bus.state = .free) (hx : (s.slot i).state = .identifying)
    (out : TransferOutcome) : (s.identReport i out).SlotsBut none := by
  have hfault : ∀ k, ((({ s with identQueue := s.identQueue.filter (fun k => k != i) } : State).faultSlot i k)).SlotsBut
      none := fun k => (HostRuns.raiseBoth _ _).slotsBut
    ((hs.identified hx ((hs.law i).fail k) SlotPhase.unlisted_faulted).idle hfree)
  unfold State.identReport
  simp only
  split
  next => exact hfault _
  next => exact hfault _
  next => exact hfault _
  next =>
    split
    next => exact hfault _
    next d _ =>
      exact (HostRuns.raiseBoth _ _).slotsBut ((hs.identified hx (Slot.accept_law d _)
        (by simp [SlotPhase.unlisted, Slot.accept, Slot.enter])).idle hfree)

variable {x : Transfer}

theorem State.Sequenced.endTransfer (hs : s.Sequenced) (hx : s.Serves x) (out : TransferOutcome) :
    (s.endTransfer x out).SlotsBut none := by
  have hfree : (s.setBusState .free).Sequenced := ⟨hs.law, hs.waitNodup, hs.identNodup, hs.wait, hs.ident, hs.ramp⟩
  unfold State.Serves at hx
  unfold State.endTransfer
  simp only
  split
  next m hm =>
    rw [hm] at hx
    exact (LaneRuns.settle _ m).slotsBut ((State.SameModules.decide _).slotsBut ((LaneRuns.takeReport _ m _ _).slotsBut
      (hfree.slotEnd rfl hx out)))
  next hm =>
    rw [hm] at hx
    exact (State.SameModules.identStep _).slotsBut (hfree.identReport rfl hx out)

theorem State.Sequenced.goOn (hs : s.Sequenced) (hx : s.Serves x) : (s.goOn x).SlotsBut none :=
  ⟨⟨hs.law, hs.waitNodup, hs.identNodup, hs.wait, hs.ident, hs.ramp⟩, fun y hy _ => by cases hy; exact hx⟩

theorem State.Sequenced.retryOrEnd (hs : s.Sequenced) (hx : s.Serves x) (out : TransferOutcome) :
    (s.retryOrEnd x out).SlotsBut none := by
  unfold State.retryOrEnd
  split
  next => exact hs.endTransfer hx out
  next => exact hs.goOn hx

theorem State.Sequenced.nextWord (hs : s.Sequenced) (hx : s.Serves x) : (s.nextWord x).SlotsBut none := by
  unfold State.nextWord
  split
  next => exact hs.goOn hx
  next => exact hs.endTransfer hx _

theorem State.SlotsBut.takeResponse (hs : s.SlotsBut none) (hx : s.Serves x) : (s.takeResponse x).SlotsBut none := by
  unfold State.takeResponse
  split
  next => exact hs.sequenced.endTransfer hx _
  next =>
    split
    next =>
      split
      next =>
        have hstored := (HostRuns.storeWord s x).modules
        refine (hstored.slotsBut hs).sequenced.nextWord (hx.of_slot ?_)
        rw [State.slot, State.slot, hstored.slots]
      next => exact hs.sequenced.retryOrEnd hx _
    next =>
      split
      next => exact hs.sequenced.retryOrEnd hx _
      next => exact hs.sequenced.nextWord hx

/-! Grants and the events of the bus (R129 to R132) -/

theorem Slot.ready_of_blockCheck {y : Slot} {b : Binding} (h : y.blockCheck b = none) : y.state = .ready := by
  unfold Slot.blockCheck at h
  split at h
  next => cases h
  next =>
    split at h
    next => cases h
    next hready => exact not_not.mp hready

theorem State.SlotsBut.beginTransfer (hs : s.SlotsBut none) (l : Link) (j : Job) (r : BusRequest)
    (hx : (s.slot r.slot).state = .ready) : (s.beginTransfer l j r).SlotsBut none := by
  have hgo : ∀ {t : State}, t.SlotsBut none → t.slot r.slot = s.slot r.slot → ∀ w b, (t.goOn
      ((r.transfer l w b).beginAttempt s.bus)).SlotsBut none := fun ht hslot w b =>
    ht.sequenced.goOn (.inl (by rw [← hx, ← hslot]; rfl))
  unfold State.beginTransfer
  simp only
  split
  next => exact hgo hs rfl _ _
  next =>
    split
    next => exact hgo hs rfl _ _
    next k _ _ =>
      exact hgo (t := s.setHolder k _) ⟨⟨hs.1.1, hs.1.2, hs.1.3, hs.1.4, hs.1.5, hs.1.6⟩, hs.2⟩ rfl _ _

theorem State.SlotsBut.returnGrant (hs : s.SlotsBut none) : s.returnGrant.SlotsBut none :=
  ((State.SameModules.free s).trans (.decide _)).slotsBut hs

theorem State.SlotsBut.laneGrant (hs : s.SlotsBut none) (l : Link) (r : BusRequest) (w : Bool) :
    (s.laneGrant l r w).SlotsBut none := by
  have hreturn := (LaneRuns.settle _ l).slotsBut hs.returnGrant
  unfold State.laneGrant
  split
  next j _ =>
    simp only
    split
    next b _ _ =>
      split
      next hb => exact hs.beginTransfer l j r (Slot.ready_of_blockCheck hb)
      next e _ => exact (LaneRuns.settle _ l).slotsBut ((LaneRuns.segmentError _ l _ e).slotsBut hs.returnGrant)
    next => exact hreturn
  next => exact hreturn

theorem State.SlotsBut.grantReaches (hs : s.SlotsBut none) : s.grantReaches.SlotsBut none := by
  unfold State.grantReaches
  split
  next => exact hs
  next => exact hs
  next l r w _ => exact hs.laneGrant l r w
  next i _ =>
    unfold State.identGrant
    split
    next hi => exact hs.sequenced.goOn hi.2
    next => exact ((State.SameModules.free s).trans (.identStep _)).slotsBut hs

theorem State.SlotsBut.serves (hs : s.SlotsBut none) (h : s.bus.state = .inFlight x) : s.Serves x :=
  hs.flight x h (by simp)

theorem State.SlotsBut.responseSeen (hs : s.SlotsBut none) : s.responseSeen.SlotsBut none := by
  unfold State.responseSeen
  split
  next => exact hs
  next => exact hs
  next x hx =>
    split
    next => exact hs.takeResponse (hs.serves hx)
    next => exact hs

theorem State.SlotsBut.waitEnds (hs : s.SlotsBut none) : s.waitEnds.SlotsBut none := by
  unfold State.waitEnds
  split
  next => exact hs
  next => exact hs
  next x hx =>
    have hserves := hs.serves hx
    split
    next => exact hs
    next => exact hs
    next =>
      split
      next => exact hs.takeResponse hserves
      next => exact hs.sequenced.goOn hserves

theorem State.SlotsBut.linesReleased (hs : s.SlotsBut none) : s.linesReleased.SlotsBut none := by
  unfold State.linesReleased
  split
  next => exact hs
  next => exact hs
  next x hx =>
    split
    next => exact hs.sequenced.goOn (x := { x with phase := .waitTime x.waitNs }) (State.SlotsBut.serves (x := x) hs hx)
    next => exact hs

theorem State.SlotsBut.watchdogExpires (hs : s.SlotsBut none) : s.watchdogExpires.SlotsBut none := by
  unfold State.watchdogExpires
  split
  next => exact hs
  next => exact hs
  next x hx =>
    split
    next => exact hs
    next => exact hs.sequenced.retryOrEnd (hs.serves hx) _

/-! Resets, pins and the latch -/

/-- With every slot out of the sequencers, empty lists and a FREE bus. -/
theorem State.slotsBut_of_unlisted (hlaw : ∀ i, (s.slot i).Law) (hout : ∀ i, (s.slot i).state.unlisted)
    (hw : s.powerWait = []) (hr : s.ramping = none) (hq : s.identQueue = []) (hb : s.bus.state = .free) : s.SlotsBut none :=
  State.Sequenced.idle ⟨hlaw, by simp [hw], by simp [hq], fun i => by simp [hw, (hout i).1],
    fun i => by simp [hq, (hout i).2.1], fun i => by simp [hr, (hout i).2.2]⟩ hb

theorem Slot.held_unlisted (y : Slot) : y.held.state.unlisted := by simp [SlotPhase.unlisted, Slot.held, Slot.reset]

theorem State.blocksReset_slotsBut (s : State) : s.blocksReset.SlotsBut none := by
  have hslot : ∀ i, s.blocksReset.slot i = (s.slot i).sampled := fun i => by simp [State.blocksReset, State.slot]
  exact State.slotsBut_of_unlisted (fun i => hslot i ▸ Slot.sampled_law _) (fun i => hslot i ▸ Slot.sampled_unlisted _)
    rfl rfl rfl rfl

theorem State.SameModules.onLink (s : State) (l : Link) (f : LinkState → LinkState) : s.SameModules (s.onLink l f) := by
  constructor <;> simp

theorem State.partReset_slotsBut (s : State) (c : ResetCause) : (s.partReset c).SlotsBut none :=
  ((((State.SameModules.onLink _ .A _).trans (.onLink _ .B _)).trans (.onLink _ .A _)).trans (.onLink _ .B _)).slotsBut
    (State.blocksReset_slotsBut s.poolReset)

theorem State.SlotsBut.of_eq (hs : s.SlotsBut o) (hslots : t.slots = s.slots) (hw : t.powerWait = s.powerWait)
    (hr : t.ramping = s.ramping) (hq : t.identQueue = s.identQueue) (hb : t.bus = s.bus) : t.SlotsBut o := by
  cases s
  cases t
  simp only at hslots hw hr hq hb
  subst hslots hw hr hq hb
  exact ⟨⟨hs.1.1, hs.1.2, hs.1.3, hs.1.4, hs.1.5, hs.1.6⟩, hs.2⟩

theorem State.powerOn_slotsBut (s : State) (r1 r0 : Bool) : (s.powerOn r1 r0).SlotsBut none :=
  ((State.SameModules.onLink _ .A _).trans (.onLink _ .B _)).slotsBut (State.SlotsBut.of_eq
    (State.blocksReset_slotsBut (({ s with linkA := LinkState.reset, linkB := LinkState.reset } : State).poolReset))
    rfl rfl rfl rfl rfl)

theorem State.nrstHeld_slotsBut (s : State) : s.nrstHeld.SlotsBut none := by
  have hslot : ∀ i, s.nrstHeld.slot i = (s.slot i).held := fun i => by
    simp [State.nrstHeld, State.slot, State.poolReset]
  exact State.slotsBut_of_unlisted (fun i => hslot i ▸ Slot.held_law _) (fun i => hslot i ▸ Slot.held_unlisted _)
    rfl rfl rfl rfl

theorem State.SlotsBut.latchAccepted (hs : s.SlotsBut none) (c : ConditionsFirst) (first : Link) :
    (s.latchAccepted c first).SlotsBut none := by
  rw [State.latchAccepted_eq]
  refine (HostRuns.raiseAt _ _ _ _).slotsBut ((LaneRuns.latchServe _ _ first).slotsBut ?_)
  exact ((HostRuns.raiseAt s _ _ _).slotsBut hs).of_eq rfl rfl rfl rfl rfl

/-- A pin or the WP debouncer of a slot moves. -/
theorem State.SlotsBut.pin (hs : s.SlotsBut o) {f : Slot → Slot} (h1 : (f (s.slot i)).state = (s.slot i).state)
    (h2 : (f (s.slot i)).faultKind = (s.slot i).faultKind) (h3 : (f (s.slot i)).identity = (s.slot i).identity)
    (h4 : (f (s.slot i)).settleTimer = (s.slot i).settleTimer) (h5 : (f (s.slot i)).rampTimer = (s.slot i).rampTimer)
    (h6 : (f (s.slot i)).noResponse = (s.slot i).noResponse) : (s.onSlot i f).SlotsBut o :=
  hs.onSlot ((hs.sequenced.law i).of_same h1 h2 h3 h4 h5 h6) h1

end

/-! The step -/

theorem State.slotsBut_kept : Kept (fun s => s.SlotsBut none) where
  queue _ _ hs := hs.of_eq rfl rfl rfl rfl rfl
  kick s hs := ((State.SameModules.onLink s .A _).trans (.onLink _ .B _)).slotsBut hs
  plain _ hs := (State.SameModules.onLink _ _ _).slotsBut hs
  request r hr hc hs := hs.request r hr hc
  linkReset s l c hs := (HostRuns.linkReset s l c).slotsBut hs
  dataArrives s l tag p hs := (HostRuns.dataArrives s l tag p).slotsBut hs
  noticeSent _ hs := (State.SameModules.onLink _ _ _).slotsBut hs
  dataSent _ _ hs := (LaneRuns.settle _ _).slotsBut ((LaneRuns.freeBufs _ [_]).slotsBut
    ((State.SameModules.onLink _ _ _).slotsBut hs))
  creditSent {s l _ _ es} _ _ hs := by
    have hsent := (State.SameModules.onLink s l (LinkState.sent es)).slotsBut hs
    unfold State.placeFreed
    simp only
    split
    next => exact hsent
    next => exact (State.SameModules.onLink _ _ _).slotsBut hsent
  partReset s c _ := s.partReset_slotsBut c
  powerOn s r1 r0 _ := s.powerOn_slotsBut r1 r0
  nrstHeld s _ := s.nrstHeld_slotsBut
  holdExpires s l hs := (LaneRuns.holdExpires s l).slotsBut hs
  dataExpires s l hs := (LaneRuns.dataExpires s l).slotsBut hs
  presPin _ _ _ hs := hs.pin rfl rfl rfl rfl rfl rfl
  tripPin _ _ _ hs := hs.pin rfl rfl rfl rfl rfl rfl
  wpPin _ _ hs := hs.pin rfl rfl rfl rfl rfl rfl
  wpMeasure _ _ hs := hs.pin rfl rfl rfl rfl rfl rfl
  latchPin _ hs := hs.of_eq rfl rfl rfl rfl rfl
  latchMeasure _ hs := hs.of_eq rfl rfl rfl rfl rfl
  latchAccepted _ c first hs := hs.latchAccepted c first
  presAsserted _ i hs := hs.presAsserted i
  presDeasserted _ i hs := hs.presDeasserted i
  settleExpires _ _ ht hs := hs.settleExpires ht
  rampExpires _ _ ht hs := hs.rampExpires ht
  tripped _ i _ hs := hs.leaveState ((hs.sequenced.law i).fail _) SlotPhase.unlisted_faulted _ _ _
  wpAccepted _ i hs := hs.wpAccepted i
  grantReaches _ hs := hs.grantReaches
  respond s _ _ _ _ hs := (State.SameModules.onBus s _ fun _ h => h).slotsBut hs
  responseSeen _ hs := hs.responseSeen
  waitEnds _ hs := hs.waitEnds
  release s hs := (State.SameModules.onBus s _ fun _ h => h).slotsBut hs
  linesReleased _ hs := hs.linesReleased
  watchdogExpires _ hs := hs.watchdogExpires

/-- Settles O7: the laws of the slot records, of the sequencers and of the transfer in flight, taken together, are kept by
every event; while one event takes a slot from its state, the transfer to that slot alone is left out until it is
abandoned. -/
theorem everyStepKeepsTheSlots : Obligations.EveryStepKeepsTheSlots := by
  intro s t hslots hseq hstep
  exact State.slotsLaw_iff.mpr (State.slotsBut_kept.step_next (State.slotsLaw_iff.mp ⟨hslots, hseq⟩) hstep)

end Sys2Proof.Machine
end

section
/-! PROOFS. What the laws of the lanes say of one link: its live list, its lane's record, the timers of its jobs and the
credit place (R5, R11, R41, R45, R70); and the moves of a link that they do not see. -/

namespace Sys2Proof.Machine

/-- The tag of a CREDIT. -/
def Entry.creditTag? : Entry → Option Nat
  | .credit t _ => some t
  | .reply _ _ _ => none
  | .hello _ _ _ => none
  | .notice _ => none
  | .data _ _ _ _ => none

/-- The buffers of the DATA entries (R39). -/
def LinkState.dataBuffers (x : LinkState) : List BufId := x.outbound.filterMap Entry.buffer?

/-- The tags of the CREDITs: of all, of those that wait, and of the one in transmission. -/
def LinkState.creditTags (x : LinkState) : List Nat := x.outbound.filterMap Entry.creditTag?
def LinkState.waitingTags (x : LinkState) : List Nat := x.waiting.filterMap Entry.creditTag?
def LinkState.sendingTags (x : LinkState) : List Nat := x.sending.filterMap Entry.creditTag?

/-- The laws of a lane as they stand at its link. -/
structure LinkState.Laned (x : LinkState) : Prop where
  tail : ∀ j ∈ x.live.tail, j.state = .queued
  closed : x.session = .closed → x.live = []
  busy : x.lane.state = .busy ↔ ∃ j, x.activeJob = some j
  timers : ∀ j ∈ x.live, j.timersLaw = true
  place : x.creditTags.length ≤ 1
  owned : ∀ t ∈ x.waitingTags, ∃ j, x.activeJob = some j ∧ j.kind = .write ∧ j.tag = t
  pending : x.lane.pendingCredits ≠ 0 → (∃ j, x.activeJob = some j ∧ j.kind = .write) ∧ x.sendingTags ≠ []

/-- Nothing that the laws of the lanes speak of changes but that a CREDIT may begin its transmission. -/
structure LinkState.SameLane (x y : LinkState) : Prop where
  live : y.live = x.live
  lane : y.lane = x.lane
  session : y.session = .closed → x.session = .closed
  data : y.dataBuffers = x.dataBuffers
  tags : y.creditTags = x.creditTags
  waiting : y.waitingTags ⊆ x.waitingTags
  sending : x.sendingTags ⊆ y.sendingTags

section
variable {x y : LinkState} {e : Entry} {j : Job}

/-! The credit place in the words of its law -/

theorem Entry.isCredit_eq (e : Entry) : e.isCredit = e.creditTag?.isSome := by cases e <;> rfl

theorem LinkState.creditEntries_eq (x : LinkState) : x.creditEntries = x.creditTags.length := by
  rw [LinkState.creditEntries, LinkState.creditTags, List.length_filterMap_eq_countP]
  exact List.countP_congr fun e _ => by rw [Entry.isCredit_eq]

theorem LinkState.sendingTags_append_waitingTags (x : LinkState) : x.sendingTags ++ x.waitingTags = x.creditTags := by
  rw [LinkState.sendingTags, LinkState.waitingTags, ← List.filterMap_append, x.sending_append_waiting,
    LinkState.creditTags]

/-- What the head of the live list says as an active job. -/
theorem LinkState.head_any_writes {p : Job → Bool} :
    x.live.head?.any (fun j => j.writes && p j) = true ↔ ∃ j, x.activeJob = some j ∧ j.kind = .write ∧ p j = true := by
  cases h : x.live with
  | nil => simp [LinkState.activeJob, h]
  | cons k ks =>
    by_cases hk : k.state = .queued <;> simp [LinkState.activeJob, h, hk, Job.writes]

theorem LinkState.creditPlaceLaw_iff : x.creditPlaceLaw = true ↔ x.creditTags.length ≤ 1 ∧
    (∀ t ∈ x.waitingTags, ∃ j, x.activeJob = some j ∧ j.kind = .write ∧ j.tag = t) ∧
    (x.lane.pendingCredits ≠ 0 → (∃ j, x.activeJob = some j ∧ j.kind = .write) ∧ x.sendingTags ≠ []) := by
  have howned : x.waiting.all x.ownsCredit = true ↔
      ∀ t ∈ x.waitingTags, ∃ j, x.activeJob = some j ∧ j.kind = .write ∧ j.tag = t := by
    simp only [List.all_eq_true, LinkState.waitingTags, List.mem_filterMap]
    constructor
    · rintro h t ⟨e, he, het⟩
      cases e <;> simp only [Entry.creditTag?, reduceCtorEq, Option.some.injEq] at het
      subst het
      simpa using LinkState.head_any_writes.mp (h _ he)
    · intro h e he
      cases e with
      | credit t n => exact LinkState.head_any_writes.mpr (by simpa using h t ⟨_, he, rfl⟩)
      | reply => rfl
      | hello => rfl
      | notice => rfl
      | data => rfl
  have hhead : x.live.head?.any Job.writes = true ↔ ∃ j, x.activeJob = some j ∧ j.kind = .write := by
    simpa using LinkState.head_any_writes (x := x) (p := fun _ => true)
  have hsending : x.sending.any Entry.isCredit = true ↔ x.sendingTags ≠ [] := by
    simp [LinkState.sendingTags, List.any_eq_true, Entry.isCredit_eq, Option.isSome_iff_exists, List.filterMap_eq_nil_iff,
      Option.ne_none_iff_exists']
  simp only [LinkState.creditPlaceLaw, Bool.and_eq_true, Bool.or_eq_true, decide_eq_true_eq, beq_iff_eq, howned, hhead,
    hsending, LinkState.creditEntries_eq, and_assoc, ← or_iff_not_imp_left]

theorem LinkState.laneLaw_iff : x.laneLaw = true ↔ (x.lane.state = .busy ↔ ∃ j, x.activeJob = some j) := by
  rw [LinkState.laneLaw, beq_bool_iff, beq_iff_eq, Option.isSome_iff_exists]

theorem LinkState.laned_of_laws (h1 : x.listsLaw = true) (h2 : x.closedLaw = true) (h3 : x.laneLaw = true)
    (h4 : x.live.all Job.timersLaw = true) (h5 : x.creditPlaceLaw = true) : x.Laned := by
  obtain ⟨hplace, howned, hpending⟩ := LinkState.creditPlaceLaw_iff.mp h5
  simp only [LinkState.listsLaw, Bool.and_eq_true, List.all_eq_true, beq_iff_eq] at h1
  exact ⟨h1.1.1.2, fun hc => (LinkState.closedLaw_of_closed h2 hc).1, LinkState.laneLaw_iff.mp h3,
    List.all_eq_true.mp h4, hplace, howned, hpending⟩

/-! Moves that the laws do not see -/

theorem LinkState.SameLane.refl (x : LinkState) : x.SameLane x :=
  ⟨rfl, rfl, id, rfl, rfl, List.Subset.refl _, List.Subset.refl _⟩

theorem LinkState.SameLane.trans {z : LinkState} (h : x.SameLane y) (k : y.SameLane z) : x.SameLane z :=
  ⟨k.1.trans h.1, k.2.trans h.2, fun hc => h.3 (k.3 hc), k.4.trans h.4, k.5.trans h.5, List.Subset.trans k.6 h.6, List.Subset.trans h.7 k.7⟩

theorem LinkState.SameLane.activeJob (h : x.SameLane y) : y.activeJob = x.activeJob := by
  rw [LinkState.activeJob, h.live, LinkState.activeJob]

theorem LinkState.SameLane.laned (h : x.SameLane y) (hx : x.Laned) : y.Laned where
  tail := by rw [h.live]; exact hx.tail
  closed hc := by rw [h.live]; exact hx.closed (h.session hc)
  busy := by rw [h.lane, h.activeJob]; exact hx.busy
  timers := by rw [h.live]; exact hx.timers
  place := by rw [h.tags]; exact hx.place
  owned t ht := by rw [h.activeJob]; exact hx.owned t (h.waiting ht)
  pending hp := by
    rw [h.lane] at hp
    obtain ⟨hj, hs⟩ := hx.pending hp
    rw [h.activeJob]
    exact ⟨hj, fun hnil => hs (List.subset_nil.mp (hnil ▸ h.sending))⟩

/-- The queue stays. -/
theorem LinkState.SameLane.of_eq (hl : y.live = x.live) (ha : y.lane = x.lane) (hs : y.session = .closed → x.session = .closed)
    (ho : y.outbound = x.outbound) (ht : y.transmitting = x.transmitting) : x.SameLane y := by
  refine ⟨hl, ha, hs, ?_, ?_, ?_, ?_⟩ <;>
    simp [LinkState.dataBuffers, LinkState.creditTags, LinkState.waitingTags, LinkState.sendingTags, LinkState.waiting,
      LinkState.sending, ho, ht]

theorem LinkState.sending_sub_push (x : LinkState) (e : Entry) : x.sending ⊆ (x.push e).sending := by
  intro f hf
  simp only [LinkState.sending, LinkState.push] at hf ⊢
  rw [List.take_append]
  exact List.mem_append_left _ hf

theorem LinkState.waitingTags_push : (x.push e).waitingTags ⊆ x.waitingTags ++ e.creditTag?.toList := by
  intro t ht
  obtain ⟨f, hf, hft⟩ := List.mem_filterMap.mp ht
  rcases LinkState.mem_waiting_push hf with hf | rfl
  · exact List.mem_append_left _ (List.mem_filterMap.mpr ⟨f, hf, hft⟩)
  · exact List.mem_append_right _ (by simp [hft])

theorem LinkState.sendingTags_push : x.sendingTags ⊆ (x.push e).sendingTags := fun t ht => by
  obtain ⟨f, hf, hft⟩ := List.mem_filterMap.mp ht
  exact List.mem_filterMap.mpr ⟨f, x.sending_sub_push e hf, hft⟩

theorem LinkState.creditTags_push (x : LinkState) (e : Entry) : (x.push e).creditTags = x.creditTags ++ e.creditTag?.toList := by
  cases h : e.creditTag? <;> simp [LinkState.creditTags, LinkState.push, h]

theorem LinkState.dataBuffers_push (x : LinkState) (e : Entry) : (x.push e).dataBuffers = x.dataBuffers ++ e.buffer?.toList := by
  cases h : e.buffer? <;> simp [LinkState.dataBuffers, LinkState.push, h]

theorem LinkState.SameLane.push (hc : e.creditTag? = none) (hb : e.buffer? = none) (x : LinkState) : x.SameLane (x.push e) where
  live := rfl
  lane := rfl
  session h := h
  data := by simp [LinkState.dataBuffers_push, hb]
  tags := by simp [LinkState.creditTags_push, hc]
  waiting := by simpa [hc] using LinkState.waitingTags_push (x := x) (e := e)
  sending := LinkState.sendingTags_push

theorem LinkState.SameLane.reply (h : e.isReply = true) (x : LinkState) : x.SameLane (x.push e) := by
  cases e with
  | reply => exact .push rfl rfl x
  | hello => exact .push rfl rfl x
  | credit => cases h
  | notice => cases h
  | data => cases h

/-- The waiting entries are replaced by entries of the same tags and buffers. -/
theorem LinkState.waiting_replaced {es : List Entry} (h : x.waiting = [] → es = []) :
    ({ x with outbound := x.sending ++ es } : LinkState).sending = x.sending ∧
      ({ x with outbound := x.sending ++ es } : LinkState).waiting = es := by
  by_cases hw : x.waiting = []
  · rw [h hw]
    have hall : x.sending = x.outbound := by simpa [hw] using x.sending_append_waiting
    rw [List.append_nil, hall]
    exact ⟨hall, hw⟩
  · have hlen := LinkState.transmitting_le_length_of_waiting hw
    have hsend : x.sending.length = if x.transmitting then 1 else 0 := by rw [LinkState.sending, List.length_take]; omega
    constructor
    · exact List.take_left' hsend
    · exact List.drop_left' hsend

theorem LinkState.SameLane.of_waiting {es : List Entry} (hn : x.waiting = [] → es = [])
    (hc : es.map Entry.creditTag? = x.waiting.map Entry.creditTag?) (hb : es.map Entry.buffer? = x.waiting.map Entry.buffer?) :
    x.SameLane { x with outbound := x.sending ++ es } := by
  have hmap : ∀ {β : Type} {f : Entry → Option β} {as bs : List Entry}, as.map f = bs.map f →
      as.filterMap f = bs.filterMap f := fun {β f as bs} h => by
    have hid : ∀ l : List Entry, l.filterMap f = (l.map f).filterMap id := fun l => by rw [List.filterMap_map]; rfl
    rw [hid, hid, h]
  obtain ⟨hs, hw⟩ := LinkState.waiting_replaced hn
  refine ⟨rfl, rfl, id, ?_, ?_, ?_, ?_⟩
  · unfold LinkState.dataBuffers
    conv_rhs => rw [← x.sending_append_waiting]
    rw [List.filterMap_append, List.filterMap_append, hmap hb]
  · rw [← LinkState.sendingTags_append_waitingTags, ← LinkState.sendingTags_append_waitingTags, LinkState.sendingTags,
      LinkState.waitingTags, hs, hw, hmap hc]
    rfl
  · rw [LinkState.waitingTags, hw, hmap hc, LinkState.waitingTags]
    exact List.Subset.refl _
  · rw [LinkState.sendingTags, LinkState.sendingTags, hs]
    exact List.Subset.refl _

theorem LinkState.SameLane.offer (n : Notice) (x : LinkState) : x.SameLane (x.offer n) := by
  unfold LinkState.offer
  split
  next => exact .push rfl rfl x
  next => exact .of_eq rfl rfl id rfl rfl

theorem LinkState.SameLane.offers (ns : List Notice) (x : LinkState) : x.SameLane (LinkState.offers ns x) := by
  induction ns generalizing x with
  | nil => exact .refl x
  | cons n ns ih => exact (LinkState.SameLane.offer n x).trans (ih (x.offer n))

theorem mergeCondition_nil_of_nil {set : ConditionSet} {es fs : List Entry} (h : mergeCondition set es = some fs)
    (hn : es = []) : fs = [] := by rw [hn] at h; cases h

theorem LinkState.SameLane.announce (set : ConditionSet) (x : LinkState) : x.SameLane (x.announce set) := by
  cases hmerge : mergeCondition set x.waiting with
  | none => simpa only [LinkState.announce, hmerge] using LinkState.SameLane.offer (.condition set) x
  | some es =>
    simp only [LinkState.announce, hmerge]
    exact .of_waiting (mergeCondition_nil_of_nil hmerge) (mergeCondition_map (fun _ _ => rfl) hmerge)
      (mergeCondition_map (fun _ _ => rfl) hmerge)

theorem LinkState.SameLane.raise (c : Condition) (x : LinkState) : x.SameLane (x.raise c) := by
  unfold LinkState.raise
  split
  next =>
    have hset : x.SameLane { x with conditions := x.conditions ||| c.set } := .of_eq rfl rfl id rfl rfl
    simp only
    split
    next => exact hset
    next => exact hset.trans (.announce _ _)
  next => exact .refl x

theorem LinkState.SameLane.kick (x : LinkState) : x.SameLane x.kick where
  live := rfl
  lane := rfl
  session h := h
  data := rfl
  tags := rfl
  waiting t ht := by
    obtain ⟨f, hf, hft⟩ := List.mem_filterMap.mp ht
    refine List.mem_filterMap.mpr ⟨f, ?_, hft⟩
    cases ho : x.outbound with
    | nil => simp [LinkState.waiting, LinkState.kick, ho] at hf
    | cons e es =>
      simp only [LinkState.waiting, LinkState.kick, ho, List.isEmpty_cons, Bool.not_false, if_true, List.drop_one,
        List.tail_cons] at hf
      rw [LinkState.waiting, ho]
      split
      next => exact hf
      next => exact List.mem_cons_of_mem _ hf
  sending t ht := by
    obtain ⟨f, hf, hft⟩ := List.mem_filterMap.mp ht
    refine List.mem_filterMap.mpr ⟨f, ?_, hft⟩
    cases ho : x.outbound with
    | nil => simp [LinkState.sending, ho] at hf
    | cons e es =>
      rw [LinkState.sending, ho] at hf
      rw [LinkState.sending, LinkState.kick, ho]
      exact List.take_subset_take_left _ (by cases x.transmitting <;> simp) hf

/-- An entry that is neither a CREDIT nor a DATA entry has been sent. -/
theorem LinkState.SameLane.sent {es : List Entry} (h : x.outbound = e :: es) (hc : e.creditTag? = none)
    (hb : e.buffer? = none) : x.SameLane (x.sent es) where
  live := rfl
  lane := rfl
  session h := h
  data := by simp [LinkState.dataBuffers, LinkState.sent, h, hb]
  tags := by simp [LinkState.creditTags, LinkState.sent, h, hc]
  waiting t ht := by
    obtain ⟨f, hf, hft⟩ := List.mem_filterMap.mp ht
    refine List.mem_filterMap.mpr ⟨f, ?_, hft⟩
    have hes : f ∈ es := by simpa [LinkState.waiting, LinkState.sent] using hf
    rw [LinkState.waiting, h]
    split
    next => exact hes
    next => exact List.mem_cons_of_mem _ hes
  sending t ht := by
    obtain ⟨f, hf, hft⟩ := List.mem_filterMap.mp ht
    rw [LinkState.sending, h] at hf
    have hfe : f = e := by
      split at hf
      next => exact List.mem_singleton.mp hf
      next => simp at hf
    rw [hfe, hc] at hft
    cases hft

theorem LinkState.SameLane.overflowNotice (x : LinkState) : x.SameLane x.overflowNotice := by
  unfold LinkState.overflowNotice
  split
  next => exact .refl x
  next => exact (LinkState.SameLane.push rfl rfl x).trans (.of_eq rfl rfl id rfl rfl)

theorem PlainMove.sameLane (h : PlainMove x y) : x.SameLane y := by
  cases h with
  | reply e he _ => exact .reply he x
  | raise c => exact .raise c x
  | replySent e es h k =>
    refine .sent h ?_ ?_ <;> cases e <;> first | rfl | cases k
  | _ => exact .of_eq rfl rfl id rfl rfl

theorem LinkState.SameLane.subscribe (mask : ConditionSet) (x : LinkState) : x.SameLane (x.subscribe mask) := by
  have hmask : x.SameLane { x with mask := mask } := .of_eq rfl rfl id rfl rfl
  have hmasked : x.SameLane (x.masked mask) := hmask.trans (.reply rfl _)
  unfold LinkState.subscribe LinkState.announceSome
  split
  next => exact hmasked
  next => exact hmasked.trans (LinkState.SameLane.announce _ _)

end

end Sys2Proof.Machine
end

section
/-! PROOFS. What freeing buffers leaves of a lane without an active job; and the laws of both lanes, taken together, under
the pool's operations (R32 to R34, R39 to R41, R44). -/

namespace Sys2Proof.Machine

section
variable {s t : State} {l m : Link} {b c : BufId} {j : Job}

/-! The uses of a buffer (R35) -/

theorem State.useOf_eq_some {u : BufferUse} : s.useOf l b = some u ↔ (s.buffers.get b).holder = .lane l u := by
  unfold State.useOf
  split
  next h => simp [h]
  next m v h =>
    rw [h]
    by_cases hm : m = l <;> simp [hm]

theorem State.useOf_congr (h : (t.buffers.get c).holder = (s.buffers.get c).holder) (l : Link) : t.useOf l c = s.useOf l c := by
  simp only [State.useOf, h]

theorem State.useOf_free (h : (s.buffers.get b).holder = .free) (l : Link) : s.useOf l b = none := by
  simp only [State.useOf, h]

theorem State.useOf_setHolder_ne (s : State) (hc : c ≠ b) (h : Holder) (l : Link) : (s.setHolder b h).useOf l c = s.useOf l c :=
  State.useOf_congr (by rw [State.setHolder_ne s hc]) l

@[simp] theorem State.useOf_setHolder_lane (s : State) (b : BufId) (l : Link) (u : BufferUse) :
    (s.setHolder b (.lane l u)).useOf l b = some u := State.useOf_eq_some.mpr (State.setHolder_holder ..)

@[simp] theorem State.useOf_setHolder_free (s : State) (b : BufId) (l : Link) : (s.setHolder b .free).useOf l b = none :=
  State.useOf_free (State.setHolder_holder ..) l

theorem State.useOf_setHolder_other (s : State) (b : BufId) (h : m ≠ l) (u : BufferUse) :
    (s.setHolder b (.lane l u)).useOf m b = none := by
  simp [State.useOf, Ne.symm h]

/-- The lane that holds a buffer in one use, and no other. -/
theorem State.useOf_other {u : BufferUse} (h : s.useOf l b = some u) (hm : m ≠ l) : s.useOf m b = none := by
  simp [State.useOf, State.useOf_eq_some.mp h, Ne.symm hm]

theorem State.useOf_of_findUse {p : BufferUse → Bool} (h : s.findUse l p = some b) : ∃ u, s.useOf l b = some u ∧ p u = true :=
  (Option.any_eq_true _ _).mp (List.find?_some (p := fun b => (s.useOf l b).any p) h)

theorem State.mem_allUses {p : BufferUse → Bool} : b ∈ s.allUses l p ↔ ∃ u, s.useOf l b = some u ∧ p u = true := by
  rw [State.allUses, List.mem_filter, Option.any_eq_true]
  exact and_iff_right (List.mem_finRange b)

/-! Links that the pool leaves alone -/

@[simp] theorem State.withWaitList_activeJob (s : State) (w : List Link) (l : Link) :
    ({ s with waitList := w } : State).activeJob l = s.activeJob l := by cases l <;> rfl

theorem State.grantCredit_link_ne (s : State) (h : m ≠ l) : (s.grantCredit l).link m = s.link m := by
  unfold State.grantCredit
  split
  next => rfl
  next => rw [State.onLink_ne _ h, State.onTimedJob, State.onLink_ne _ h]

theorem State.assign_link_ne (s : State) (h : m ≠ l) (b : BufId) : (s.assign l b).link m = s.link m := by
  unfold State.assign
  split
  next => rfl
  next =>
    split
    next => simp
    next => simp
    next => simp
    next => rw [State.grantCredit_link_ne _ h, State.setHolder_link]

/-- A lane without an active job needs no buffer. -/
theorem State.wantsBuffer_idle (h : s.activeJob l = none) : s.wantsBuffer l = false := by
  simp [State.wantsBuffer, h]

/-- A buffer handed out touches neither the link nor the buffers of a lane without an active job. -/
theorem giveBuffer_idle (w : List Link) (h : s.activeJob l = none) :
    (giveBuffer w b s).link l = s.link l ∧
      ((s.buffers.get b).holder = .free → ∀ c, (giveBuffer w b s).useOf l c = s.useOf l c) := by
  induction w generalizing s with
  | nil => exact ⟨by cases l <;> rfl, fun _ _ => rfl⟩
  | cons m rest ih =>
    have ht : ({ s with waitList := rest } : State).activeJob l = none := by rw [State.withWaitList_activeJob, h]
    have hlink : ({ s with waitList := rest } : State).link l = s.link l := State.withWaitList_link s rest l
    unfold giveBuffer
    simp only
    split
    next hwants =>
      have hm : l ≠ m := fun e => by rw [← e, State.wantsBuffer_idle ht] at hwants; cases hwants
      have hassign : ∀ c, (s.buffers.get b).holder = .free →
          (State.assign { s with waitList := rest } m b).useOf l c = s.useOf l c := fun c hfree => by
        by_cases hc : c = b
        · obtain ⟨u, hu⟩ := State.assign_holder hwants b
          rw [hc, State.useOf_free hfree]
          exact State.useOf_other (State.useOf_eq_some.mpr hu) hm
        · exact State.useOf_congr (by rw [State.assign_get_ne _ m hc]) l
      split
      next =>
        refine ⟨by rw [State.joinWait_link, State.assign_link_ne _ hm, hlink], fun hfree c => ?_⟩
        rw [← hassign c hfree]
        exact State.useOf_congr (by rw [State.joinWait_buffers]) l
      next => exact ⟨by rw [State.assign_link_ne _ hm, hlink], fun hfree c => hassign c hfree⟩
    next =>
      obtain ⟨hl, hu⟩ := ih ht
      exact ⟨hl.trans hlink, fun hfree c => hu hfree c⟩

theorem State.freeBuf_link_idle (h : s.activeJob l = none) (b : BufId) : (s.freeBuf b).link l = s.link l := by
  have hidle : (s.setHolder b .free).activeJob l = none := by
    rw [State.activeJob, State.setHolder_link]; exact h
  exact (giveBuffer_idle s.waitList hidle).1.trans (State.setHolder_link s b .free l)

theorem State.freeBuf_useOf_idle (h : s.activeJob l = none) (b c : BufId) :
    (s.freeBuf b).useOf l c = if c = b then none else s.useOf l c := by
  have hidle : (s.setHolder b .free).activeJob l = none := by
    rw [State.activeJob, State.setHolder_link]; exact h
  rw [State.freeBuf, (giveBuffer_idle s.waitList hidle).2 (State.setHolder_holder ..)]
  split
  next hc => rw [hc, State.useOf_setHolder_free]
  next hc => exact State.useOf_setHolder_ne s hc _ l

theorem State.freeBufs_link_idle (h : s.activeJob l = none) (bs : List BufId) : (s.freeBufs bs).link l = s.link l := by
  induction bs generalizing s with
  | nil => rfl
  | cons b bs ih =>
    have hb := State.freeBuf_link_idle h b
    exact (ih (by rw [State.activeJob, hb]; exact h)).trans hb

/-- What freeing buffers leaves of the buffers of a lane without an active job. -/
theorem State.freeBufs_useOf_idle (h : s.activeJob l = none) (bs : List BufId) (c : BufId) :
    (s.freeBufs bs).useOf l c = if c ∈ bs then none else s.useOf l c := by
  induction bs generalizing s with
  | nil => rfl
  | cons b bs ih =>
    have hb : (s.freeBuf b).activeJob l = none := by rw [State.activeJob, State.freeBuf_link_idle h b]; exact h
    refine (ih hb).trans ?_
    rw [State.freeBuf_useOf_idle h b]
    by_cases hc : c ∈ bs <;> by_cases hcb : c = b <;> simp [hc, hcb]

/-! The laws of the lanes -/

/-- The laws of one lane, but for that of its credits: its link, and its DATA entries with their buffers (R39). -/
structure State.LaneLaws (s : State) (l : Link) : Prop where
  link : (s.link l).Laned
  data : ∀ b ∈ (s.link l).dataBuffers, ∃ t k, s.useOf l b = some (.outbound t k)
  nodup : (s.link l).dataBuffers.Nodup

/-- The RESERVED buffers of a lane, counted, and the credits outstanding. -/
def State.reserved (s : State) (l : Link) : Nat := (s.allUses l BufferUse.isReserved).length
def State.credits (s : State) (l : Link) : Nat :=
  match s.activeJob l with
  | none => 0
  | some j => j.credits

/-- As many RESERVED buffers as credits, and `k` more; of a STOPPING lane nothing is said (R40, R55). -/
def State.Credited (s : State) (l : Link) (k : Nat) : Prop :=
  (s.link l).lane.state = .stopping ∨ s.reserved l = s.credits l + k

/-- The laws of both lanes, but for that of the credits at the link given, if one is. -/
structure State.Lanes (s : State) (o : Option Link) : Prop where
  laws : ∀ l, s.LaneLaws l
  credited : ∀ l, o ≠ some l → s.Credited l 0

variable {o : Option Link}

theorem State.Lanes.loosen (h : s.Lanes none) (l : Link) : s.Lanes (some l) := ⟨h.laws, fun m _ => h.credited m (by simp)⟩

theorem State.Lanes.whole (h : s.Lanes (some l)) (hc : s.Credited l 0) : s.Lanes none :=
  ⟨h.laws, fun m _ => by
    by_cases hm : m = l
    · exact hm ▸ hc
    · exact h.credited m fun e => hm (Option.some.inj e).symm⟩

/-- The laws see of one lane its link and the buffers of its DATA entries, of which some may leave. -/
theorem State.LaneLaws.of_sublist (h : s.LaneLaws l) (hx : (t.link l).Laned)
    (hd : (t.link l).dataBuffers.Sublist (s.link l).dataBuffers)
    (hu : ∀ b ∈ (t.link l).dataBuffers, t.useOf l b = s.useOf l b) : t.LaneLaws l where
  link := hx
  data b hb := by
    rw [hu b hb]
    exact h.data b (hd.subset hb)
  nodup := h.nodup.sublist hd

theorem State.LaneLaws.of_eq (h : s.LaneLaws l) (hx : (t.link l).Laned) (hd : (t.link l).dataBuffers = (s.link l).dataBuffers)
    (hu : ∀ b ∈ (s.link l).dataBuffers, t.useOf l b = s.useOf l b) : t.LaneLaws l :=
  h.of_sublist hx (hd ▸ .refl _) fun b hb => hu b (hd ▸ hb)

theorem State.reserved_congr (h : ∀ b, t.useOf l b = s.useOf l b) : t.reserved l = s.reserved l := by
  simp only [State.reserved, State.allUses, h]

theorem State.Credited.of_active {k : Nat} (h : s.Credited l k) (hx : (t.link l).activeJob = (s.link l).activeJob)
    (ha : (t.link l).lane.state = (s.link l).lane.state) (hu : ∀ b, t.useOf l b = s.useOf l b) : t.Credited l k := by
  unfold State.Credited at h ⊢
  rwa [ha, State.reserved_congr hu, State.credits, State.activeJob, hx]

theorem State.Credited.of_eq {k : Nat} (h : s.Credited l k) (hx : (t.link l).live = (s.link l).live)
    (ha : (t.link l).lane.state = (s.link l).lane.state) (hu : ∀ b, t.useOf l b = s.useOf l b) : t.Credited l k :=
  h.of_active (State.activeJob_congr hx) ha hu

/-- Links change in what the laws do not see, and the buffers keep their holders. -/
theorem State.Lanes.of_sameLane (h : s.Lanes o) (hl : ∀ m, (s.link m).SameLane (t.link m))
    (hu : ∀ b, (t.buffers.get b).holder = (s.buffers.get b).holder) : t.Lanes o where
  laws m := (h.laws m).of_eq ((hl m).laned (h.laws m).link) (hl m).data fun b _ => State.useOf_congr (hu b) m
  credited m hm := (h.credited m hm).of_eq (hl m).live (congrArg Lane.state (hl m).lane) fun b =>
    State.useOf_congr (hu b) m

theorem State.Lanes.of_same (h : s.Lanes o) (hl : ∀ m, t.link m = s.link m) (hb : t.buffers = s.buffers) : t.Lanes o :=
  h.of_sameLane (fun m => by rw [hl]; exact .refl _) fun b => by rw [hb]

theorem State.Lanes.onLink (h : s.Lanes o) {f : LinkState → LinkState} (hf : (s.link l).SameLane (f (s.link l))) :
    (s.onLink l f).Lanes o := by
  refine h.of_sameLane (fun m => ?_) fun b => by rw [State.onLink_buffers]
  by_cases hm : m = l
  · rw [hm, State.onLink_link]; exact hf
  · rw [State.onLink_ne s hm]; exact .refl _

theorem State.SameLinks.lanes (h : s.SameLinks t) (hs : s.Lanes o) : t.Lanes o := hs.of_same h.link h.buffers

theorem State.Lanes.setBytes (h : s.Lanes o) (b : BufId) (m : Memory) : (s.setBytes b m).Lanes o :=
  h.of_sameLane (fun l => by rw [State.setBytes_link]; exact .refl _) fun c => State.setBytes_holder s b c m

/-! A buffer of another holder or use -/

/-- No law speaks of the buffer: it backs no DATA entry, and, but at the link given, no credit. -/
def State.Loose (s : State) (o : Option Link) (b : BufId) : Prop :=
  (∀ m, b ∉ (s.link m).dataBuffers) ∧ ∀ m, o ≠ some m → s.useOf m b ≠ some .reserved

theorem State.LaneLaws.setHolder (h : s.LaneLaws m) (hb : b ∉ (s.link m).dataBuffers) (a : Holder) :
    (s.setHolder b a).LaneLaws m :=
  h.of_eq (by rw [State.setHolder_link]; exact h.link) (by rw [State.setHolder_link]) fun c hc =>
    State.useOf_setHolder_ne s (fun e : c = b => hb (e ▸ hc)) a m

theorem BufferUse.isReserved_iff {u : BufferUse} : u.isReserved = true ↔ u = .reserved := by
  cases u <;> simp [BufferUse.isReserved]

theorem State.reserved_eq (s : State) (l : Link) :
    s.reserved l = bufferIds.countP (fun b => decide (s.useOf l b = some .reserved)) := by
  rw [State.reserved, State.allUses, ← List.countP_eq_length_filter]
  refine List.countP_congr fun b _ => ?_
  cases s.useOf l b <;> simp [BufferUse.isReserved_iff]

/-- The RESERVED buffers after a change of one. -/
theorem State.reserved_setHolder (s : State) (b : BufId) (a : Holder) (l : Link) :
    (s.setHolder b a).reserved l + (if s.useOf l b = some .reserved then 1 else 0) =
      s.reserved l + (if a = .lane l .reserved then 1 else 0) := by
  have h := countP_change (b := b) (p := fun c => decide (s.useOf l c = some .reserved))
    (q := fun c => decide ((s.setHolder b a).useOf l c = some .reserved))
    fun c hc => by rw [State.useOf_setHolder_ne s hc]
  rw [State.reserved_eq, State.reserved_eq]
  simpa only [decide_eq_true_eq, State.useOf_eq_some (s := s.setHolder b a), State.setHolder_holder] using h

theorem State.credits_setHolder (s : State) (b : BufId) (a : Holder) (l : Link) : (s.setHolder b a).credits l = s.credits l := by
  rw [State.credits, State.activeJob, State.setHolder_link, State.credits, State.activeJob]

theorem State.Credited.setHolder {k : Nat} (h : s.Credited l k) (hb : s.useOf l b ≠ some .reserved) {a : Holder}
    (ha : a ≠ .lane l .reserved) : (s.setHolder b a).Credited l k := by
  have hcount := State.reserved_setHolder s b a l
  simp only [hb, ha, if_false, Nat.add_zero] at hcount
  unfold State.Credited at h ⊢
  rwa [State.setHolder_link, State.credits_setHolder, hcount]

/-- One more RESERVED buffer. -/
theorem State.Credited.reserve {k : Nat} (h : s.Credited l k) (hb : s.useOf l b ≠ some .reserved) :
    (s.setHolder b (.lane l .reserved)).Credited l (k + 1) := by
  have hcount := State.reserved_setHolder s b (.lane l .reserved) l
  simp only [hb, if_false, if_true, Nat.add_zero] at hcount
  unfold State.Credited at h ⊢
  rw [State.setHolder_link, State.credits_setHolder, hcount]
  exact h.imp id fun h => by omega

/-- One RESERVED buffer fewer. -/
theorem State.Credited.unreserve {k : Nat} (h : s.Credited l (k + 1)) (hb : s.useOf l b = some .reserved) {a : Holder}
    (ha : a ≠ .lane l .reserved) : (s.setHolder b a).Credited l k := by
  have hcount := State.reserved_setHolder s b a l
  simp only [hb, ha, if_false, if_true, Nat.add_zero] at hcount
  unfold State.Credited at h ⊢
  rw [State.setHolder_link, State.credits_setHolder]
  exact h.imp id fun h => by omega

/-- A buffer that no law speaks of goes to any holder and use but RESERVED. -/
theorem State.Lanes.setHolder (h : s.Lanes o) (hb : s.Loose o b) {a : Holder} (ha : ∀ m, a ≠ .lane m .reserved) :
    (s.setHolder b a).Lanes o :=
  ⟨fun m => (h.laws m).setHolder (hb.1 m) a, fun m hm => (h.credited m hm).setHolder (hb.2 m hm) (ha m)⟩

/-- A buffer of a use that no law speaks of. -/
theorem State.LaneLaws.not_mem_data (h : s.LaneLaws m) (hb : ∀ t k, s.useOf m b ≠ some (.outbound t k)) :
    b ∉ (s.link m).dataBuffers := fun hmem => by
  obtain ⟨t, k, hu⟩ := h.data b hmem
  exact hb t k hu

theorem State.Lanes.loose_of_free (h : s.Lanes o) (hb : (s.buffers.get b).holder = .free) : s.Loose o b :=
  ⟨fun m => (h.laws m).not_mem_data fun t k => by simp [State.useOf_free hb], fun m _ => by simp [State.useOf_free hb]⟩

theorem State.Lanes.loose_of_use (h : s.Lanes o) {u : BufferUse} (hb : s.useOf l b = some u) (hout : u.isOutbound = false)
    (hres : o = some l ∨ u ≠ .reserved) : s.Loose o b := by
  refine ⟨fun m => (h.laws m).not_mem_data fun t k hu => ?_, fun m hm hu => ?_⟩
  · by_cases e : m = l
    · rw [e, hb] at hu
      cases hu
      cases hout
    · rw [State.useOf_other hb e] at hu
      cases hu
  · by_cases e : m = l
    · rw [e, hb] at hu
      exact hres.elim (fun ho => hm (e ▸ ho)) fun hne => hne (Option.some.inj hu)
    · rw [State.useOf_other hb e] at hu
      cases hu

/-! Credits (R40, R41) -/

theorem mergeCredit_eq_none {tag n : Nat} {es : List Entry} (h : mergeCredit tag n es = none) :
    tag ∉ es.filterMap Entry.creditTag? := by
  induction es with
  | nil => simp
  | cons e es ih =>
    cases e with
    | credit t k =>
      simp only [mergeCredit] at h
      split at h
      next => cases h
      next ht =>
        simp only [List.filterMap_cons, Entry.creditTag?, List.mem_cons, not_or]
        exact ⟨Ne.symm ht, ih (Option.map_eq_none_iff.mp h)⟩
    | _ =>
      simp only [mergeCredit] at h
      simpa [List.filterMap_cons, Entry.creditTag?] using ih (Option.map_eq_none_iff.mp h)

theorem mergeCredit_nil_of_nil {tag n : Nat} {es fs : List Entry} (h : mergeCredit tag n es = some fs) (hn : es = []) :
    fs = [] := by rw [hn] at h; cases h

theorem LinkState.offerCredit_dataBuffers (tag n : Nat) (x : LinkState) : (x.offerCredit tag n).dataBuffers = x.dataBuffers := by
  unfold LinkState.offerCredit
  split
  next es h =>
    exact (LinkState.SameLane.of_waiting (mergeCredit_nil_of_nil h) (mergeCredit_map (fun _ _ _ => rfl) h)
      (mergeCredit_map (fun _ _ _ => rfl) h)).data
  next =>
    split
    next => simp [LinkState.dataBuffers_push, Entry.buffer?]
    next => rfl

/-- New credits of the active WRITE job are announced in a way that keeps the credit place. -/
theorem LinkState.Laned.offerCredit {x : LinkState} (h : x.Laned) (hj : x.activeJob = some j) (hk : j.kind = .write) (n : Nat) :
    (x.offerCredit j.tag n).Laned := by
  unfold LinkState.offerCredit
  split
  next es hes =>
    exact (LinkState.SameLane.of_waiting (mergeCredit_nil_of_nil hes) (mergeCredit_map (fun _ _ _ => rfl) hes)
      (mergeCredit_map (fun _ _ _ => rfl) hes)).laned h
  next hnone =>
    have hnot : j.tag ∉ x.waitingTags := mergeCredit_eq_none hnone
    split
    next hzero =>
      rw [LinkState.creditEntries_eq, List.length_eq_zero_iff] at hzero
      have hsub := LinkState.waitingTags_push (x := x) (e := .credit j.tag n)
      refine ⟨h.tail, h.closed, h.busy, h.timers, by simp [LinkState.creditTags_push, hzero, Entry.creditTag?],
        fun t ht => ?_, fun hp => ?_⟩
      · rcases List.mem_append.mp (hsub ht) with ht | ht
        · exact h.owned t ht
        · have htag : t = j.tag := by simpa [Entry.creditTag?] using ht
          exact ⟨j, hj, hk, htag.symm⟩
      · obtain ⟨hw, hs⟩ := h.pending hp
        exact ⟨hw, fun hnil => hs (List.subset_nil.mp (hnil ▸ LinkState.sendingTags_push))⟩
    next hone =>
      refine ⟨h.tail, h.closed, h.busy, h.timers, h.place, h.owned, fun _ => ⟨⟨j, hj, hk⟩, fun hnil => hone ?_⟩⟩
      have hnil' : x.sendingTags = [] := hnil
      rw [LinkState.creditEntries_eq, ← LinkState.sendingTags_append_waitingTags, hnil', List.nil_append,
        List.length_eq_zero_iff, List.eq_nil_iff_forall_not_mem]
      intro t ht
      obtain ⟨k, hk', -, htag⟩ := h.owned t ht
      rw [hj] at hk'
      cases hk'
      exact hnot (htag ▸ ht)

/-- The active job changes, and stays active, the same one and within its law. -/
theorem LinkState.Laned.onHead {x : LinkState} (h : x.Laned) (hj : x.activeJob = some j) {f : Job → Job}
    (hact : (f j).state ≠ .queued) (hkind : (f j).kind = j.kind) (htag : (f j).tag = j.tag)
    (htimers : (f j).timersLaw = true) : (x.onHead f).Laned ∧ (x.onHead f).activeJob = some (f j) := by
  obtain ⟨js, hx, -⟩ := LinkState.activeJob_eq_some.mp hj
  have hactive : (x.onHead f).activeJob = some (f j) :=
    LinkState.activeJob_eq_some.mpr ⟨js, by rw [LinkState.onHead_of_cons hx], hact⟩
  rw [LinkState.onHead_of_cons hx] at hactive ⊢
  refine ⟨⟨fun k hk => h.tail k (by rw [hx]; exact hk), fun hc => ?_, ?_, ?_, h.place, fun t ht => ?_, fun hp => ?_⟩, hactive⟩
  · have hnil := h.closed hc
    rw [hx] at hnil
    cases hnil
  · rw [hactive]
    exact iff_of_true (h.busy.mpr ⟨j, hj⟩) ⟨_, rfl⟩
  · intro k hk
    rcases List.mem_cons.mp hk with rfl | hk
    · exact htimers
    · exact h.timers k (by rw [hx]; exact List.mem_cons_of_mem _ hk)
  · obtain ⟨k, hk, hkw, hkt⟩ := h.owned t ht
    rw [hj] at hk
    cases hk
    exact ⟨_, hactive, hkind.trans hkw, htag.trans hkt⟩
  · obtain ⟨⟨k, hk, hkw⟩, hs⟩ := h.pending hp
    rw [hj] at hk
    cases hk
    exact ⟨⟨_, hactive, hkind.trans hkw⟩, hs⟩

@[simp] theorem LinkState.onHead_dataBuffers (f : Job → Job) (x : LinkState) : (x.onHead f).dataBuffers = x.dataBuffers := by
  rw [LinkState.dataBuffers, LinkState.onHead_outbound, LinkState.dataBuffers]

/-! The law of a job's timers and credits (R40, R45, R70) -/

theorem Job.timersLaw_iff {j : Job} : j.timersLaw = true ↔ (j.dataTimer ≠ .stopped ↔ j.dataTimed = true) ∧
    (j.holdTimer = .stopped ∨ j.state = .paused ∧ j.causeHost = true) ∧ j.credits ≤ Config.creditMax ∧
    (j.credits = 0 ∨ j.kind = .write ∧ j.state ≠ .queued) := by
  simp only [Job.timersLaw, Bool.and_eq_true, beq_bool_iff, and_assoc]
  simp only [Bool.or_eq_true, Bool.and_eq_true, bne_iff_ne, decide_eq_true_eq, beq_iff_eq]

theorem Job.retime_dataTimer (j : Job) (n : Nat) : (j.retime n).dataTimer ≠ .stopped ↔ (j.retime n).dataTimed = true := by
  have h : (j.retime n).dataTimed = j.dataTimed := rfl
  rw [h]
  cases hd : j.dataTimed <;> simp [Job.retime, hd]

/-- A job whose data timer follows keeps the law if its hold timer and its credits do. -/
theorem Job.timersLaw_retime {k : Job} (n : Nat) (hh : k.holdTimer = .stopped ∨ k.state = .paused ∧ k.causeHost = true)
    (hm : k.credits ≤ Config.creditMax) (hc : k.credits = 0 ∨ k.kind = .write ∧ k.state ≠ .queued) :
    (k.retime n).timersLaw = true :=
  Job.timersLaw_iff.mpr ⟨Job.retime_dataTimer k n, hh, hm, hc⟩

/-- A change that touches none of what the law speaks of. -/
theorem Job.timersLaw_of_same {k : Job} (h : j.timersLaw = true) (h1 : k.dataTimer = j.dataTimer) (h2 : k.holdTimer = j.holdTimer)
    (h3 : k.credits = j.credits) (h4 : k.kind = j.kind) (h5 : k.state = j.state) (h6 : j.causeHost = true → k.causeHost = true) :
    k.timersLaw = true := by
  have hd : k.dataTimed = j.dataTimed := by rw [Job.dataTimed, h3, h4, h5, Job.dataTimed]
  obtain ⟨k1, k2, k3, k4⟩ := Job.timersLaw_iff.mp h
  refine Job.timersLaw_iff.mpr ⟨by rw [h1, hd]; exact k1, ?_, by rw [h3]; exact k3, by rw [h3, h4, h5]; exact k4⟩
  rw [h2, h5]
  exact k2.imp id (And.imp id h6)

theorem State.LaneLaws.timers (h : s.LaneLaws l) (hj : s.activeJob l = some j) : j.timersLaw = true := by
  obtain ⟨js, hx, -⟩ := State.activeJob_eq_some.mp hj
  exact h.link.timers j (by rw [hx]; exact List.mem_cons_self ..)

/-- A job that RUNS or is PAUSING has no hold timer running. -/
theorem Job.hold_stopped (h : j.timersLaw = true) (hs : j.state ≠ .paused) : j.holdTimer = .stopped :=
  (Job.timersLaw_iff.mp h).2.1.resolve_right fun hp => hs hp.1

/-! A change of the active job -/

theorem State.onJob_link (s : State) (l : Link) (f : Job → Job) : (s.onJob l f).link l = (s.link l).onHead f :=
  State.onLink_link ..

theorem State.onJob_link_ne (s : State) (h : m ≠ l) (f : Job → Job) : (s.onJob l f).link m = s.link m :=
  State.onLink_ne s h _

theorem State.onJob_useOf (s : State) (l m : Link) (f : Job → Job) (b : BufId) : (s.onJob l f).useOf m b = s.useOf m b :=
  State.useOf_congr (by rw [State.onJob, State.onLink_buffers]) m

@[simp] theorem LinkState.onHead_lane (f : Job → Job) (x : LinkState) : (x.onHead f).lane = x.lane := by
  unfold LinkState.onHead
  split <;> rfl

theorem State.onJob_activeJob (hj : s.activeJob l = some j) {f : Job → Job} (hact : (f j).state ≠ .queued) :
    (s.onJob l f).activeJob l = some (f j) := State.activeJob_onJob hj hact

/-- The laws after a change of the active job, whatever becomes of its credits. -/
theorem State.LaneLaws.onJob (h : s.LaneLaws m) (hj : s.activeJob l = some j) {f : Job → Job} (hact : (f j).state ≠ .queued)
    (hkind : (f j).kind = j.kind) (htag : (f j).tag = j.tag) (htimers : (f j).timersLaw = true) :
    (s.onJob l f).LaneLaws m := by
  by_cases hm : m = l
  · subst hm
    refine h.of_eq ?_ (by rw [State.onJob_link, LinkState.onHead_dataBuffers]) fun b _ => s.onJob_useOf m m f b
    rw [State.onJob_link]
    exact (h.link.onHead hj hact hkind htag htimers).1
  · exact h.of_eq (by rw [State.onJob_link_ne s hm]; exact h.link) (by rw [State.onJob_link_ne s hm])
      fun b _ => s.onJob_useOf l m f b

theorem State.Credited.onJob_ne {k : Nat} (h : s.Credited m k) (hm : m ≠ l) (f : Job → Job) : (s.onJob l f).Credited m k :=
  h.of_eq (by rw [State.onJob_link_ne s hm]) (by rw [State.onJob_link_ne s hm]) fun b => s.onJob_useOf l m f b

/-- The active job has other credits; what is over or missing is said. -/
theorem State.Credited.onJob {k n : Nat} (h : s.Credited l k) (hj : s.activeJob l = some j) {f : Job → Job}
    (hact : (f j).state ≠ .queued) (hn : j.credits + k = (f j).credits + n) : (s.onJob l f).Credited l n := by
  unfold State.Credited at h ⊢
  rw [State.onJob_link, LinkState.onHead_lane, State.reserved_congr fun b => s.onJob_useOf l l f b, State.credits,
    State.onJob_activeJob hj hact]
  rw [State.credits, hj] at h
  exact h.imp id fun h => h.trans hn

/-- A change of the active job that keeps its credits. -/
theorem State.Lanes.onJob (h : s.Lanes o) (hj : s.activeJob l = some j) {f : Job → Job} (hact : (f j).state ≠ .queued)
    (hkind : (f j).kind = j.kind) (htag : (f j).tag = j.tag) (htimers : (f j).timersLaw = true)
    (hcredits : (f j).credits = j.credits) : (s.onJob l f).Lanes o where
  laws m := (h.laws m).onJob hj hact hkind htag htimers
  credited m hm := by
    by_cases e : m = l
    · subst e
      exact (h.credited m hm).onJob hj hact (by rw [hcredits])
    · exact (h.credited m hm).onJob_ne e f

/-! Credits granted (R40, R44) -/

theorem LinkState.offerCredit_live (tag n : Nat) (x : LinkState) : (x.offerCredit tag n).live = x.live := by
  unfold LinkState.offerCredit
  split
  next => rfl
  next => split <;> rfl

theorem LinkState.offerCredit_laneState (tag n : Nat) (x : LinkState) : (x.offerCredit tag n).lane.state = x.lane.state := by
  unfold LinkState.offerCredit
  split
  next => rfl
  next => split <;> rfl

/-- The announcement of a credit granted (R41). -/
def LinkState.credited (tag : Nat) (x : LinkState) : LinkState :=
  ({ x with lane := { x.lane with blocksCredited := x.lane.blocksCredited + 1 } } : LinkState).offerCredit tag 1

/-- The active job with one more credit, its data timer following (R40, R45). -/
def Job.moreCredit (timeout : Nat) (j : Job) : Job := ({ j with credits := j.credits + 1 } : Job).retime timeout

theorem State.grantCredit_eq (hj : s.activeJob l = some j) :
    s.grantCredit l = (s.onJob l (Job.moreCredit (s.link l).timeout)).onLink l (LinkState.credited j.tag) := by
  simp only [State.grantCredit, hj, State.onTimedJob_eq]
  rfl

theorem LinkState.Laned.withLane {x : LinkState} (h : x.Laned) {a : Lane} (hs : a.state = x.lane.state)
    (hp : a.pendingCredits = x.lane.pendingCredits) : (x.withLane a).Laned :=
  ⟨h.tail, h.closed, by rw [LinkState.withLane, hs]; exact h.busy, h.timers, h.place, h.owned,
    by rw [LinkState.withLane, hp]; exact h.pending⟩

theorem LinkState.Laned.credited {x : LinkState} (h : x.Laned) (hj : x.activeJob = some j) (hk : j.kind = .write) :
    (x.credited j.tag).Laned :=
  LinkState.Laned.offerCredit
    (h.withLane (a := { x.lane with blocksCredited := x.lane.blocksCredited + 1 }) rfl rfl) hj hk 1

theorem LinkState.credited_dataBuffers (tag : Nat) (x : LinkState) : (x.credited tag).dataBuffers = x.dataBuffers :=
  LinkState.offerCredit_dataBuffers ..

theorem LinkState.credited_live (tag : Nat) (x : LinkState) : (x.credited tag).live = x.live := LinkState.offerCredit_live ..

theorem LinkState.credited_laneState (tag : Nat) (x : LinkState) : (x.credited tag).lane.state = x.lane.state :=
  LinkState.offerCredit_laneState ..

/-- A credit is granted for the RESERVED buffer that is one over. -/
theorem State.Lanes.grantCredit (hs : ∀ m, s.LaneLaws m) (hj : s.activeJob l = some j) (hk : j.kind = .write)
    (hroom : j.credits < Config.creditMax) (hne : ∀ m, m ≠ l → o ≠ some m → s.Credited m 0)
    (hl : o ≠ some l → s.Credited l 1) : (s.grantCredit l).Lanes o := by
  have hact := State.active_ne_queued hj
  obtain ⟨-, hhold, -, -⟩ := Job.timersLaw_iff.mp ((hs l).timers hj)
  have hlaws : ∀ m, (s.onJob l (Job.moreCredit (s.link l).timeout)).LaneLaws m := fun m =>
    (hs m).onJob hj hact rfl rfl (Job.timersLaw_retime _ hhold hroom (.inr ⟨hk, hact⟩))
  have hactive := State.onJob_activeJob (f := Job.moreCredit (s.link l).timeout) hj hact
  have huse : ∀ m b, ((s.onJob l (Job.moreCredit (s.link l).timeout)).onLink l (LinkState.credited j.tag)).useOf m b =
      (s.onJob l (Job.moreCredit (s.link l).timeout)).useOf m b := fun m b =>
    State.useOf_congr (by rw [State.onLink_buffers]) m
  rw [State.grantCredit_eq hj]
  constructor
  · intro m
    by_cases hm : m = l
    · subst hm
      refine (hlaws m).of_eq ?_ ?_ fun b _ => huse m b
      · rw [State.onLink_link]
        exact LinkState.Laned.credited (j := j.moreCredit _) (hlaws m).link hactive hk
      · rw [State.onLink_link, LinkState.credited_dataBuffers]
    · exact (hlaws m).of_eq (by rw [State.onLink_ne _ hm]; exact (hlaws m).link) (by rw [State.onLink_ne _ hm])
        fun b _ => huse m b
  · intro m ho
    by_cases hm : m = l
    · subst hm
      exact ((hl ho).onJob hj hact (f := Job.moreCredit (s.link m).timeout) (n := 0) rfl).of_eq
        (by rw [State.onLink_link, LinkState.credited_live]) (by rw [State.onLink_link, LinkState.credited_laneState])
        (huse m)
    · exact ((hne m hm ho).onJob_ne hm _).of_eq (by rw [State.onLink_ne _ hm]) (by rw [State.onLink_ne _ hm]) (huse m)

theorem LinkState.credits_lt_of_room {x : LinkState} (h : 0 < x.creditRoom j) : j.credits < Config.creditMax := by
  simp only [LinkState.creditRoom, lt_min_iff] at h
  omega

/-! The pool's operations (R33, R34, R44) -/

theorem State.Lanes.assign (h : s.Lanes o) (hw : s.wantsBuffer l = true) (hb : (s.buffers.get b).holder = .free) :
    (s.assign l b).Lanes o := by
  obtain ⟨-, j, hj, -, hneeds⟩ := State.activeJob_of_wantsBuffer hw
  have hloose := h.loose_of_free hb
  simp only [State.assign, hj]
  split
  next => exact h.setHolder hloose (by simp)
  next => exact h.setHolder hloose (by simp)
  next => exact (h.setHolder hloose (by simp)).setBytes _ _
  next hk =>
    have hnot : ∀ m, s.useOf m b ≠ some .reserved := fun m => by simp [State.useOf_free hb]
    refine State.Lanes.grantCredit (j := j) (fun m => (h.laws m).setHolder (hloose.1 m) _) ?_ hk ?_ (fun m hm ho => ?_)
      fun ho => ?_
    · rw [State.activeJob, State.setHolder_link]; exact hj
    · simp only [State.jobNeedsBuffer, hk, decide_eq_true_eq] at hneeds
      exact LinkState.credits_lt_of_room hneeds
    · exact (h.credited m ho).setHolder (hnot m) (by simp [Ne.symm hm])
    · exact (h.credited l ho).reserve (hnot l)

theorem State.Lanes.joinWait (h : s.Lanes o) (l : Link) : (s.joinWait l).Lanes o :=
  h.of_same (State.joinWait_link s l) (State.joinWait_buffers s l)

theorem State.Lanes.giveBuffer (h : s.Lanes o) (w : List Link) (hb : (s.buffers.get b).holder = .free) :
    (giveBuffer w b s).Lanes o := by
  induction w generalizing s with
  | nil => exact h.of_same (State.withWaitList_link s []) rfl
  | cons l rest ih =>
    have ht : State.Lanes { s with waitList := rest } o := h.of_same (State.withWaitList_link s rest) rfl
    unfold Machine.giveBuffer
    simp only
    split
    next hwants =>
      have hgiven := ht.assign hwants hb
      split
      next => exact hgiven.joinWait l
      next => exact hgiven
    next => exact ih ht hb

theorem State.Lanes.freeBuf (h : s.Lanes o) (hb : s.Loose o b) : (s.freeBuf b).Lanes o :=
  (h.setHolder hb (by simp)).giveBuffer _ (State.setHolder_holder ..)

/-- The buffers of the DATA entries stay what they are where a buffer is handed out. -/
theorem State.assign_dataBuffers (s : State) (l m : Link) (b : BufId) :
    ((s.assign l b).link m).dataBuffers = (s.link m).dataBuffers := by
  by_cases hm : m = l
  · subst hm
    unfold State.assign
    split
    next => rfl
    next j hj =>
      split
      next => simp
      next => simp
      next => simp
      next =>
        have hj' : (s.setHolder b (.lane m .reserved)).activeJob m = some j := by
          rw [State.activeJob, State.setHolder_link]; exact hj
        rw [State.grantCredit_eq hj', State.onLink_link, LinkState.credited_dataBuffers, State.onJob_link,
          LinkState.onHead_dataBuffers, State.setHolder_link]
  · rw [State.assign_link_ne s hm]

theorem giveBuffer_dataBuffers (w : List Link) (b : BufId) (s : State) (m : Link) :
    ((giveBuffer w b s).link m).dataBuffers = (s.link m).dataBuffers := by
  induction w generalizing s with
  | nil => cases m <;> rfl
  | cons l rest ih =>
    have hlink := State.withWaitList_link s rest m
    unfold giveBuffer
    simp only
    split
    next =>
      split
      next => rw [State.joinWait_link, State.assign_dataBuffers, hlink]
      next => rw [State.assign_dataBuffers, hlink]
    next => rw [ih, hlink]

theorem State.freeBuf_dataBuffers (s : State) (b : BufId) (m : Link) :
    ((s.freeBuf b).link m).dataBuffers = (s.link m).dataBuffers := by
  rw [State.freeBuf, giveBuffer_dataBuffers, State.setHolder_link]

/-- Another buffer that is freed leaves a buffer as loose as it was. -/
theorem State.Loose.freeBuf (h : s.Loose o c) (hc : c ≠ b) : (s.freeBuf b).Loose o c :=
  ⟨fun m => by rw [State.freeBuf_dataBuffers]; exact h.1 m, fun m hm => by
    rw [State.useOf_congr (t := s.freeBuf b) (s := s) (by rw [State.freeBuf_get_ne s hc]) m]; exact h.2 m hm⟩

theorem State.Lanes.freeBufs {bs : List BufId} (h : s.Lanes o) (hn : bs.Nodup) (hbs : ∀ b ∈ bs, s.Loose o b) :
    (s.freeBufs bs).Lanes o := by
  induction bs generalizing s with
  | nil => exact h
  | cons b bs ih =>
    obtain ⟨hb, hn⟩ := List.nodup_cons.mp hn
    exact ih (h.freeBuf (hbs b (List.mem_cons_self ..))) hn fun c hc =>
      (hbs c (List.mem_cons_of_mem _ hc)).freeBuf fun e => hb (e ▸ hc)

theorem State.Lanes.dropIdleWait (h : s.Lanes o) (l : Link) : (s.dropIdleWait l).Lanes o :=
  h.of_same (State.dropIdleWait_link s l) (State.dropIdleWait_buffers s l)

/-- A buffer of the lane is emptied: it backs a new credit, or is freed. -/
theorem State.Lanes.emptyWriteBuffer (h : s.Lanes o) {u : BufferUse} (hb : s.useOf l b = some u) (hout : u.isOutbound = false)
    (hres : u ≠ .reserved) (hk : ∀ j, s.activeJob l = some j → j.kind = .write) : (s.emptyWriteBuffer l b).Lanes o := by
  have hloose := h.loose_of_use hb hout (.inr hres)
  unfold State.emptyWriteBuffer
  split
  next => exact h.freeBuf hloose
  next j hj =>
    split
    next hroom =>
      refine State.Lanes.dropIdleWait ?_ l
      refine State.Lanes.grantCredit (j := j) (fun m => (h.laws m).setHolder (hloose.1 m) _) ?_ (hk j hj)
        (LinkState.credits_lt_of_room hroom.2) (fun m hm ho => ?_) fun ho => ?_
      · rw [State.activeJob, State.setHolder_link]; exact hj
      · exact (h.credited m ho).setHolder (hloose.2 m ho) (by simp [Ne.symm hm])
      · exact (h.credited l ho).reserve (hloose.2 l ho)
    next => exact h.freeBuf hloose

end

end Sys2Proof.Machine
end

section
/-! PROOFS. The laws of both lanes, kept by every operation of a lane (01, 02, 03). -/

namespace Sys2Proof.Machine

section
variable {s t : State} {l m : Link} {b c : BufId} {j k : Job} {o : Option Link} {x : LinkState}

/-! The end of a job (R23) -/

/-- A CREDIT of the tag that waits is gone, and nothing else. -/
theorem LinkState.removeCredit_tags (tag : Nat) (x : LinkState) : (x.removeCredit tag).dataBuffers = x.dataBuffers ∧
    (x.removeCredit tag).creditTags.Sublist x.creditTags ∧
    ∀ t ∈ (x.removeCredit tag).waitingTags, t ∈ x.waitingTags ∧ t ≠ tag := by
  have hrem : ∀ (p : Entry → Bool) (es : List Entry), (∀ e, p e = false → e.buffer? = none) →
      (es.filter p).filterMap Entry.buffer? = es.filterMap Entry.buffer? := fun p es hp => by
    induction es with
    | nil => rfl
    | cons e es ih =>
      cases he : p e with
      | true => rw [List.filter_cons_of_pos he, List.filterMap_cons, List.filterMap_cons, ih]
      | false => rw [List.filter_cons_of_neg (by simp [he]), List.filterMap_cons, hp e he, ih]
  refine ⟨?_, ?_, fun t ht => ?_⟩
  · unfold LinkState.dataBuffers LinkState.removeCredit
    conv_rhs => rw [← x.sending_append_waiting]
    rw [List.filterMap_append, List.filterMap_append, hrem _ _ fun e he => ?_]
    cases e with
    | data => cases he
    | _ => rfl
  · unfold LinkState.creditTags LinkState.removeCredit
    conv_rhs => rw [← x.sending_append_waiting]
    exact (List.Sublist.append (.refl _) List.filter_sublist).filterMap _
  · unfold LinkState.waitingTags LinkState.removeCredit at ht
    rw [(LinkState.waiting_replaced (x := x) fun hn => by rw [hn]; rfl).2] at ht
    obtain ⟨e, he, het⟩ := List.mem_filterMap.mp ht
    obtain ⟨hw, hp⟩ := List.mem_filter.mp he
    cases e <;> simp only [Entry.creditTag?, reduceCtorEq, Option.some.injEq] at het
    subst het
    exact ⟨List.mem_filterMap.mpr ⟨_, hw, rfl⟩, by simpa using hp⟩

theorem LinkState.activeJob_of_queued (h : ∀ k ∈ x.live, k.state = .queued) : x.activeJob = none := by
  unfold LinkState.activeJob
  split
  next => rfl
  next k ks hx => rw [if_pos (h k (by rw [hx]; exact List.mem_cons_self ..))]

@[simp] theorem LinkState.offer_lane (n : Notice) (x : LinkState) : (x.offer n).lane = x.lane :=
  (LinkState.SameLane.offer n x).lane

@[simp] theorem LinkState.offer_session (n : Notice) (x : LinkState) : (x.offer n).session = x.session := by
  unfold LinkState.offer
  split <;> rfl

/-- The entry of the job's end goes to the history, its notice to the queue, and a CREDIT of it that waits leaves. -/
def LinkState.endingQueue (j : Job) (o : JobOutcome) (x : LinkState) : LinkState :=
  if j.kind = .write then ((x.pop (j.entry o)).offer (j.endedNotice o)).removeCredit j.tag
  else (x.pop (j.entry o)).offer (j.endedNotice o)

theorem LinkState.ending_eq (j : Job) (o : JobOutcome) (inFlight : Bool) (x : LinkState) :
    LinkState.ending j o inFlight x = (x.endingQueue j o).withLane ⟨if inFlight then .stopping else .idle, 0, 0⟩ := rfl

theorem LinkState.endingQueue_facts (h : x.Laned) (hj : x.activeJob = some j) (out : JobOutcome) :
    (x.endingQueue j out).live = x.live.tail ∧ (x.endingQueue j out).session = x.session ∧
      (x.endingQueue j out).dataBuffers = x.dataBuffers ∧ (x.endingQueue j out).creditTags.length ≤ 1 ∧
      (x.endingQueue j out).waitingTags = [] := by
  have hpop := LinkState.SameLane.offer (j.endedNotice out) (x.pop (j.entry out))
  have hdata : ((x.pop (j.entry out)).offer (j.endedNotice out)).dataBuffers = x.dataBuffers := hpop.data
  have htags : ((x.pop (j.entry out)).offer (j.endedNotice out)).creditTags = x.creditTags := hpop.tags
  have hwait : ∀ t ∈ ((x.pop (j.entry out)).offer (j.endedNotice out)).waitingTags, t = j.tag ∧ j.kind = .write :=
    fun t ht => by
      obtain ⟨i, hi, hik, hit⟩ := h.owned t (hpop.waiting ht)
      rw [hj] at hi
      cases hi
      exact ⟨hit.symm, hik⟩
  unfold LinkState.endingQueue
  split
  next =>
    obtain ⟨hrd, hrt, hrw⟩ := LinkState.removeCredit_tags j.tag ((x.pop (j.entry out)).offer (j.endedNotice out))
    refine ⟨hpop.live, LinkState.offer_session _ _, hrd.trans hdata, hrt.length_le.trans (htags ▸ h.place), ?_⟩
    exact List.eq_nil_iff_forall_not_mem.mpr fun t ht => (hrw t ht).2 (hwait t (hrw t ht).1).1
  next hkind =>
    refine ⟨hpop.live, LinkState.offer_session _ _, hdata, htags ▸ h.place, ?_⟩
    exact List.eq_nil_iff_forall_not_mem.mpr fun t ht => hkind (hwait t ht).2

/-- The link behind the end of its active job: no job is active. -/
theorem LinkState.Laned.ending (h : x.Laned) (hj : x.activeJob = some j) (out : JobOutcome) (inFlight : Bool) :
    (LinkState.ending j out inFlight x).Laned ∧ (LinkState.ending j out inFlight x).activeJob = none ∧
      (LinkState.ending j out inFlight x).dataBuffers = x.dataBuffers := by
  obtain ⟨hlive, hsession, hdata, hplace, hwait⟩ := LinkState.endingQueue_facts h hj out
  have hnone : (LinkState.ending j out inFlight x).activeJob = none :=
    LinkState.activeJob_of_queued fun k hk => h.tail k (hlive ▸ hk)
  refine ⟨⟨fun k hk => h.tail k (List.mem_of_mem_tail ?_), fun hc => ?_, ?_, fun k hk => h.timers k (List.mem_of_mem_tail ?_),
    hplace, ?_, fun hp => absurd rfl hp⟩, hnone, hdata⟩
  · exact hlive ▸ hk
  · have hnil := h.closed (hsession ▸ hc)
    exact hlive.trans (by rw [hnil]; rfl)
  · rw [hnone]
    exact iff_of_false (by rw [LinkState.ending_eq, LinkState.withLane]; cases inFlight <;> simp) (by simp)
  · exact hlive ▸ hk
  · intro t ht
    have hnil : t ∈ (x.endingQueue j out).waitingTags := ht
    rw [hwait] at hnil
    cases hnil

theorem State.withdrawAll_link (s : State) (l m : Link) : (s.withdrawAll l).link m = s.link m := by
  simp [State.withdrawAll]

theorem State.withdrawAll_buffers (s : State) (l : Link) : (s.withdrawAll l).buffers = s.buffers := by
  simp [State.withdrawAll]

theorem State.Lanes.withdrawAll (h : s.Lanes o) (l : Link) : (s.withdrawAll l).Lanes o :=
  h.of_same (State.withdrawAll_link s l) (State.withdrawAll_buffers s l)

theorem State.Lanes.withdrawWait (h : s.Lanes o) (l : Link) : (s.withdrawWait l).Lanes o := h.of_same (by simp) rfl

/-- A link changes, no DATA entry joins its queue, and the buffers stay; nothing is said of its credits. -/
theorem State.Lanes.onLink_laned (h : s.Lanes none) {f : LinkState → LinkState} (hf : (f (s.link l)).Laned)
    (hd : (f (s.link l)).dataBuffers.Sublist (s.link l).dataBuffers) : (s.onLink l f).Lanes (some l) where
  laws m := by
    by_cases hm : m = l
    · subst hm
      exact (h.laws m).of_sublist (by rw [State.onLink_link]; exact hf) (by rw [State.onLink_link]; exact hd) fun b _ =>
        State.useOf_congr (by rw [State.onLink_buffers]) m
    · exact (h.laws m).of_eq (by rw [State.onLink_ne s hm]; exact (h.laws m).link) (by rw [State.onLink_ne s hm]) fun b _ =>
        State.useOf_congr (by rw [State.onLink_buffers]) m
  credited m hm := by
    have hne : m ≠ l := fun e => hm (e ▸ rfl)
    exact (h.credited m (by simp)).of_eq (by rw [State.onLink_ne s hne]) (by rw [State.onLink_ne s hne]) fun b =>
      State.useOf_congr (by rw [State.onLink_buffers]) m

theorem State.Lanes.ended (h : s.Lanes none) (hj : s.activeJob l = some j) (out : JobOutcome) :
    (s.ended l j out).Lanes (some l) ∧ (s.ended l j out).activeJob l = none := by
  have hw := h.withdrawAll l
  have hj' : ((s.withdrawAll l).link l).activeJob = some j := by rw [State.withdrawAll_link]; exact hj
  obtain ⟨hlaned, hnone, hdata⟩ := (hw.laws l).link.ending hj' out (s.bus.laneInFlight l)
  refine ⟨hw.onLink_laned hlaned (hdata ▸ .refl _), ?_⟩
  rw [State.ended, State.activeJob, State.onLink_link]
  exact hnone

theorem BufferUse.freedAtEnd_iff {f : Bool} {u : BufferUse} :
    u.freedAtEnd f = true ↔ u.isOutbound = false ∧ (f = false ∨ u.isInTransfer = false) := by
  cases f <;> simp [BufferUse.freedAtEnd]

/-- A lane without an active job frees its buffers, and the law of its credits is whole again (R12, R54, R55). -/
theorem State.Lanes.freeAll (h : s.Lanes (some l)) (hidle : s.activeJob l = none) (f : Bool)
    (hf : f = false ∨ (s.link l).lane.state = .stopping) : (s.freeBufs (s.allUses l (BufferUse.freedAtEnd f))).Lanes none := by
  refine State.Lanes.whole (l := l) (h.freeBufs (State.allUses_nodup s l _) fun b hb => ?_) ?_
  · obtain ⟨u, hu, hfreed⟩ := State.mem_allUses.mp hb
    exact h.loose_of_use hu (BufferUse.freedAtEnd_iff.mp hfreed).1 (.inl rfl)
  · have hlink := State.freeBufs_link_idle hidle (s.allUses l (BufferUse.freedAtEnd f))
    unfold State.Credited
    rw [hlink]
    rcases hf with rfl | hstop
    · refine .inr ?_
      rw [State.credits, State.activeJob, hlink, show (s.link l).activeJob = none from hidle, Nat.add_zero, State.reserved,
        List.length_eq_zero_iff, List.eq_nil_iff_forall_not_mem]
      intro b hb
      obtain ⟨u, hu, hres⟩ := State.mem_allUses.mp hb
      rw [State.freeBufs_useOf_idle hidle] at hu
      split at hu
      next => cases hu
      next hnot =>
        refine hnot (State.mem_allUses.mpr ⟨u, hu, ?_⟩)
        rw [BufferUse.isReserved_iff.mp hres]
        rfl
    · exact .inl hstop

theorem State.ended_laneState (s : State) (l : Link) (j : Job) (out : JobOutcome) :
    ((s.ended l j out).link l).lane.state = if s.bus.laneInFlight l then .stopping else .idle := by
  rw [State.ended, State.onLink_link, LinkState.ending_eq]
  rfl

theorem State.Lanes.endJob (h : s.Lanes none) (l : Link) (out : JobOutcome) : (s.endJob l out).Lanes none := by
  cases hj : s.activeJob l with
  | none => rw [State.endJob, hj]; exact h
  | some j =>
    obtain ⟨hlanes, hidle⟩ := h.ended hj out
    rw [State.endJob_eq hj]
    refine hlanes.freeAll hidle _ ?_
    rw [State.ended_laneState]
    cases s.bus.laneInFlight l <;> simp

/-! Changes of the active job that the law of its timers does not see -/

theorem State.Lanes.offers (h : s.Lanes o) (l : Link) (ns : List Notice) : (s.offers l ns).Lanes o := by
  rw [State.offers_eq]
  exact h.onLink (LinkState.SameLane.offers ns _)

theorem State.Lanes.offer (h : s.Lanes o) (l : Link) (n : Notice) : (s.offer l n).Lanes o := h.onLink (.offer n _)

/-- What the law of a job's timers and credits speaks of, unchanged. -/
structure Job.SameTimers (j k : Job) : Prop where
  tag : k.tag = j.tag
  kind : k.kind = j.kind
  state : k.state = j.state
  causeHost : k.causeHost = j.causeHost
  credits : k.credits = j.credits
  dataTimer : k.dataTimer = j.dataTimer
  holdTimer : k.holdTimer = j.holdTimer

theorem Job.SameTimers.noteError (j : Job) (e : ErrorKind) (i : ListId) (a n : Nat) : j.SameTimers (j.noteError e i a n) := by
  unfold Job.noteError
  split <;> constructor <;> rfl

theorem Job.SameTimers.setBinding (j : Job) (i : ListId) (b : Option Binding) : j.SameTimers (j.setBinding i b) := by
  cases i <;> constructor <;> rfl

theorem Job.SameTimers.trans {i : Job} (h : i.SameTimers j) (k' : j.SameTimers k) : i.SameTimers k :=
  ⟨k'.1.trans h.1, k'.2.trans h.2, k'.3.trans h.3, k'.4.trans h.4, k'.5.trans h.5, k'.6.trans h.6, k'.7.trans h.7⟩

theorem Job.SameTimers.abandon (j : Job) (i : ListId) (e : ErrorKind) (n : Nat) : j.SameTimers (j.abandon i e n) := by
  have hfailed : j.SameTimers { j with failed := j.failed + 1 } := by constructor <;> rfl
  exact ((hfailed.trans (.noteError _ e i _ _)).trans (.setBinding _ i none)).trans (by constructor <;> rfl)

theorem State.Lanes.sameTimers (h : s.Lanes o) (hj : s.activeJob l = some j) {f : Job → Job} (hf : j.SameTimers (f j)) :
    (s.onJob l f).Lanes o :=
  h.onJob hj (by rw [hf.state]; exact State.active_ne_queued hj) hf.kind hf.tag
    (Job.timersLaw_of_same ((h.laws l).timers hj) hf.dataTimer hf.holdTimer hf.credits hf.kind hf.state
      fun hc => by rw [hf.causeHost]; exact hc) hf.credits

/-! Segment errors and job-fatal errors (R18 to R21) -/

theorem State.findUse_loose (h : s.Lanes o) {p : BufferUse → Bool} (hb : s.findUse l p = some b)
    (hp : ∀ u, p u = true → u.isOutbound = false ∧ u ≠ .reserved) : s.Loose o b := by
  obtain ⟨u, hu, hpu⟩ := State.useOf_of_findUse hb
  exact h.loose_of_use hu (hp u hpu).1 (.inr (hp u hpu).2)

theorem BufferUse.loose_of_isLoaded {u : BufferUse} (h : u.isLoaded = true) : u.isOutbound = false ∧ u ≠ .reserved := by
  cases u <;> simp_all [BufferUse.isLoaded, BufferUse.isOutbound]

theorem BufferUse.loose_of_isInTransfer {u : BufferUse} (h : u.isInTransfer = true) : u.isOutbound = false ∧ u ≠ .reserved := by
  cases u <;> simp_all [BufferUse.isInTransfer, BufferUse.isOutbound]

theorem BufferUse.loose_of_isFilledWith {p : Nat → Bool} {u : BufferUse} (h : u.isFilledWith p = true) :
    u.isOutbound = false ∧ u ≠ .reserved := by
  cases u <;> simp_all [BufferUse.isFilledWith, BufferUse.isOutbound]

/-- Granting a credit keeps the kind of the active job, at either link. -/
theorem State.grantCredit_activeKind {kind : JobKind} (h : ∀ j, s.activeJob l = some j → j.kind = kind) (m : Link) :
    ∀ j, (s.grantCredit m).activeJob l = some j → j.kind = kind := by
  by_cases hm : l = m
  · subst hm
    intro k hk
    cases hj : s.activeJob l with
    | none => rw [State.grantCredit, hj] at hk; exact h k hk
    | some j =>
      have hact := State.active_ne_queued hj
      have hlive : (s.grantCredit l).activeJob l = (s.onJob l (Job.moreCredit (s.link l).timeout)).activeJob l := by
        rw [State.grantCredit_eq hj]
        exact State.activeJob_congr (by rw [State.onLink_link, LinkState.credited_live])
      rw [hlive, State.onJob_activeJob hj hact] at hk
      cases hk
      exact h j hj
  · intro k hk
    rw [State.activeJob, State.grantCredit_link_ne s hm] at hk
    exact h k hk

theorem State.assign_activeKind {kind : JobKind} (h : ∀ j, s.activeJob l = some j → j.kind = kind) (m : Link) (b : BufId) :
    ∀ j, (s.assign m b).activeJob l = some j → j.kind = kind := by
  have hset : ∀ {a : Holder} j, (s.setHolder b a).activeJob l = some j → j.kind = kind := fun j hj =>
    h j (by rwa [State.activeJob, State.setHolder_link] at hj)
  unfold State.assign
  split
  next => exact h
  next =>
    split
    next => exact hset
    next => exact hset
    next => exact fun j hj => h j (by rwa [State.activeJob, State.setBytes_link, State.setHolder_link] at hj)
    next => exact State.grantCredit_activeKind hset m

theorem giveBuffer_activeKind {kind : JobKind} (w : List Link) (h : ∀ j, s.activeJob l = some j → j.kind = kind) (b : BufId) :
    ∀ j, (giveBuffer w b s).activeJob l = some j → j.kind = kind := by
  induction w generalizing s with
  | nil => exact fun j hj => h j (by cases l <;> exact hj)
  | cons m rest ih =>
    have ht : ∀ j, ({ s with waitList := rest } : State).activeJob l = some j → j.kind = kind := fun j hj =>
      h j (by rwa [State.withWaitList_activeJob] at hj)
    unfold giveBuffer
    simp only
    split
    next =>
      split
      next => exact fun j hj => State.assign_activeKind ht m b j (by rwa [State.activeJob, State.joinWait_link] at hj)
      next => exact State.assign_activeKind ht m b
    next => exact ih ht

theorem State.emptyWriteBuffer_activeKind {kind : JobKind} (h : ∀ j, s.activeJob l = some j → j.kind = kind) (m : Link)
    (b : BufId) : ∀ j, (s.emptyWriteBuffer m b).activeJob l = some j → j.kind = kind := by
  have hset : ∀ {a : Holder} j, (s.setHolder b a).activeJob l = some j → j.kind = kind := fun j hj =>
    h j (by rwa [State.activeJob, State.setHolder_link] at hj)
  have hfree := giveBuffer_activeKind s.waitList (hset (a := .free)) b
  unfold State.emptyWriteBuffer
  split
  next => exact hfree
  next =>
    split
    next =>
      exact fun j hj => State.grantCredit_activeKind hset m j (by rwa [State.activeJob, State.dropIdleWait_link] at hj)
    next => exact hfree

/-- Several buffers of a WRITE are emptied, one after another. -/
theorem State.Lanes.emptyAll {bs : List BufId} (h : s.Lanes o) (hn : bs.Nodup)
    (hbs : ∀ b ∈ bs, ∃ u, s.useOf l b = some u ∧ u.isOutbound = false ∧ u ≠ .reserved)
    (hk : ∀ j, s.activeJob l = some j → j.kind = .write) :
    (bs.foldl (fun t b => t.emptyWriteBuffer l b) s).Lanes o := by
  induction bs generalizing s with
  | nil => exact h
  | cons b bs ih =>
    obtain ⟨hb, hn⟩ := List.nodup_cons.mp hn
    obtain ⟨u, hu, hout, hres⟩ := hbs b (List.mem_cons_self ..)
    refine ih (h.emptyWriteBuffer hu hout hres hk) hn (fun c hc => ?_) (State.emptyWriteBuffer_activeKind hk l b)
    have hne : c ≠ b := fun e => hb (e ▸ hc)
    rw [State.useOf_congr (t := s.emptyWriteBuffer l b) (s := s) (by rw [State.emptyWriteBuffer_get_ne s l hne]) l]
    exact hbs c (List.mem_cons_of_mem _ hc)

theorem State.Lanes.discardSkipped (h : s.Lanes o) (hk : s.activeJob l = some k) : (s.discardSkipped l k).Lanes o := by
  unfold State.discardSkipped
  split
  next => exact h
  next => exact h
  next =>
    unfold State.unloadCopy
    split
    next => exact h
    next b hb => exact h.setHolder (State.findUse_loose h hb fun u => BufferUse.loose_of_isLoaded) (by simp)
  next hw =>
    refine h.emptyAll (State.allUses_nodup s l _) (fun b hb => ?_) fun j hj => ?_
    · obtain ⟨u, hu, hp⟩ := State.mem_allUses.mp hb
      exact ⟨u, hu, BufferUse.loose_of_isFilledWith hp⟩
    · rw [hk] at hj
      exact Option.some.inj hj ▸ hw

theorem State.Lanes.abandonSegment (h : s.Lanes none) (hj : s.activeJob l = some j) (i : ListId) (e : ErrorKind) :
    (s.abandonSegment l j i e).Lanes none := by
  have hsame := Job.SameTimers.abandon j i e (j.restOfSegment i)
  have hlanes := (h.sameTimers (f := fun _ => j.abandon i e (j.restOfSegment i)) hj hsame).offers l
    (j.abandonNotices i e (j.restOfSegment i))
  unfold State.abandonSegment
  simp only
  split
  next => exact hlanes.endJob l _
  next =>
    refine hlanes.discardSkipped (State.activeJob_replaced hj ?_ _)
    rw [hsame.state]
    exact State.active_ne_queued hj

theorem State.Lanes.segmentError (h : s.Lanes none) (l : Link) (i : ListId) (e : ErrorKind) :
    (s.segmentError l i e).Lanes none := by
  unfold State.segmentError
  split
  next => exact h
  next j hj =>
    split
    next => exact (h.sameTimers hj (by constructor <;> rfl)).endJob l _
    next => exact h.abandonSegment hj i e

theorem State.Lanes.fatalError (h : s.Lanes none) (l : Link) (e : ErrorKind) : (s.fatalError l e).Lanes none := by
  unfold State.fatalError
  split
  next => exact h
  next j hj => exact (h.sameTimers hj (.noteError j e .primary _ _)).endJob l _

/-! Completion (R14, R22) -/

theorem State.Lanes.completeBlock (h : s.Lanes none) (hj : s.activeJob l = some j) {go : State → State}
    (hgo : ∀ {t : State}, t.activeJob l = some (j.countBlock.advance 1) → t.Lanes none → (go t).Lanes none) :
    ((s.completeBlock l j).endIfPast l go).Lanes none := by
  have hact := State.active_ne_queued hj
  have hactive : (s.completeBlock l j).activeJob l = some (j.countBlock.advance 1) :=
    State.activeJob_replaced (k := j.countBlock.advance 1) hj hact _
  have hlanes : (s.completeBlock l j).Lanes none :=
    (h.sameTimers (f := fun _ => j.countBlock.advance 1) hj (by constructor <;> rfl)).offers l _
  simp only [State.endIfPast, hactive]
  split
  next => exact hlanes.endJob l _
  next => exact hgo hactive hlanes

/-! Pause and resume (R61, R62) -/

/-- The active job goes to another active state, its data timer following; the hold timer runs at most in PAUSED for HOST. -/
theorem State.Lanes.onTimedJob (h : s.Lanes o) (hj : s.activeJob l = some j) {f : Job → Job} (hact : (f j).state ≠ .queued)
    (hkind : (f j).kind = j.kind) (htag : (f j).tag = j.tag) (hcredits : (f j).credits = j.credits)
    (hhold : (f j).holdTimer = .stopped ∨ (f j).state = .paused ∧ (f j).causeHost = true) : (s.onTimedJob l f).Lanes o := by
  obtain ⟨-, -, hmax, hcred⟩ := Job.timersLaw_iff.mp ((h.laws l).timers hj)
  rw [State.onTimedJob_eq]
  exact h.onJob hj (f := fun j => (f j).retime (s.link l).timeout) hact hkind htag
    (Job.timersLaw_retime _ hhold (by rw [hcredits]; exact hmax)
      (by rw [hcredits, hkind]; exact hcred.imp id fun hc => ⟨hc.1, hact⟩)) hcredits

theorem State.Lanes.enterPaused (h : s.Lanes o) (l : Link) : (s.enterPaused l).Lanes o := by
  unfold State.enterPaused
  split
  next => exact h
  next j hj =>
    refine ((h.withdrawAll l).onTimedJob (j := j) ?_ (by simp) rfl rfl rfl ?_).offer l _
    · rw [State.withdrawAll_activeJob]; exact hj
    · by_cases hc : j.causeHost = true
      · exact .inr ⟨rfl, hc⟩
      · exact .inl (by simp [hc])

theorem State.Lanes.pauseRunning (h : s.Lanes o) (hj : s.activeJob l = some j) (hs : j.state ≠ .paused) :
    (s.pauseRunning l).Lanes o := by
  have hhold := Job.hold_stopped ((h.laws l).timers hj) hs
  unfold State.pauseRunning
  split
  next =>
    refine (h.withdrawWait l).onTimedJob (j := j) ?_ (by simp) rfl rfl rfl (.inl hhold)
    rw [State.activeJob, State.withdrawWait_link]
    exact hj
  next => exact h.enterPaused l

theorem State.Lanes.resumeJob (h : s.Lanes o) (l : Link) : (s.resumeJob l).Lanes o := by
  unfold State.resumeJob
  split
  next => exact h
  next j hj =>
    have hrun := h.onTimedJob (f := fun j => { j with state := .running, holdTimer := .stopped }) hj (by simp) rfl rfl rfl
      (.inl rfl)
    simp only
    split
    next => exact hrun.offer l _
    next => exact hrun

/-! Reports (R38, R44, R47, R49, R59, R60, R12) -/

theorem State.Lanes.useTransfer (h : s.Lanes o) (l : Link) {u : BufferUse} (hu : u ≠ .reserved) : (s.useTransfer l u).Lanes o := by
  unfold State.useTransfer
  split
  next => exact h
  next b hb => exact h.setHolder (State.findUse_loose h hb fun u => BufferUse.loose_of_isInTransfer) (by simp [hu])

/-- A DATA entry joins the queue with its OUTBOUND buffer (R38, R39). -/
theorem State.Lanes.queueData (h : s.Lanes o) (l : Link) (j : Job) : (s.queueData l j).Lanes o := by
  unfold State.queueData
  split
  next => exact h
  next b hb =>
    have hloose := State.findUse_loose h hb fun u => BufferUse.loose_of_isInTransfer
    have hset := h.setHolder hloose (a := .lane l (.outbound j.tag j.nextBlock)) (by simp)
    have huse : ∀ m c, ((s.setHolder b (.lane l (.outbound j.tag j.nextBlock))).onLink l
        (LinkState.push (.data j.tag j.nextBlock j.blockSize b))).useOf m c =
        (s.setHolder b (.lane l (.outbound j.tag j.nextBlock))).useOf m c := fun m c =>
      State.useOf_congr (by rw [State.onLink_buffers]) m
    refine ⟨fun m => ?_, fun m hm => ?_⟩
    · by_cases hm : m = l
      · subst hm
        have hx := (hset.laws m).link
        have hd : (((s.setHolder b (.lane m (.outbound j.tag j.nextBlock))).onLink m
            (LinkState.push (.data j.tag j.nextBlock j.blockSize b))).link m).dataBuffers = (s.link m).dataBuffers ++ [b] := by
          rw [State.onLink_link, LinkState.dataBuffers_push, State.setHolder_link]
          rfl
        refine ⟨?_, fun c hc => ?_, ?_⟩
        · rw [State.onLink_link]
          have hwait := LinkState.waitingTags_push (x := (s.setHolder b (.lane m (.outbound j.tag j.nextBlock))).link m)
            (e := .data j.tag j.nextBlock j.blockSize b)
          refine ⟨hx.tail, hx.closed, hx.busy, hx.timers, ?_, fun t ht => hx.owned t ?_, fun hp => ?_⟩
          · rw [LinkState.creditTags_push]
            simpa [Entry.creditTag?] using hx.place
          · simpa [Entry.creditTag?] using hwait ht
          · obtain ⟨hj, hs⟩ := hx.pending hp
            exact ⟨hj, fun hnil => hs (List.subset_nil.mp (hnil ▸ LinkState.sendingTags_push))⟩
        · rw [hd, List.mem_append, List.mem_singleton] at hc
          rw [huse]
          rcases hc with hc | rfl
          · exact (hset.laws m).data c (by rw [State.setHolder_link]; exact hc)
          · exact ⟨_, _, State.useOf_setHolder_lane ..⟩
        · rw [hd, List.nodup_append]
          exact ⟨(h.laws m).nodup, List.nodup_singleton b, fun c hc d hd e =>
            hloose.1 m (List.mem_singleton.mp hd ▸ e ▸ hc)⟩
      · exact (hset.laws m).of_eq (by rw [State.onLink_ne _ hm]; exact (hset.laws m).link) (by rw [State.onLink_ne _ hm])
          fun c _ => huse m c
    · refine (hset.credited m hm).of_eq ?_ ?_ (huse m)
      all_goals
        by_cases e : m = l
        · subst e; rw [State.onLink_link]; rfl
        · rw [State.onLink_ne _ e]

theorem State.Lanes.emptyTransfer (h : s.Lanes o) (hk : ∀ j, s.activeJob l = some j → j.kind = .write) :
    (s.emptyTransfer l).Lanes o := by
  unfold State.emptyTransfer
  split
  next => exact h
  next b hb =>
    obtain ⟨u, hu, hp⟩ := State.useOf_of_findUse hb
    exact h.emptyWriteBuffer hu (BufferUse.loose_of_isInTransfer hp).1 (BufferUse.loose_of_isInTransfer hp).2 hk

theorem State.Lanes.applyReport (h : s.Lanes none) (hj : s.activeJob l = some j) (dir : Direction) (r : Report) :
    (s.applyReport l j dir r).Lanes none := by
  have hkind : ∀ {k : JobKind}, j.kind = k → ∀ i, s.activeJob l = some i → i.kind = k := fun hk i hi => by
    rw [hj] at hi
    exact Option.some.inj hi ▸ hk
  cases r with
  | success =>
    cases hk : j.kind <;> simp only [State.applyReport, hk]
    case read =>
      exact (h.queueData l j).completeBlock ((State.queueData_activeJob s l j).trans hj) fun _ ht => ht
    case write =>
      refine h.completeBlock hj fun {t} hact ht => ht.emptyTransfer fun i hi => ?_
      rw [hact] at hi
      exact Option.some.inj hi ▸ hk
    case fill => exact h.completeBlock hj fun _ ht => ht
    case copy =>
      cases dir with
      | read => exact h.useTransfer l (by simp)
      | write =>
        exact (h.useTransfer l (by simp)).completeBlock ((State.useTransfer_activeJob s l l _).trans hj) fun _ ht => ht
  | error e =>
    cases hk : j.kind <;> simp only [State.applyReport, hk]
    case read => exact (h.useTransfer l (by simp)).segmentError l _ e
    case write => exact (h.emptyTransfer (hkind hk)).segmentError l _ e
    case copy => exact (h.useTransfer l (by simp)).segmentError l _ e
    case fill => exact h.segmentError l _ e

theorem State.Lanes.applyCancelReport (h : s.Lanes none) (hj : s.activeJob l = some j) (dir : Direction) (r : Report) :
    (s.applyCancelReport l j dir r).Lanes none := by
  have hcount : ∀ {t : State}, t.Lanes none → t.activeJob l = some j →
      (t.onJob l (fun j => j.countBlock.advance 1)).Lanes none := fun ht hj =>
    ht.sameTimers hj (by constructor <;> rfl)
  cases r with
  | success =>
    cases hk : j.kind <;> simp only [State.applyCancelReport, hk]
    case read => exact hcount (h.queueData l j) ((State.queueData_activeJob s l j).trans hj)
    case write => exact hcount h hj
    case fill => exact hcount h hj
    case copy =>
      cases dir with
      | read => exact h.useTransfer l (by simp)
      | write => exact hcount h hj
  | error e => exact h.sameTimers hj (.noteError j e _ _ _)

theorem State.Lanes.settlePausing (h : s.Lanes o) (l : Link) : (s.settlePausing l).Lanes o := by
  unfold State.settlePausing
  split
  next => exact h
  next =>
    split
    next => exact h.enterPaused l
    next => exact h

theorem State.Lanes.stoppingReport (h : s.Lanes none) (hs : (s.link l).lane.state = .stopping) :
    (s.stoppingReport l).Lanes none := by
  have hx := (h.laws l).link
  have hidle : (s.link l).activeJob = none := by
    cases hj : (s.link l).activeJob with
    | none => rfl
    | some j => have hb := hx.busy.mpr ⟨j, hj⟩; rw [hs] at hb; cases hb
  refine State.Lanes.freeAll (h.onLink_laned ⟨hx.tail, hx.closed, ?_, hx.timers, hx.place, hx.owned, hx.pending⟩ (.refl _)) ?_ false
    (.inl rfl)
  · exact iff_of_false (by simp) fun ⟨j, hj⟩ => by rw [show (s.link l).activeJob = some j from hj] at hidle; cases hidle
  · rw [State.activeJob, State.onLink_link]
    exact hidle

theorem State.Lanes.takeReport (h : s.Lanes none) (l : Link) (dir : Direction) (r : Report) :
    (s.takeReport l dir r).Lanes none := by
  unfold State.takeReport
  split
  next hs => exact h.stoppingReport hs
  next j _ hj =>
    split
    next => exact (h.applyCancelReport hj dir r).endJob l _
    next => exact (h.applyReport hj dir r).settlePausing l
  next => exact h
  next => exact h

/-! What a lane does on its own (R11, R33, R37) -/

/-- The link with its head job RUNNING and its lane BUSY (R11). -/
def LinkState.started (x : LinkState) : LinkState :=
  { x.onHead (fun j => { j with state := .running }) with lane := ⟨.busy, 0, 0⟩ }

theorem State.startJob_eq (s : State) (l : Link) : s.startJob l = s.onLink l LinkState.started := rfl

theorem LinkState.started_of_cons {js : List Job} (h : x.live = j :: js) :
    x.started = { x with live := { j with state := .running } :: js, lane := ⟨.busy, 0, 0⟩ } := by
  rw [LinkState.started, LinkState.onHead_of_cons h]

/-- A QUEUED job has no credits, and no timer of it runs. -/
theorem Job.queued_timers (h : j.timersLaw = true) (hq : j.state = .queued) :
    j.credits = 0 ∧ j.dataTimer = .stopped ∧ j.holdTimer = .stopped := by
  obtain ⟨hdata, hhold, -, hcred⟩ := Job.timersLaw_iff.mp h
  refine ⟨hcred.resolve_right fun hw => hw.2 hq, ?_, hhold.resolve_right fun hp => by rw [hq] at hp; cases hp.1⟩
  by_contra hne
  simpa [Job.dataTimed, hq] using hdata.mp hne

theorem LinkState.Laned.started {js : List Job} (h : x.Laned) (hlive : x.live = j :: js) (hq : j.state = .queued) :
    x.started.Laned ∧ x.activeJob = none ∧ x.started.activeJob = some { j with state := .running } := by
  have hidle : x.activeJob = none := LinkState.activeJob_of_queued fun k hk => by
    rw [hlive] at hk
    rcases List.mem_cons.mp hk with rfl | hk
    · exact hq
    · exact h.tail k (by rw [hlive]; exact hk)
  obtain ⟨hzero, hdata, hhold⟩ := Job.queued_timers (h.timers j (by rw [hlive]; exact List.mem_cons_self ..)) hq
  rw [LinkState.started_of_cons hlive]
  have hnew : LinkState.activeJob { x with live := { j with state := .running } :: js, lane := ⟨.busy, 0, 0⟩ } =
      some { j with state := .running } := LinkState.activeJob_eq_some.mpr ⟨js, rfl, by simp⟩
  refine ⟨⟨fun k hk => h.tail k (by rw [hlive]; exact hk), fun hcl => ?_, iff_of_true rfl ⟨_, hnew⟩, fun k hk => ?_, h.place,
    fun t ht => ?_, fun hp => absurd rfl hp⟩, hidle, hnew⟩
  · have hnil := h.closed hcl
    rw [hlive] at hnil
    cases hnil
  · rcases List.mem_cons.mp hk with rfl | hk
    · exact Job.timersLaw_iff.mpr ⟨by simp [hdata, Job.dataTimed, hzero], .inl hhold, by simp [hzero], .inl hzero⟩
    · exact h.timers k (by rw [hlive]; exact List.mem_cons_of_mem _ hk)
  · obtain ⟨i, hi, -⟩ := h.owned t ht
    rw [hidle] at hi
    cases hi

theorem State.Lanes.startJob (h : s.Lanes none) (hc : s.startCheck l = true) : (s.startJob l).Lanes none := by
  obtain ⟨hlane, -, j, js, hlive, hq⟩ := State.startCheck_iff.mp hc
  have hx := (h.laws l).link
  obtain ⟨hlaned, hidle, hnew⟩ := hx.started hlive hq
  have hzero := (Job.queued_timers (hx.timers j (by rw [hlive]; exact List.mem_cons_self ..)) hq).1
  have hcr := (h.credited l (by simp)).resolve_left (by rw [hlane]; simp)
  rw [State.startJob_eq]
  refine State.Lanes.whole (h.onLink_laned hlaned ?_) (.inr ?_)
  · rw [LinkState.started_of_cons hlive]
    exact .refl _
  · rw [State.reserved_congr (s := s) fun b => State.useOf_congr (by rw [State.onLink_buffers]) l, hcr, State.credits,
      show s.activeJob l = none from hidle, State.credits, State.activeJob, State.onLink_link, hnew]
    exact hzero.symm

theorem State.Lanes.startBlock (h : s.Lanes none) (l : Link) (j : Job) (i : ListId) (b : Binding) :
    (s.startBlock l j i b).Lanes none := by
  unfold State.startBlock
  split
  next => exact h.segmentError l i _
  next => exact h.of_same (by simp) rfl

theorem State.Lanes.startTransfer (h : s.Lanes none) (hj : s.activeJob l = some j) (i : ListId) :
    (s.startTransfer l j i).Lanes none := by
  unfold State.startTransfer
  split
  next => exact h.startBlock l j i _
  next =>
    split
    next => exact h
    next =>
      split
      next => exact h.segmentError l i _
      next b _ => exact (h.sameTimers hj (.setBinding j i (some b))).startBlock l j i b

theorem State.Lanes.askBuffer (h : s.Lanes o) (hw : s.wantsBuffer l = true) : (s.askBuffer l).Lanes o := by
  unfold State.askBuffer
  split
  next b hb => exact h.assign hw (by simpa using List.find?_some hb)
  next => exact h.joinWait l

theorem State.Lanes.laneStep (h : s.Lanes none) (hstep : s.laneStep l = some t) : t.Lanes none := by
  rcases State.laneStep_cases hstep with ⟨hc, rfl⟩ | ⟨j, hj, -, -, ⟨hw, -, rfl⟩ | ⟨-, -, -, i, -, rfl⟩⟩
  · exact h.startJob hc
  · exact h.askBuffer hw
  · exact h.startTransfer hj i

theorem State.Lanes.settle (h : s.Lanes none) (l : Link) : (s.settle l).Lanes none := by
  unfold State.settle
  generalize settleFuel = n
  induction n generalizing s with
  | zero => exact h
  | succ n ih =>
    unfold Machine.settleFrom
    split
    next t ht => exact ih (h.laneStep ht)
    next =>
      split
      next t ht => exact ih (h.laneStep ht)
      next => exact h

end

end Sys2Proof.Machine
end

section
/-! PROOFS. The laws of the lanes are kept by the requests, the frames and the transmissions of a link (R39 to R43, R164 to
R172), by the events of the slots and of the module bus, and by the resets. -/

namespace Sys2Proof.Machine

section
variable {s t : State} {l m : Link} {b c : BufId} {j : Job} {o : Option Link} {x : LinkState}

/-! Changes that the laws of the lanes do not see -/

theorem State.Lanes.reply (h : s.Lanes o) (l : Link) (code : Nat) (r : ReplyCode) (items : List Item) :
    (s.reply l code r items).Lanes o := h.onLink (.reply rfl _)

theorem State.Lanes.hello (h : s.Lanes o) (l : Link) (c : ResetCause) : (s.hello l c).Lanes o := h.onLink (.reply rfl _)

theorem State.Lanes.raise (h : s.Lanes o) (l : Link) (c : Condition) : (s.onLink l (LinkState.raise c)).Lanes o :=
  h.onLink (.raise c _)

theorem State.Lanes.raiseBoth (h : s.Lanes o) (c : Condition) : (s.raiseBoth c).Lanes o := (h.raise .A c).raise .B c

theorem State.Lanes.raiseFaults (h : s.Lanes o) (is : List SlotId) : (s.raiseFaults is).Lanes o := by
  induction is generalizing s with
  | nil => exact h
  | cons i is ih => exact ih (h.raiseBoth (.fault i))

theorem State.Lanes.kick (h : s.Lanes o) : s.kick.Lanes o :=
  State.Lanes.onLink (l := .B) (State.Lanes.onLink (l := .A) h (.kick _)) (.kick _)

theorem State.SameHosts.lanes (h : s.SameHosts t) (hs : s.Lanes o) : t.Lanes o := h.toSameLinks.lanes hs

/-- A link changes, none of its DATA entries is new, and its active job and its lane's state stay. -/
theorem State.Lanes.onLink_active (h : s.Lanes none) {f : LinkState → LinkState} (hf : (f (s.link l)).Laned)
    (hd : (f (s.link l)).dataBuffers.Sublist (s.link l).dataBuffers)
    (hj : (f (s.link l)).activeJob = (s.link l).activeJob) (ha : (f (s.link l)).lane.state = (s.link l).lane.state) :
    (s.onLink l f).Lanes none :=
  (h.onLink_laned hf hd).whole ((h.credited l (by simp)).of_active (by rw [State.onLink_link]; exact hj)
    (by rw [State.onLink_link]; exact ha) fun b => State.useOf_congr (by rw [State.onLink_buffers]) l)

/-- The buffer of a DATA entry that has left the queue. -/
theorem State.Lanes.loose_of_dropped (h : s.Lanes none) {f : LinkState → LinkState} (hb : b ∈ (s.link l).dataBuffers)
    (hf : b ∉ (f (s.link l)).dataBuffers) (o : Option Link) : (s.onLink l f).Loose o b := by
  obtain ⟨n, k, hu⟩ := (h.laws l).data b hb
  have huse : ∀ m, (s.onLink l f).useOf m b = s.useOf m b := fun m => State.useOf_congr (by rw [State.onLink_buffers]) m
  refine ⟨fun m => ?_, fun m _ => ?_⟩
  · by_cases hm : m = l
    · rw [hm, State.onLink_link]
      exact hf
    · rw [State.onLink_ne s hm]
      exact (h.laws m).not_mem_data fun _ _ => by simp [State.useOf_other hu hm]
  · rw [huse]
    by_cases hm : m = l
    · simp [hm, hu]
    · simp [State.useOf_other hu hm]

/-- A job that is live and not QUEUED is the active one. -/
theorem LinkState.Laned.active_of_mem (h : x.Laned) (hj : j ∈ x.live) (hs : j.state ≠ .queued) : x.activeJob = some j := by
  cases hx : x.live with
  | nil => rw [hx] at hj; cases hj
  | cons k ks =>
    rw [hx] at hj
    rcases List.mem_cons.mp hj with rfl | hj
    · exact LinkState.activeJob_eq_some.mpr ⟨ks, hx, hs⟩
    · exact absurd (h.tail j (by rw [hx]; exact hj)) hs

/-- A link without an active job, with nothing pending and no CREDIT waiting. -/
theorem LinkState.Laned.of_idle (hlive : x.live = []) (hbusy : x.lane.state ≠ .busy) (hplace : x.creditTags.length ≤ 1)
    (hwait : x.waitingTags = []) (hpend : x.lane.pendingCredits = 0) : x.Laned :=
  ⟨by simp [hlive], fun _ => hlive, iff_of_false hbusy (by simp [LinkState.activeJob, hlive]), by simp [hlive], hplace,
    by simp [hwait], fun hp => absurd hpend hp⟩

/-! Teardown and link reset (R55, R163, R170, R171) -/

/-- The queue holds what is in transmission alone. -/
theorem LinkState.sendingOnly_tags {y : LinkState} (ho : y.outbound = x.sending)
    (ht : y.transmitting = x.transmitting ∨ y.transmitting = !x.sending.isEmpty) : y.creditTags.length ≤ 1 ∧
      y.waitingTags = [] := by
  constructor
  · refine (List.length_filterMap_le _ _).trans ?_
    rw [ho, LinkState.sending, List.length_take]
    split <;> omega
  · have hw : y.waiting = [] := by
      rw [LinkState.waiting, ho, List.drop_eq_nil_iff]
      rcases ht with ht | ht
      · rw [ht, LinkState.sending, List.length_take]
        exact min_le_left _ _
      · rw [ht]
        cases hs : x.sending with
        | nil => simp
        | cons e es =>
          have hlen : x.sending.length ≤ 1 := by
            rw [LinkState.sending, List.length_take]
            split <;> omega
          simpa [hs] using hlen
    rw [LinkState.waitingTags, hw, List.filterMap_nil]

theorem LinkState.dataBuffers_split (x : LinkState) :
    x.dataBuffers = x.sending.filterMap Entry.buffer? ++ x.removedBuffers := by
  rw [LinkState.removedBuffers, ← List.filterMap_append, x.sending_append_waiting, LinkState.dataBuffers]

/-- The buffers of the removed DATA entries are those of no entry left. -/
theorem State.LaneLaws.removed (h : s.LaneLaws l) : ((s.link l).sending.filterMap Entry.buffer?).Sublist (s.link l).dataBuffers ∧
    (s.link l).removedBuffers.Nodup ∧ ∀ b ∈ (s.link l).removedBuffers, b ∈ (s.link l).dataBuffers ∧
      b ∉ (s.link l).sending.filterMap Entry.buffer? := by
  have hn := h.nodup
  rw [LinkState.dataBuffers_split, List.nodup_append] at hn
  obtain ⟨-, hr, hdis⟩ := hn
  rw [LinkState.dataBuffers_split]
  exact ⟨List.sublist_append_left .., hr, fun b hb => ⟨List.mem_append_right _ hb, fun hs => hdis b hs b hb rfl⟩⟩

theorem LaneState.afterTeardown_cases (f : Bool) (a : LaneState) : a.afterTeardown f = .stopping ∨ a.afterTeardown f = .idle := by
  cases a <;> cases f <;> simp [LaneState.afterTeardown]

theorem LinkState.closeSession_laned (f : Bool) (x : LinkState) : (x.closeSession f).Laned := by
  obtain ⟨hplace, hwait⟩ := LinkState.sendingOnly_tags (x := x) (y := x.closeSession f) rfl (.inl rfl)
  refine LinkState.Laned.of_idle rfl ?_ hplace hwait rfl
  rcases x.lane.state.afterTeardown_cases f with h | h <;> simp [LinkState.closeSession, h]

theorem State.freeWindows_lanes (h : s.Lanes o) (l : Link) : (s.freeWindows l).Lanes o :=
  h.of_same (State.freeWindows_link s l) rfl

theorem State.Loose.freeWindows (h : s.Loose o b) (l : Link) : (s.freeWindows l).Loose o b :=
  ⟨fun m => (State.freeWindows_link s l m).symm ▸ h.1 m, h.2⟩

theorem State.Lanes.teardown (h : s.Lanes none) (l : Link) : (s.teardown l).Lanes none := by
  have hw := h.withdrawAll l
  obtain ⟨hsub, hnodup, hremoved⟩ := (hw.laws l).removed
  have hclosed : (((s.withdrawAll l).onLink l (LinkState.closeSession (s.bus.laneInFlight l))).freeWindows l).Lanes (some l) :=
    State.freeWindows_lanes (hw.onLink_laned (LinkState.closeSession_laned _ _) hsub) l
  have hidle : (((s.withdrawAll l).onLink l (LinkState.closeSession (s.bus.laneInFlight l))).freeWindows l).activeJob l = none := by
    cases l <;> rfl
  have hkept := hclosed.freeBufs (bs := (s.link l).removedBuffers) (by simpa [State.withdrawAll_link] using hnodup)
    fun b hb => by
      obtain ⟨hmem, hnot⟩ := hremoved b (by rwa [State.withdrawAll_link])
      exact (hw.loose_of_dropped (f := LinkState.closeSession (s.bus.laneInFlight l)) hmem hnot (some l)).freeWindows l
  have hlink := State.freeBufs_link_idle hidle (s.link l).removedBuffers
  have hstate := LaneState.afterTeardown_cases (s.bus.laneInFlight l) (s.link l).lane.state
  unfold State.teardown
  simp only
  split
  next => exact hkept.freeAll (by rw [State.activeJob, hlink]; exact hidle) false (.inl rfl)
  next hne =>
    refine hkept.whole (.inl ?_)
    rw [hlink]
    refine Or.resolve_right ?_ hne
    cases l <;> exact hstate

theorem LinkState.Laned.emptied (h : x.Laned) (hlive : x.live = []) : x.emptyQueues.Laned := by
  obtain ⟨hplace, hwait⟩ := LinkState.sendingOnly_tags (x := x) (y := x.emptyQueues) rfl (.inl rfl)
  have hnone : x.activeJob = none := by simp [LinkState.activeJob, hlive]
  refine LinkState.Laned.of_idle hlive (fun hb => ?_) hplace hwait ?_
  · obtain ⟨j, hj⟩ := h.busy.mp hb
    rw [hnone] at hj
    cases hj
  · by_contra hp
    obtain ⟨⟨j, hj, -⟩, -⟩ := h.pending hp
    rw [hnone] at hj
    cases hj

theorem State.Lanes.emptyQueues (h : s.Lanes none) (hc : (s.link l).session = .closed) : (s.emptyQueues l).Lanes none := by
  obtain ⟨hsub, hnodup, hremoved⟩ := (h.laws l).removed
  have hx := (h.laws l).link
  have hemptied := h.onLink_active (f := LinkState.emptyQueues) (LinkState.Laned.emptied hx (hx.closed hc)) hsub rfl rfl
  exact hemptied.freeBufs hnodup fun b hb => 
    h.loose_of_dropped (f := LinkState.emptyQueues) (hremoved b hb).1 (hremoved b hb).2 none

theorem State.Lanes.linkReset (h : s.Lanes none) (l : Link) (c : ResetCause) : (s.linkReset l c).Lanes none := by
  have hdown : (if (s.link l).session = .closed then s.emptyQueues l else s.teardown l).Lanes none := by
    split
    next hc => exact h.emptyQueues hc
    next => exact h.teardown l
  exact (State.Lanes.hello (hdown.onLink (f := fun x => { x with framer := .hunt, gapTimer := .stopped })
    (.of_eq rfl rfl id rfl rfl)) l c).settle l.other

/-! Requests of a session, of the condition logic and of the windows -/

theorem State.Lanes.takeOpen (h : s.Lanes none) (l : Link) (d k : Option Nat) : (s.takeOpen l d k).Lanes none := by
  unfold State.takeOpen
  split
  next => exact h.reply ..
  next hc =>
    have hlive := (h.laws l).link.closed (not_not.mp hc)
    split
    next =>
      refine State.Lanes.reply (State.freeWindows_lanes (h.onLink ?_) l) ..
      exact .of_eq hlive.symm rfl (fun hs => by cases hs) rfl rfl
    next => exact h.reply ..

theorem State.Lanes.takeNsub (h : s.Lanes none) (l : Link) (w : Word) : (s.takeNsub l w).Lanes none := by
  by_cases hw : w >>> 25 = 0
  · rw [State.takeNsub_of_inside hw]
    exact h.onLink (.subscribe _ _)
  · rw [State.takeNsub_of_outside hw]
    exact h.reply ..

theorem State.Lanes.takeNack (h : s.Lanes none) (l : Link) (w : Word) : (s.takeNack l w).Lanes none := by
  unfold State.takeNack
  split
  next => exact h.reply ..
  next => exact State.Lanes.reply (h.onLink (.of_eq rfl rfl id rfl rfl)) ..

theorem State.Lanes.setWindow (h : s.Lanes o) (i : Fin 8) (w : Option Window) : (s.setWindow i w).Lanes o :=
  h.of_same (fun m => by cases m <;> rfl) rfl

theorem State.Lanes.takeWset (h : s.Lanes none) (l : Link) (a : WsetArgs) : (s.takeWset l a).Lanes none := by
  unfold State.takeWset
  split
  next =>
    split
    next => exact h.reply ..
    next => exact (h.setWindow _ _).reply ..
  next => exact h.reply ..

theorem State.Lanes.takeWrel (h : s.Lanes none) (l : Link) (n : Nat) : (s.takeWrel l n).Lanes none := by
  unfold State.takeWrel
  split
  next => exact h.reply ..
  next =>
    split
    next => exact (h.setWindow _ _).reply ..
    next => exact h.reply ..

theorem State.Lanes.takeWget (h : s.Lanes none) (l : Link) (n : Nat) : (s.takeWget l n).Lanes none := by
  unfold State.takeWget
  split
  next => exact h.reply ..
  next => split <;> exact h.reply ..

/-! Slot requests (R111 to R121) -/

theorem State.Lanes.onSlot (h : s.Lanes o) (i : SlotId) (f : Slot → Slot) : (s.onSlot i f).Lanes o :=
  (State.SameHosts.onSlot s i f).lanes h

theorem State.Lanes.abandonTransfer (h : s.Lanes none) (i : SlotId) (e : ErrorKind) : (s.abandonTransfer i e).Lanes none := by
  have hstep := (State.SameHosts.identStep s).lanes h
  unfold State.abandonTransfer
  split
  next x _ =>
    split
    next =>
      have hfree := (State.SameLinks.onBus s (fun b => { b with state := .free })).lanes h
      simp only
      split
      next k _ =>
        exact (State.SameHosts.lanes (State.SameHosts.identStep _).toSameLinks.decided (hfree.takeReport k _ _)).settle k
      next => exact State.SameHosts.lanes (State.SameHosts.identStep _).toSameLinks.decided hfree
    next => exact hstep
  next => exact hstep
  next => exact hstep

theorem State.Lanes.takeSpwrOn (h : s.Lanes none) (l : Link) (n : Nat) (f : Bool) : (s.takeSpwrOn l n f).Lanes none := by
  unfold State.takeSpwrOn
  split
  next i _ =>
    unfold State.spwrOnSlot
    split
    next =>
      exact (State.Lanes.reply (((State.SameHosts.queueForPower s i).trans (.rampCheck _)).lanes h) ..).raiseFaults _
    all_goals exact h.reply ..
  next => exact h.reply ..

theorem State.Lanes.takeSpwrOff (h : s.Lanes none) (l : Link) (n : Nat) (f : Bool) : (s.takeSpwrOff l n f).Lanes none := by
  unfold State.takeSpwrOff
  split
  next => exact h.reply ..
  next i _ =>
    have hdown := State.SameHosts.powerDown s i
    unfold State.spwrOffSlot
    split
    next => exact h.reply ..
    next => exact h.reply ..
    next => exact (hdown.lanes h).reply ..
    next => exact (State.Lanes.reply ((hdown.trans (.rampCheck _)).lanes h) ..).raiseFaults _
    next => exact ((hdown.lanes h).reply ..).abandonTransfer i _
    next =>
      split
      next =>
        split
        next =>
          refine State.Lanes.reply ?_ ..
          unfold State.forceOff
          split <;> exact h.onSlot i _
        next => exact h.reply ..
      next => exact (h.onSlot i _).reply ..
    next => exact h.reply ..
    next => exact h.reply ..
    next => exact h.reply ..

theorem State.Lanes.takeSpwr (h : s.Lanes none) (l : Link) (n p : Nat) (f : Bool) : (s.takeSpwr l n p f).Lanes none := by
  unfold State.takeSpwr
  split
  next => exact h.takeSpwrOff l n f
  next => exact h.takeSpwrOn l n f
  next => exact h.reply ..

theorem State.Lanes.takeScfg (h : s.Lanes none) (l : Link) (n v : Nat) : (s.takeScfg l n v).Lanes none := by
  unfold State.takeScfg
  split
  next => exact (h.onSlot _ _).reply ..
  next => exact h.reply ..

theorem State.Lanes.takeSclr (h : s.Lanes none) (l : Link) (n : Nat) : (s.takeSclr l n).Lanes none := by
  unfold State.takeSclr
  split
  next => exact h.reply ..
  next =>
    split
    next => exact (h.onSlot _ _).reply ..
    next => exact h.reply ..

theorem State.Lanes.takeSget (h : s.Lanes none) (l : Link) (n : Nat) : (s.takeSget l n).Lanes none := by
  unfold State.takeSget
  split <;> exact h.reply ..

/-! Job requests (R2 to R10, R63 to R67) -/

theorem State.Lanes.startIfDue (h : s.Lanes none) (l : Link) : (s.startIfDue l).Lanes none := by
  unfold State.startIfDue
  split
  next => exact h.settle l
  next => exact h

theorem newJob_timersLaw (a : JsubArgs) (k : JobKind) : (newJob a k).timersLaw = true :=
  Job.timersLaw_iff.mpr ⟨by simp [newJob, Job.dataTimed], .inl rfl, Nat.zero_le _, .inl rfl⟩

theorem LinkState.join_activeJob (hj : j.state = .queued) (x : LinkState) : (x.join j).activeJob = x.activeJob := by
  cases hx : x.live <;> simp [LinkState.activeJob, LinkState.join, hx, hj]

theorem LinkState.Laned.join (h : x.Laned) (hq : j.state = .queued) (ht : j.timersLaw = true) (hc : x.session ≠ .closed) :
    (x.join j).Laned := by
  have hactive := LinkState.join_activeJob hq x
  refine ⟨fun k hk => ?_, fun hs => absurd hs hc, by rw [hactive]; exact h.busy, fun k hk => ?_, h.place,
    by rw [hactive]; exact h.owned, by rw [hactive]; exact h.pending⟩
  · have hk' : k ∈ (x.live ++ [j]).tail := hk
    cases hx : x.live with
    | nil => rw [hx] at hk'; cases hk'
    | cons i is =>
      rw [hx, List.cons_append, List.tail_cons, List.mem_append, List.mem_singleton] at hk'
      rcases hk' with hk' | rfl
      · exact h.tail k (by rw [hx]; exact hk')
      · exact hq
  · rcases List.mem_append.mp (show k ∈ x.live ++ [j] from hk) with hk | hk
    · exact h.timers k hk
    · exact List.mem_singleton.mp hk ▸ ht

theorem State.Lanes.takeJsub (h : s.Lanes none) (hc : (s.link l).session ≠ .closed) (a : JsubArgs) :
    (s.takeJsub l a).Lanes none := by
  unfold State.takeJsub
  split
  next => exact h.reply ..
  next j hj =>
    obtain ⟨k, -, -, rfl⟩ := jobOfArgs_eq_some.mp hj
    simp only
    split
    next => exact h.reply ..
    next =>
      split
      next => exact h.reply ..
      next =>
        exact (State.Lanes.reply (h.onLink_active ((h.laws l).link.join rfl (newJob_timersLaw a k) hc) (.refl _)
          (LinkState.join_activeJob rfl _) rfl) ..).startIfDue l

/-- A change of the active job of which the law of its timers sees at most that HOST is gained. -/
theorem State.Lanes.onJob_same (h : s.Lanes o) (hj : s.activeJob l = some j) {f : Job → Job} (hs : (f j).state = j.state)
    (hkind : (f j).kind = j.kind) (htag : (f j).tag = j.tag) (hcredits : (f j).credits = j.credits)
    (hdata : (f j).dataTimer = j.dataTimer) (hhold : (f j).holdTimer = j.holdTimer)
    (hhost : j.causeHost = true → (f j).causeHost = true) : (s.onJob l f).Lanes o :=
  h.onJob hj (by rw [hs]; exact State.active_ne_queued hj) hkind htag
    (Job.timersLaw_of_same ((h.laws l).timers hj) hdata hhold hcredits hkind hs hhost) hcredits

theorem State.Lanes.pauseActive (h : s.Lanes none) (hj : j ∈ (s.link l).live) (tag : Nat) :
    (s.pauseActive l tag j).Lanes none := by
  have hactive : j.state ≠ .queued → s.activeJob l = some j := (h.laws l).link.active_of_mem hj
  have hhost : s.activeJob l = some j → (s.onJob l (fun j => { j with causeHost := true })).Lanes none := fun ha =>
    h.onJob_same ha rfl rfl rfl rfl rfl rfl fun _ => rfl
  unfold State.pauseActive
  split
  next => exact h.reply ..
  next => exact h.reply ..
  next hs =>
    have ha := hactive (by simp [hs])
    refine State.Lanes.pauseRunning (j := { j with causeHost := true }) ((hhost ha).reply ..) ?_ (by simp [hs])
    rw [State.replyJob, State.reply_activeJob, State.onJob_activeJob ha (by simp [hs])]
  next hs =>
    split
    next => exact h.reply ..
    next => exact (hhost (hactive (by simp [hs]))).reply ..
  next hs =>
    split
    next => exact h.reply ..
    next =>
      have ha := hactive (by simp [hs])
      obtain ⟨h1, -, h3, h4⟩ := Job.timersLaw_iff.mp ((h.laws l).timers ha)
      exact State.Lanes.reply (h.onJob ha (f := fun j => { j with causeHost := true, holdTimer := holdStart (s.link l).holdLimit })
        (by simp [hs]) rfl rfl (Job.timersLaw_iff.mpr ⟨h1, .inr ⟨hs, rfl⟩, h3, h4⟩) rfl) ..

theorem State.Lanes.withdrawHost (h : s.Lanes none) (hj : j ∈ (s.link l).live) (hs : j.state ≠ .queued) (tag : Nat) :
    (s.withdrawHost l tag j).Lanes none := by
  have ha : s.activeJob l = some j := (h.laws l).link.active_of_mem hj hs
  obtain ⟨h1, -, h3, h4⟩ := Job.timersLaw_iff.mp ((h.laws l).timers ha)
  have hgone : (s.onJob l (fun j => { j with causeHost := false, holdTimer := .stopped })).Lanes none :=
    h.onJob ha hs rfl rfl (Job.timersLaw_iff.mpr ⟨h1, .inl rfl, h3, h4⟩) rfl
  unfold State.withdrawHost
  split
  next =>
    simp only
    split
    next => exact hgone.reply ..
    next => exact (State.Lanes.resumeJob (hgone.reply ..) l).settle l
  next => exact h.reply ..

theorem State.Lanes.resumeActive (h : s.Lanes none) (hj : j ∈ (s.link l).live) (tag : Nat) :
    (s.resumeActive l tag j).Lanes none := by
  unfold State.resumeActive
  split
  next => exact h.reply ..
  next => exact h.reply ..
  next => exact h.reply ..
  next hs => exact h.withdrawHost hj (by simp [hs]) tag
  next hs => exact h.withdrawHost hj (by simp [hs]) tag

theorem State.Lanes.enterCancelling (h : s.Lanes none) (hj : s.activeJob l = some j) (hs : j.state ≠ .paused) :
    (s.enterCancelling l).Lanes none :=
  (h.withdrawWait l).onTimedJob (j := j) (by rw [State.activeJob, State.withdrawWait_link]; exact hj) (by simp) rfl rfl rfl
    (.inl (Job.hold_stopped (j := j) ((h.laws l).timers hj) hs))

theorem State.Lanes.cancelNow (h : s.Lanes none) (l : Link) (tag : Nat) : (s.cancelNow l tag).Lanes none :=
  ((State.Lanes.reply h ..).endJob l _).settle l

/-- The removal of a QUEUED job found by its tag leaves the active job. -/
theorem LinkState.dropQueued_activeJob {tag : Nat} (hx : ∀ k ∈ x.live.tail, k.state = .queued)
    (hj : x.liveJob tag = some j) (hq : j.state = .queued) (e : HistoryEntry) :
    (x.dropQueued j e).activeJob = x.activeJob ∧ ∀ k ∈ (x.dropQueued j e).live.tail, k.state = .queued := by
  have htag : j.tag = tag := by simpa using List.find?_some hj
  cases hlive : x.live with
  | nil => simp [LinkState.liveJob, hlive] at hj
  | cons k ks =>
    rw [hlive, List.tail_cons] at hx
    have hrest : ∀ i ∈ ks.filter (fun i => i.tag != j.tag), i.state = .queued := fun i hi => hx i (List.mem_filter.mp hi).1
    by_cases hk : k.tag = j.tag
    · have hkj : k = j := by simpa [LinkState.liveJob, hlive, hk, htag] using hj
      subst hkj
      have hnew : (x.dropQueued k e).live = ks.filter (fun i => i.tag != k.tag) := by
        simp [LinkState.dropQueued, hlive]
      refine ⟨?_, fun i hi => hrest i (List.mem_of_mem_tail (hnew ▸ hi))⟩
      rw [LinkState.activeJob_of_queued (hnew ▸ hrest)]
      simp [LinkState.activeJob, hlive, hq]
    · have hnew : (x.dropQueued j e).live = k :: ks.filter (fun i => i.tag != j.tag) := by
        simp [LinkState.dropQueued, hlive, hk]
      refine ⟨by rw [LinkState.activeJob, hnew, LinkState.activeJob, hlive], fun i hi => hrest i ?_⟩
      rwa [hnew, List.tail_cons] at hi

theorem State.Lanes.cancelQueued (h : s.Lanes none) {tag : Nat} (hj : (s.link l).liveJob tag = some j) (hq : j.state = .queued) :
    (s.cancelQueued l j).Lanes none := by
  have hx := (h.laws l).link
  obtain ⟨hactive, htail⟩ := LinkState.dropQueued_activeJob hx.tail hj hq ⟨j.tag, j.kind, .cancelled, 0, 0, none⟩
  refine (State.Lanes.offer (State.Lanes.reply (h.onLink_active
    (f := LinkState.dropQueued j ⟨j.tag, j.kind, .cancelled, 0, 0, none⟩) ⟨htail, fun hc => ?_, ?_, fun k hk => ?_, hx.place,
      ?_, ?_⟩ (.refl _) hactive rfl) ..) l _).startIfDue l
  · simp [LinkState.dropQueued, hx.closed hc]
  · rw [hactive]; exact hx.busy
  · exact hx.timers k (List.mem_filter.mp hk).1
  · rw [hactive]; exact hx.owned
  · rw [hactive]; exact hx.pending

theorem State.Lanes.cancelLive (h : s.Lanes none) {n : Nat} (hj : (s.link l).liveJob n = some j) (tag : Nat) :
    (s.cancelLive l tag j).Lanes none := by
  have hactive : j.state ≠ .queued → s.activeJob l = some j :=
    (h.laws l).link.active_of_mem (List.mem_of_find?_eq_some hj)
  have hcancel : j.state ≠ .queued → j.state ≠ .paused →
      ((s.replyJob l 0x53 tag (.live .cancelling)).enterCancelling l).Lanes none := fun hq hp =>
    State.Lanes.enterCancelling (h.reply ..) (by rw [State.replyJob, State.reply_activeJob]; exact hactive hq) hp
  unfold State.cancelLive
  split
  next hs => exact h.cancelQueued hj hs
  next hs =>
    split
    next => exact hcancel (by simp [hs]) (by simp [hs])
    next => exact h.cancelNow l tag
  next hs => exact hcancel (by simp [hs]) (by simp [hs])
  next => exact h.cancelNow l tag
  next => exact h.reply ..

theorem State.Lanes.forJob (h : s.Lanes none) (l : Link) (code tag : Nat) {f : Job → State}
    (hf : ∀ j, (s.link l).liveJob tag = some j → (f j).Lanes none) : (s.forJob l code tag f).Lanes none := by
  unfold State.forJob
  split
  next => exact h.reply ..
  next j hj => exact hf j hj

theorem State.Lanes.takeJget (h : s.Lanes none) (l : Link) (tag : Nat) : (s.takeJget l tag).Lanes none := by
  unfold State.takeJget
  split <;> exact h.reply ..

theorem State.Lanes.takeRequest (h : s.Lanes none) (r : Request)
    (hc : (s.link l).session = .closed → takenClosed r.code = true) : (s.takeRequest l r).Lanes none := by
  have hopen : takenClosed r.code = false → (s.link l).session ≠ .closed := fun h hs => by simp [hc hs] at h
  have hlive : ∀ {tag : Nat} {j : Job}, (s.link l).liveJob tag = some j → j ∈ (s.link l).live := List.mem_of_find?_eq_some
  cases r with
  | openSession d k => exact h.takeOpen l d k
  | closeSession => exact (State.Lanes.reply (h.teardown l) ..).settle l.other
  | rstl => exact h.linkReset l _
  | rstp =>
    exact State.Lanes.onLink (f := fun x => { x with session := .resetPending, intake := [] }) (h.reply ..)
      (.of_eq rfl rfl nofun rfl rfl)
  | nsub m => exact h.takeNsub l m
  | nack c => exact h.takeNack l c
  | nget => exact h.reply ..
  | wset a => exact h.takeWset l a
  | wrel n => exact h.takeWrel l n
  | wget n => exact h.takeWget l n
  | spwr n p f => exact h.takeSpwr l n p f
  | scfg n v => exact h.takeScfg l n v
  | sclr n => exact h.takeSclr l n
  | sget n => exact h.takeSget l n
  | jsub a => exact h.takeJsub (hopen rfl) a
  | jpau tag => exact h.forJob l _ _ fun j hj => h.pauseActive (hlive hj) tag
  | jres tag => exact h.forJob l _ _ fun j hj => h.resumeActive (hlive hj) tag
  | jcan tag => exact h.forJob l _ _ fun j hj => h.cancelLive hj tag
  | jget tag => exact h.takeJget l tag
  | jlst => exact h.reply ..

end

end Sys2Proof.Machine
end

section
/-! PROOFS. The laws of the lanes under arriving DATA frames (R42 to R44), sent frames (R165), the events of the slots and of
the module bus, the bay latch and the resets; and the step. -/

namespace Sys2Proof.Machine

section
variable {s t : State} {l m : Link} {b c : BufId} {j : Job} {o : Option Link} {x : LinkState}

/-! DATA frames (R42 to R45) -/

/-- The RESERVED buffer that is one over goes to another use, or is freed. -/
theorem State.Lanes.setHolder_reserved (h : s.Lanes (some l)) (hc : s.Credited l 1) (hb : s.useOf l b = some .reserved)
    {a : Holder} (ha : ∀ m, a ≠ .lane m .reserved) : (s.setHolder b a).Lanes none where
  laws m := (h.laws m).setHolder ((h.laws m).not_mem_data fun _ _ hu => by
    by_cases hm : m = l
    · rw [hm, hb] at hu
      cases hu
    · rw [State.useOf_other hb hm] at hu
      cases hu) a
  credited m _ := by
    by_cases hm : m = l
    · exact hm ▸ hc.unreserve hb (ha l)
    · exact (h.credited m fun e => hm (Option.some.inj e).symm).setHolder (by simp [State.useOf_other hb hm]) (ha m)

theorem State.setHolder_self {a : Holder} (h : (s.buffers.get b).holder = a) : s.setHolder b a = s := by
  subst h
  have hset : s.buffers.set b.val (s.buffers.get b) b.isLt = s.buffers := by
    ext i hi : 1
    by_cases hib : b.val = i
    · subst hib; simp [Vector.get_eq_getElem]
    · rw [Vector.getElem_set_ne _ _ hib]
  unfold State.setHolder
  rw [hset]

theorem State.Lanes.freeReserved (h : s.Lanes (some l)) (hc : s.Credited l 1) (hb : s.useOf l b = some .reserved) :
    (s.freeBuf b).Lanes none :=
  (h.setHolder_reserved hc hb (by simp)).giveBuffer _ (State.setHolder_holder ..)

theorem State.Lanes.placeBlock (h : s.Lanes (some l)) (hc : s.Credited l 1) (hj : s.activeJob l = some j)
    (hk : j.kind = .write) (i : Job) (bytes : List Byte) : (s.placeBlock l i bytes).Lanes none := by
  unfold State.placeBlock
  split
  next hnone =>
    have hzero : s.reserved l = 0 := by
      rw [State.reserved, List.length_eq_zero_iff, State.allUses, List.filter_eq_nil_iff]
      exact fun c hmem hu => by simpa [hu] using List.find?_eq_none.mp hnone c hmem
    have hbusy := (h.laws l).link.busy.mpr ⟨j, hj⟩
    rcases hc with hc | hc
    · rw [hc] at hbusy
      cases hbusy
    · omega
  next b hb =>
    obtain ⟨u, hu, hres⟩ := State.useOf_of_findUse hb
    rw [BufferUse.isReserved_iff.mp hres] at hu
    have hfree := h.freeReserved hc hu
    split
    next => exact hfree
    next =>
      split
      next =>
        unfold State.emptyWriteBuffer
        simp only [hj]
        split
        next hroom =>
          rw [State.setHolder_self (State.useOf_eq_some.mp hu)]
          exact (State.Lanes.grantCredit h.laws hj hk (LinkState.credits_lt_of_room hroom.2)
            (fun m hm _ => h.credited m fun e => hm (Option.some.inj e).symm) fun _ => hc).dropIdleWait l
        next => exact hfree
      next => exact (h.setHolder_reserved hc hu (by simp)).setBytes _ _

/-- A credit is used, and one RESERVED buffer is over (R43). -/
theorem State.Lanes.consume (h : s.Lanes none) (hj : s.activeJob l = some j) (hc : j.credits ≠ 0) :
    (s.onTimedJob l Job.consume).Lanes (some l) ∧ (s.onTimedJob l Job.consume).Credited l 1 := by
  have hact := State.active_ne_queued hj
  obtain ⟨-, hhold, hmax, hcred⟩ := Job.timersLaw_iff.mp ((h.laws l).timers hj)
  have hwrite := hcred.resolve_left hc
  have htimers : (j.consume.retime (s.link l).timeout).timersLaw = true :=
    Job.timersLaw_retime _ hhold (le_trans (Nat.sub_le _ _) hmax) (.inr hwrite)
  rw [State.onTimedJob_eq]
  refine ⟨⟨fun m => (h.laws m).onJob hj (f := fun j => j.consume.retime (s.link l).timeout) hact rfl rfl htimers,
    fun m hm => (h.credited m (by simp)).onJob_ne (fun e => hm (e ▸ rfl)) _⟩, ?_⟩
  exact (h.credited l (by simp)).onJob hj (f := fun j => j.consume.retime (s.link l).timeout) hact
    (show j.credits + 0 = j.credits - 1 + 1 by omega)

theorem State.Lanes.dataArrives (h : s.Lanes none) (l : Link) (tag : Byte) (payload : List Byte) :
    (s.dataArrives l tag payload).Lanes none := by
  unfold State.dataArrives
  split
  next => exact h.raise l _
  next j hj =>
    split
    next => exact h.raise l _
    next hkind =>
      split
      next => exact h.raise l _
      next =>
        split
        next => exact (h.fatalError l _).settle l
        next hcredits =>
          split
          next => exact (h.fatalError l _).settle l
          next =>
            obtain ⟨hlanes, hover⟩ := h.consume hj hcredits
            have hactive : (s.onTimedJob l Job.consume).activeJob l = some (j.consume.retime (s.link l).timeout) := by
              rw [State.onTimedJob_eq]
              exact State.onJob_activeJob hj (f := fun j => j.consume.retime (s.link l).timeout) (State.active_ne_queued (j := j) hj)
            exact (hlanes.placeBlock hover hactive (by simp only [not_or, not_not] at hkind; exact hkind.1) j _).settle l

/-! Sent frames (R39, R41, R152, R165) -/

/-- An entry in transmission leaves: what waited still waits. -/
theorem LinkState.sent_tags {e : Entry} {es : List Entry} (ht : x.transmitting = true) (ho : x.outbound = e :: es) :
    (x.sent es).waitingTags = x.waitingTags ∧ x.sendingTags = e.creditTag?.toList ∧
      x.creditTags = e.creditTag?.toList ++ (x.sent es).creditTags := by
  refine ⟨by simp [LinkState.waitingTags, LinkState.waiting, LinkState.sent, ht, ho], ?_, ?_⟩
  · cases h : e.creditTag? <;> simp [LinkState.sendingTags, LinkState.sending, ht, ho, h]
  · cases h : e.creditTag? <;> simp [LinkState.creditTags, LinkState.sent, ho, h]

theorem LinkState.Laned.sent_of_none {e : Entry} {es : List Entry} (h : x.Laned) (ht : x.transmitting = true)
    (ho : x.outbound = e :: es) (he : e.creditTag? = none) : (x.sent es).Laned := by
  obtain ⟨hw, hs, hc⟩ := LinkState.sent_tags ht ho
  rw [he] at hs hc
  refine ⟨h.tail, h.closed, h.busy, h.timers, ?_, by rw [hw]; exact h.owned, fun hp => absurd hs (h.pending hp).2⟩
  have hplace := h.place
  rwa [hc] at hplace

theorem State.Lanes.dataSent (h : s.Lanes none) {n k a : Nat} {es : List Entry} (ht : (s.link l).transmitting = true)
    (ho : (s.link l).outbound = .data n k a b :: es) : (((s.onLink l (LinkState.sent es)).freeBuf b).settle l).Lanes none := by
  have hdata : (s.link l).dataBuffers = b :: ((s.link l).sent es).dataBuffers := by
    simp [LinkState.dataBuffers, LinkState.sent, ho, Entry.buffer?]
  have hnodup := (h.laws l).nodup
  rw [hdata, List.nodup_cons] at hnodup
  have hsent := h.onLink_active (f := LinkState.sent es) ((h.laws l).link.sent_of_none ht ho rfl)
    (hdata ▸ List.sublist_cons_self ..) rfl rfl
  exact (hsent.freeBuf (h.loose_of_dropped (f := LinkState.sent es) (hdata ▸ List.mem_cons_self ..) hnodup.1 none)).settle l

/-- The CREDIT in transmission leaves, and pending credits of the active WRITE job take its place. -/
theorem LinkState.Laned.creditSent {n k : Nat} {es : List Entry} (h : x.Laned) (ht : x.transmitting = true)
    (ho : x.outbound = .credit n k :: es) : (x.lane.pendingCredits = 0 → (x.sent es).Laned) ∧
      ∀ j, x.activeJob = some j → ((x.sent es).pendingCredit j.tag).Laned := by
  obtain ⟨hw, -, hc⟩ := LinkState.sent_tags ht ho
  have hnone : (x.sent es).creditTags = [] := by
    have hplace := h.place
    rw [hc] at hplace
    simpa [Entry.creditTag?] using hplace
  have hstays : x.lane.pendingCredits = 0 → (x.sent es).Laned := fun hzero =>
    ⟨h.tail, h.closed, h.busy, h.timers, by simp [hnone], by rw [hw]; exact h.owned, fun hp => absurd hzero hp⟩
  refine ⟨hstays, fun j hj => ?_⟩
  unfold LinkState.pendingCredit
  split
  next hzero => exact hstays hzero
  next hp =>
    obtain ⟨⟨k, hk, hwrite⟩, -⟩ := h.pending hp
    rw [hj] at hk
    cases hk
    have hwait := LinkState.waitingTags_push (x := x.sent es) (e := .credit j.tag (x.sent es).lane.pendingCredits)
    refine ⟨h.tail, h.closed, h.busy, h.timers, ?_, fun t ht => ?_, fun hp => absurd rfl hp⟩
    · change (((x.sent es).push _).creditTags).length ≤ 1
      simp [LinkState.creditTags_push, hnone, Entry.creditTag?]
    · rcases List.mem_append.mp (hwait ht) with ht | ht
      · exact h.owned t (hw ▸ ht)
      · exact ⟨j, hj, hwrite, by simpa [Entry.creditTag?, eq_comm] using ht⟩

theorem LinkState.pendingCredit_kept (tag : Nat) (x : LinkState) : (x.pendingCredit tag).dataBuffers = x.dataBuffers ∧
    (x.pendingCredit tag).live = x.live ∧ (x.pendingCredit tag).lane.state = x.lane.state := by
  unfold LinkState.pendingCredit
  split
  next => exact ⟨rfl, rfl, rfl⟩
  next =>
    have hpush := x.dataBuffers_push (.credit tag x.lane.pendingCredits)
    rw [show (Entry.credit tag x.lane.pendingCredits).buffer?.toList = [] from rfl, List.append_nil] at hpush
    exact ⟨hpush, rfl, rfl⟩

theorem State.Lanes.creditSent (h : s.Lanes none) {n k : Nat} {es : List Entry} (ht : (s.link l).transmitting = true)
    (ho : (s.link l).outbound = .credit n k :: es) :
    ((s.onLink l (LinkState.sent es)).placeFreed l (.credit n k)).Lanes none := by
  obtain ⟨hstays, hpending⟩ := (h.laws l).link.creditSent ht ho
  have hdata : ((s.link l).sent es).dataBuffers = (s.link l).dataBuffers := by
    rw [LinkState.dataBuffers, LinkState.dataBuffers, ho]; rfl
  have hactive : (s.onLink l (LinkState.sent es)).activeJob l = s.activeJob l := by
    rw [State.activeJob, State.onLink_link]; rfl
  simp only [State.placeFreed, hactive]
  split
  next hj =>
    refine h.onLink_active (hstays ?_) (hdata ▸ .refl _) rfl rfl
    by_contra hp
    obtain ⟨⟨j, hj', -⟩, -⟩ := (h.laws l).link.pending hp
    exact absurd ((show (s.link l).activeJob = none from hj).symm.trans hj') (by simp)
  next j hj =>
    obtain ⟨hd, hlive, hstate⟩ := ((s.link l).sent es).pendingCredit_kept j.tag
    rw [State.onLink_onLink]
    exact h.onLink_active (f := fun x => (x.sent es).pendingCredit j.tag) (hpending j hj) ((hd.trans hdata) ▸ .refl _)
      (by rw [LinkState.activeJob, hlive, LinkState.activeJob]; rfl) hstate

/-! Slots and the module bus -/

theorem State.Lanes.rampStep (h : s.Lanes o) : s.rampStep.Lanes o := ((State.SameHosts.rampCheck s).lanes h).raiseFaults _

theorem State.Lanes.rampAfter (h : s.Lanes o) (p : SlotPhase) : (s.rampAfter p).Lanes o := by
  unfold State.rampAfter
  split
  next => exact h.rampStep
  next => exact h

/-- A slot leaves its state, the sequencers and the bus (R104, R117, R124). -/
theorem State.Lanes.leave (h : s.Lanes none) (i : SlotId) (f : Slot → Slot) (c : Condition) (p : SlotPhase) (e : ErrorKind) :
    (((((s.onSlot i f).leaveSequencers i).raiseBoth c).rampAfter p).abandonTransfer i e).Lanes none :=
  (State.Lanes.rampAfter (State.Lanes.raiseBoth (((State.SameHosts.onSlot s i f).trans (.leaveSequencers _ i)).lanes h) c)
    p).abandonTransfer i e

theorem State.Lanes.presDeasserted (h : s.Lanes none) (i : SlotId) : (s.presDeasserted i).Lanes none := by
  unfold State.presDeasserted
  split
  case h_1 => exact h
  case h_2 => exact h.onSlot i _
  all_goals exact h.leave ..

theorem State.Lanes.settleExpires (h : s.Lanes none) (i : SlotId) : (s.settleExpires i).Lanes none := by
  have hpresent := (h.onSlot i (Slot.enter .present)).raiseBoth (.inserted i)
  unfold State.settleExpires
  simp only
  split
  next => exact State.Lanes.rampStep ((State.SameHosts.queueForPower _ i).lanes hpresent)
  next => exact hpresent

theorem State.Lanes.rampExpires (h : s.Lanes none) (i : SlotId) : (s.rampExpires i).Lanes none := by
  have hident : State.Lanes { s.onSlot i (Slot.enter .identifying) with identQueue := s.identQueue ++ [i], ramping := none } none :=
    h.of_same (fun m => by cases m <;> rfl) rfl
  exact (State.SameHosts.identStep _).lanes hident.rampStep

theorem State.Lanes.faultSlot (h : s.Lanes o) (i : SlotId) (k : FaultKind) : (s.faultSlot i k).Lanes o :=
  (h.onSlot i _).raiseBoth _

theorem State.Lanes.slotEnd (h : s.Lanes o) (i : SlotId) (out : TransferOutcome) : (s.slotEnd i out).Lanes o := by
  have hn := fun n => h.onSlot i (fun x => { x with noResponse := n })
  unfold State.slotEnd
  simp only
  split
  next => exact (hn _).faultSlot i _
  next =>
    split
    next => exact (hn _).onSlot i _
    next => exact hn _

theorem State.Lanes.identReport (h : s.Lanes o) (i : SlotId) (out : TransferOutcome) : (s.identReport i out).Lanes o := by
  have hq : State.Lanes { s with identQueue := s.identQueue.filter (fun k => k != i) } o :=
    h.of_same (fun m => by cases m <;> rfl) rfl
  unfold State.identReport
  simp only
  split
  next => exact hq.faultSlot i _
  next => exact hq.faultSlot i _
  next => exact hq.faultSlot i _
  next =>
    split
    next => exact hq.faultSlot i _
    next => exact (hq.onSlot i _).raiseBoth _

theorem State.Lanes.setBusState (h : s.Lanes o) (x : BusState) : (s.setBusState x).Lanes o :=
  (State.SameLinks.onBus s _).lanes h

theorem State.Lanes.decide (h : s.Lanes o) : (s.onBus Bus.decide).Lanes o := (State.SameLinks.onBus s _).lanes h

theorem State.Lanes.identStep (h : s.Lanes o) : s.identStep.Lanes o := (State.SameHosts.identStep s).lanes h

variable {y : Transfer}

theorem State.Lanes.endTransfer (h : s.Lanes none) (y : Transfer) (out : TransferOutcome) :
    (s.endTransfer y out).Lanes none := by
  have hfree := h.setBusState .free
  unfold State.endTransfer
  simp only
  split
  next k _ => exact ((hfree.slotEnd _ out).takeReport k _ _).decide.settle k
  next => exact (hfree.identReport _ out).identStep

theorem State.Lanes.retryOrEnd (h : s.Lanes none) (y : Transfer) (out : TransferOutcome) : (s.retryOrEnd y out).Lanes none := by
  unfold State.retryOrEnd
  split
  next => exact h.endTransfer y out
  next => exact h.setBusState _

theorem State.Lanes.nextWord (h : s.Lanes none) (y : Transfer) : (s.nextWord y).Lanes none := by
  unfold State.nextWord
  split
  next => exact h.setBusState _
  next => exact h.endTransfer y _

theorem State.Lanes.storeWord (h : s.Lanes o) (y : Transfer) : (s.storeWord y).Lanes o := by
  unfold State.storeWord
  simp only
  split
  next => exact h.of_same (fun m => by cases m <;> rfl) rfl
  next => exact h.setBytes _ _
  next => exact h

theorem State.Lanes.takeResponse (h : s.Lanes none) (y : Transfer) : (s.takeResponse y).Lanes none := by
  unfold State.takeResponse
  split
  next => exact h.endTransfer y _
  next =>
    split
    next =>
      split
      next => exact (h.storeWord y).nextWord y
      next => exact h.retryOrEnd y _
    next =>
      split
      next => exact h.retryOrEnd y _
      next => exact h.nextWord y

/-- The buffer that a transfer takes backs neither a DATA entry nor a credit (R37). -/
theorem State.transferBuffer_loose (h : s.Lanes o) {i : ListId} (hb : s.transferBuffer l j i = some b) : s.Loose o b := by
  have hstaged : ∀ u : BufferUse, u.isStaged = true → u.isOutbound = false ∧ u ≠ .reserved := fun u hu => by
    cases u <;> simp_all [BufferUse.isStaged, BufferUse.isOutbound]
  have hpattern : ∀ u : BufferUse, u.isPattern = true → u.isOutbound = false ∧ u ≠ .reserved := fun u hu => by
    cases u <;> simp_all [BufferUse.isPattern, BufferUse.isOutbound]
  unfold State.transferBuffer at hb
  split at hb
  · exact State.findUse_loose h hb hstaged
  · exact State.findUse_loose h hb fun u => BufferUse.loose_of_isFilledWith
  · exact State.findUse_loose h hb hpattern
  · exact State.findUse_loose h hb hstaged
  · exact State.findUse_loose h hb fun u => BufferUse.loose_of_isLoaded

theorem State.Lanes.beginTransfer (h : s.Lanes none) (l : Link) (j : Job) (r : BusRequest) :
    (s.beginTransfer l j r).Lanes none := by
  unfold State.beginTransfer
  simp only
  refine State.Lanes.setBusState ?_ _
  split
  next => exact h
  next b hb =>
    split
    next => exact h
    next => exact h.setHolder (State.transferBuffer_loose h hb) (by simp)

theorem State.Lanes.returnGrant (h : s.Lanes o) : s.returnGrant.Lanes o := (h.setBusState .free).decide

theorem State.Lanes.laneGrant (h : s.Lanes none) (l : Link) (r : BusRequest) (w : Bool) : (s.laneGrant l r w).Lanes none := by
  have hreturn := h.returnGrant.settle l
  unfold State.laneGrant
  split
  next j _ =>
    simp only
    split
    next =>
      split
      next => exact h.beginTransfer l j r
      next => exact (h.returnGrant.segmentError l _ _).settle l
    next => exact hreturn
  next => exact hreturn

theorem State.Lanes.grantReaches (h : s.Lanes none) : s.grantReaches.Lanes none := by
  unfold State.grantReaches
  split
  next => exact h
  next => exact h
  next l r w _ => exact h.laneGrant l r w
  next =>
    unfold State.identGrant
    split
    next => exact h.setBusState _
    next => exact (h.setBusState .free).identStep

theorem State.Lanes.responseSeen (h : s.Lanes none) : s.responseSeen.Lanes none := by
  unfold State.responseSeen
  split
  next => exact h
  next => exact h
  next y _ =>
    split
    next => exact h.takeResponse y
    next => exact h

theorem State.Lanes.waitEnds (h : s.Lanes none) : s.waitEnds.Lanes none := by
  unfold State.waitEnds
  split
  next => exact h
  next => exact h
  next y _ =>
    split
    next => exact h
    next => exact h
    next =>
      split
      next => exact h.takeResponse y
      next => exact h.setBusState _

theorem State.Lanes.linesReleased (h : s.Lanes none) : s.linesReleased.Lanes none := by
  unfold State.linesReleased
  split
  next => exact h
  next => exact h
  next =>
    split
    next => exact h.setBusState _
    next => exact h

theorem State.Lanes.watchdogExpires (h : s.Lanes none) : s.watchdogExpires.Lanes none := by
  unfold State.watchdogExpires
  split
  next => exact h
  next => exact h
  next y _ =>
    split
    next => exact h
    next => exact h.retryOrEnd y _

/-! Timers, the bay latch (R71, R74, R75) -/

theorem State.Lanes.holdExpires (h : s.Lanes none) (l : Link) : (s.holdExpires l).Lanes none := by
  unfold State.holdExpires
  split
  next => exact h
  next =>
    split
    next => exact (h.endJob l _).settle l
    next => exact h

theorem State.Lanes.dataExpires (h : s.Lanes none) (l : Link) : (s.dataExpires l).Lanes none := by
  unfold State.dataExpires
  split
  next => exact h
  next =>
    split
    next => exact h
    next => exact (h.fatalError l _).settle l

theorem State.Lanes.latchPause (h : s.Lanes none) (l : Link) : (s.latchPause l).Lanes none := by
  unfold State.latchPause
  split
  next => exact h
  next j hj =>
    have hgain : (s.onJob l (fun j => { j with causeLatch := true })).Lanes none :=
      h.onJob_same hj rfl rfl rfl rfl rfl rfl id
    split
    next => exact h
    next => exact h
    next hs =>
      exact hgain.pauseRunning (j := { j with causeLatch := true })
        (State.onJob_activeJob (f := fun j => { j with causeLatch := true }) hj (by simp [hs])) (by simp [hs])
    next => exact hgain
    next => exact hgain

theorem State.Lanes.latchRelease (h : s.Lanes none) (l : Link) : (s.latchRelease l).Lanes none := by
  unfold State.latchRelease
  split
  next => exact h
  next j hj =>
    have hresume : (s.latchResume l j).Lanes none := by
      have hlost : (s.onJob l (fun j => { j with causeLatch := false })).Lanes none :=
        h.onJob_same hj rfl rfl rfl rfl rfl rfl id
      unfold State.latchResume
      simp only
      split
      next => exact hlost
      next => exact hlost.resumeJob l
    split
    next => exact h
    next => exact h
    next => exact h
    next => exact hresume
    next => exact hresume

theorem State.Lanes.raiseAt (h : s.Lanes o) (c : Condition) (atA atB : Bool) : (s.raiseAt c atA atB).Lanes o := by
  have hA : (if atA then s.onLink .A (LinkState.raise c) else s).Lanes o := by
    split
    next => exact h.raise .A c
    next => exact h
  unfold State.raiseAt
  simp only
  split
  next => exact hA.raise .B c
  next => exact hA

theorem State.Lanes.latchServe (h : s.Lanes none) (a : LatchState) (first : Link) : (s.latchServe a first).Lanes none := by
  cases a with
  | opened => exact (h.latchPause .A).latchPause .B
  | closed => exact ((h.latchRelease first).latchRelease first.other).settle first

theorem State.Lanes.latchAccepted (h : s.Lanes none) (c : ConditionsFirst) (first : Link) :
    (s.latchAccepted c first).Lanes none := by
  rw [State.latchAccepted_eq]
  refine State.Lanes.raiseAt (State.Lanes.latchServe ?_ _ first) _ _ _
  exact State.Lanes.of_same (h.raiseAt _ _ _) (fun m => by cases m <;> rfl) rfl

/-! Resets (R31, R32, R56, R173, R175, R177) -/

/-- A state whose links have no active job and no RESERVED buffer. -/
theorem State.Lanes.of_idle (hl : ∀ m, (t.link m).Laned) (hj : ∀ m, t.activeJob m = none)
    (hd : ∀ m, ∀ b ∈ (t.link m).dataBuffers, ∃ n k, t.useOf m b = some (.outbound n k))
    (hn : ∀ m, (t.link m).dataBuffers.Nodup) (hr : ∀ m b, t.useOf m b ≠ some .reserved) : t.Lanes none where
  laws m := ⟨hl m, hd m, hn m⟩
  credited m _ := by
    refine .inr ?_
    rw [State.credits, hj m, State.reserved, List.length_eq_zero_iff, State.allUses, List.filter_eq_nil_iff]
    intro b _ hu
    obtain ⟨u, hu, hres⟩ := (Option.any_eq_true _ _).mp hu
    exact hr m b (hu.trans (congrArg some (BufferUse.isReserved_iff.mp hres)))

theorem LinkState.partReset_laned (x : LinkState) : x.partReset.Laned := by
  obtain ⟨hplace, hwait⟩ := LinkState.sendingOnly_tags (x := x) (y := x.partReset) rfl (.inr rfl)
  exact LinkState.Laned.of_idle rfl (by simp [LinkState.partReset, LinkState.reset, Lane.reset]) hplace hwait rfl

theorem LinkState.reset_laned : LinkState.reset.Laned :=
  LinkState.Laned.of_idle rfl (by simp [LinkState.reset, Lane.reset]) (Nat.zero_le _) rfl rfl

/-- The pool after a reset: the buffers of the DATA entries in transmission are kept, the others are FREE. -/
theorem State.poolReset_useOf (s : State) (m : Link) (b : BufId) :
    s.poolReset.useOf m b =
      if b ∈ (s.linkA.sending ++ s.linkB.sending).filterMap Entry.buffer? then s.useOf m b else none := by
  have hget : s.poolReset.buffers.get b = if b ∈ (s.linkA.sending ++ s.linkB.sending).filterMap Entry.buffer?
      then s.buffers.get b else ⟨.free, (s.buffers.get b).bytes⟩ := by
    simp only [State.poolReset, Vector.get_ofFn]
  split
  next hb =>
    rw [if_pos hb] at hget
    exact State.useOf_congr (t := s.poolReset) (s := s) (by rw [hget]) m
  next hb =>
    rw [if_neg hb] at hget
    exact State.useOf_free (by rw [hget]) m

/-- Of the links and the buffers the other blocks' reset leaves everything. -/
theorem State.blocksReset_lanes (h : s.Lanes o) : s.blocksReset.Lanes o := h.of_same (State.blocksReset_link s) rfl

theorem State.Lanes.partReset (h : s.Lanes none) (c : ResetCause) : (s.partReset c).Lanes none := by
  have hsub : ∀ m, ((s.link m).sending.filterMap Entry.buffer?).Sublist (s.link m).dataBuffers := fun m =>
    (h.laws m).removed.1
  have hkept : ∀ m b, b ∈ (s.link m).sending.filterMap Entry.buffer? →
      b ∈ (s.linkA.sending ++ s.linkB.sending).filterMap Entry.buffer? := fun m b hb => by
    rw [List.filterMap_append]
    cases m
    · exact List.mem_append_left _ hb
    · exact List.mem_append_right _ hb
  have hlink : ∀ m, ((s.poolReset.blocksReset).onLinks LinkState.partReset).link m = (s.link m).partReset := fun m => by
    rw [State.onLinks_link, State.blocksReset_link, State.poolReset_link]
  have huse : ∀ m b, ((s.poolReset.blocksReset).onLinks LinkState.partReset).useOf m b = s.poolReset.useOf m b := fun m b =>
    State.useOf_congr (by simp [State.onLinks, State.blocksReset]) m
  refine State.Lanes.hello (State.Lanes.hello (State.Lanes.of_idle (fun m => ?_) (fun m => ?_) (fun m b hb => ?_) (fun m => ?_)
    fun m b hu => ?_) .A c) .B c
  · rw [hlink]; exact LinkState.partReset_laned _
  · rw [State.activeJob, hlink]; rfl
  · rw [hlink] at hb
    rw [huse, State.poolReset_useOf, if_pos (hkept m b hb)]
    exact (h.laws m).data b ((hsub m).subset hb)
  · rw [hlink]; exact (h.laws m).nodup.sublist (hsub m)
  · rw [huse, State.poolReset_useOf] at hu
    split at hu
    next hb =>
      rw [List.filterMap_append, List.mem_append] at hb
      have hout : ∃ n n' k, s.useOf n b = some (.outbound n' k) := by
        rcases hb with hb | hb
        · exact ⟨.A, (h.laws .A).data b ((hsub .A).subset hb)⟩
        · exact ⟨.B, (h.laws .B).data b ((hsub .B).subset hb)⟩
      obtain ⟨n, n', k, hn⟩ := hout
      by_cases hm : m = n
      · rw [hm, hn] at hu
        cases hu
      · rw [State.useOf_other hn hm] at hu
        cases hu
    next => cases hu

/-- With both links at their reset value the pool holds nothing. -/
theorem State.linksReset_lanes (hA : s.linkA = LinkState.reset) (hB : s.linkB = LinkState.reset) : s.poolReset.Lanes none := by
  have hlink : ∀ m, s.poolReset.link m = LinkState.reset := fun m => by
    rw [State.poolReset_link]
    cases m
    · exact hA
    · exact hB
  have hfree : ∀ m b, s.poolReset.useOf m b = none := fun m b => by
    rw [State.poolReset_useOf, hA, hB]
    exact if_neg (by simp [LinkState.sending, LinkState.reset])
  refine State.Lanes.of_idle (fun m => ?_) (fun m => ?_) (fun m b hb => ?_) (fun m => ?_) fun m b => ?_
  · rw [hlink]; exact LinkState.reset_laned
  · rw [State.activeJob, hlink]; rfl
  · rw [hlink] at hb; cases hb
  · rw [hlink]; exact List.nodup_nil
  · simp [hfree]

theorem State.powerOn_lanes (s : State) (r1 r0 : Bool) : (s.powerOn r1 r0).Lanes none := by
  refine State.Lanes.hello (State.Lanes.hello ?_ .A _) .B _
  exact State.Lanes.of_same (State.blocksReset_lanes (State.linksReset_lanes
    (s := { s with linkA := LinkState.reset, linkB := LinkState.reset }) rfl rfl)) (fun m => by cases m <;> rfl) rfl

theorem State.nrstHeld_lanes (s : State) : s.nrstHeld.Lanes none :=
  State.Lanes.of_same (State.blocksReset_lanes (State.linksReset_lanes
    (s := { s with linkA := LinkState.reset, linkB := LinkState.reset }) rfl rfl)) (fun m => by cases m <;> rfl) rfl

end

/-! The step -/

theorem State.lanes_kept : Kept (fun s => s.Lanes none) where
  queue _ _ h := h.of_same (fun m => by cases m <;> rfl) rfl
  kick _ h := h.kick
  plain hmove h := h.onLink hmove.sameLane
  request r _ hc h := h.takeRequest r hc
  linkReset _ l c h := h.linkReset l c
  dataArrives _ l tag p h := h.dataArrives l tag p
  noticeSent ho h := h.onLink ((LinkState.SameLane.sent ho rfl rfl).trans (.overflowNotice _))
  dataSent ht ho h := h.dataSent ht ho
  creditSent ht ho h := h.creditSent ht ho
  partReset _ c h := h.partReset c
  powerOn s r1 r0 _ := s.powerOn_lanes r1 r0
  nrstHeld s _ := s.nrstHeld_lanes
  holdExpires _ l h := h.holdExpires l
  dataExpires _ l h := h.dataExpires l
  presPin _ i _ h := h.onSlot i _
  tripPin _ i _ h := h.onSlot i _
  wpPin _ i h := h.onSlot i _
  wpMeasure _ i h := h.onSlot i _
  latchPin _ h := h.of_same (fun m => by cases m <;> rfl) rfl
  latchMeasure _ h := h.of_same (fun m => by cases m <;> rfl) rfl
  latchAccepted _ c first h := h.latchAccepted c first
  presAsserted _ i h := by
    unfold State.presAsserted
    split
    next => exact h.onSlot i _
    next => exact h
  presDeasserted _ i h := h.presDeasserted i
  settleExpires _ i _ h := h.settleExpires i
  rampExpires _ i _ h := h.rampExpires i
  tripped _ i _ h := h.leave i _ _ _ _
  wpAccepted _ i h := by
    unfold State.wpAccepted
    simp only
    split
    next => exact h.onSlot i _
    next => exact (h.onSlot i _).raiseBoth _
  grantReaches _ h := h.grantReaches
  respond s _ _ _ _ h := (State.SameLinks.onBus s _).lanes h
  responseSeen _ h := h.responseSeen
  waitEnds _ h := h.waitEnds
  release s h := (State.SameLinks.onBus s _).lanes h
  linesReleased _ h := h.linesReleased
  watchdogExpires _ h := h.watchdogExpires

/-! The laws in the words of their definition -/

section
variable {s t : State} {l : Link}

theorem State.creditLaw_iff : s.creditLaw l = true ↔ s.Credited l 0 := by
  unfold State.creditLaw State.Credited State.reserved State.credits
  simp only [Bool.or_eq_true, beq_iff_eq, Nat.add_zero] <;> rfl

theorem LinkState.dataEntries_eq (x : LinkState) : x.dataEntries = x.dataBuffers.length := by
  rw [LinkState.dataEntries, LinkState.dataBuffers, List.length_filterMap_eq_countP]
  exact List.countP_congr fun e _ => by cases e <;> simp [Entry.isData, Entry.buffer?]

theorem BufferUse.isOutbound_iff {u : BufferUse} : u.isOutbound = true ↔ ∃ t k, u = .outbound t k := by
  cases u <;> simp [BufferUse.isOutbound]

/-- Each DATA entry has a buffer of its own among those its lane holds. -/
theorem State.LaneLaws.dataEntries_le (h : s.LaneLaws l) : (s.link l).dataEntries ≤ s.heldCount l := by
  rw [LinkState.dataEntries_eq, State.heldCount, List.countP_eq_length_filter]
  refine (h.nodup.subperm fun b hb => List.mem_filter.mpr ⟨List.mem_finRange b, ?_⟩).length_le
  obtain ⟨n, k, hu⟩ := h.data b hb
  simp [State.holds, State.useOf_eq_some.mp hu]

theorem State.dataLaw_iff : s.dataLaw l = true ↔
    (∀ b ∈ (s.link l).dataBuffers, ∃ t k, s.useOf l b = some (.outbound t k)) ∧ (s.link l).dataBuffers.Nodup ∧
      (s.link l).dataEntries ≤ Config.dataPlaces := by
  have hout : ∀ b, (s.useOf l b).any BufferUse.isOutbound = true ↔ ∃ t k, s.useOf l b = some (.outbound t k) := fun b => by
    cases s.useOf l b <;> simp [BufferUse.isOutbound_iff]
  simp only [State.dataLaw, Bool.and_eq_true, List.all_eq_true, decide_eq_true_eq, and_assoc, hout]
  rfl

theorem State.laneKept_iff : s.laneKept l = true ↔ (s.link l).listsLaw = true ∧ (s.link l).closedLaw = true ∧
    (s.link l).laneLaw = true ∧ (s.link l).live.all Job.timersLaw = true ∧ s.dataLaw l = true ∧ s.creditLaw l = true ∧
    (s.link l).creditPlaceLaw = true := by
  simp only [State.laneKept, Bool.and_eq_true, and_assoc]

theorem State.lanesKept_iff : s.lanesKept = true ↔ (∀ l, s.laneKept l = true) ∧ s.poolKept = true := by
  simp only [State.lanesKept, Bool.and_eq_true]
  exact ⟨fun h => ⟨fun l => by cases l; exacts [h.1.1, h.1.2], h.2⟩, fun h => ⟨⟨h.1 .A, h.1 .B⟩, h.2⟩⟩

theorem State.lanes_of_kept (h : ∀ l, s.laneKept l = true) : s.Lanes none where
  laws l := by
    obtain ⟨h1, h2, h3, h4, h5, -, h7⟩ := State.laneKept_iff.mp (h l)
    obtain ⟨hdata, hnodup, -⟩ := State.dataLaw_iff.mp h5
    exact ⟨LinkState.laned_of_laws h1 h2 h3 h4 h7, hdata, hnodup⟩
  credited l _ := State.creditLaw_iff.mp (State.laneKept_iff.mp (h l)).2.2.2.2.2.1

end

/-- Settles O10: the laws of both lanes, taken together, are kept by every event; those of the lists and of CLOSED, and the
8 buffers of a lane, by every step on their own. -/
theorem everyStepKeepsTheLanes : Obligations.EveryStepKeepsTheLanes := by
  intro s t hs hstep
  obtain ⟨hlanes, hpool⟩ := State.lanesKept_iff.mp hs
  have hold := fun l => State.laneKept_iff.mp (hlanes l)
  have hlaned : t.Lanes none := State.lanes_kept.step_next (State.lanes_of_kept hlanes) hstep
  have hlists : t.listsKept = true := (everyStepKeepsTheJobLists s t hstep).1
    (State.listsKept_iff.mpr fun l => LinkState.listsLaw_iff.mp (hold l).1)
  have hclosed : ∀ l, (t.link l).closedLaw = true := fun l => by
    obtain ⟨hA, hB⟩ := (everyStepKeepsTheSessionLaws s t hstep).2 (hold .A).2.1 (hold .B).2.1
    cases l
    · exact hA
    · exact hB
  have hcapped : t.poolKept = true := State.poolKept_iff.mpr
    (step_keeps (P := State.Capped) (fun _ _ h => h) Action.capped hstep (State.poolKept_iff.mp hpool))
  have hdata : ∀ l, (t.link l).dataEntries ≤ 8 := fun l =>
    (hlaned.laws l).dataEntries_le.trans (State.poolKept_iff.mp hcapped l)
  refine ⟨State.lanesKept_iff.mpr ⟨fun l => State.laneKept_iff.mpr ?_, hcapped⟩, hdata⟩
  have hx := (hlaned.laws l).link
  exact ⟨LinkState.listsLaw_iff.mpr (State.listsKept_iff.mp hlists l), hclosed l, LinkState.laneLaw_iff.mpr hx.busy,
    List.all_eq_true.mpr hx.timers, State.dataLaw_iff.mpr ⟨(hlaned.laws l).data, (hlaned.laws l).nodup, hdata l⟩,
    State.creditLaw_iff.mpr (hlaned.credited l (by simp)),
    LinkState.creditPlaceLaw_iff.mpr ⟨hx.place, hx.owned, hx.pending⟩⟩

end Sys2Proof.Machine
end

section
/-! PROOFS. The step and the reset state; a raise (R143, R144, R151); the decode of an extent (R89 to R95); the identity
record (R109, R190); the debouncers (R73, R122); and the output pins (R101, R130 to R134). -/

namespace Sys2Proof.Machine

/-! The step and the reset state -/

/-- Settles O1: the definition of the step, for a queue that is not empty. -/
theorem stepTakesTheFrontCommand : Obligations.StepTakesTheFrontCommand := by
  intro c rest s hs
  rw [step, hs]

/-- Settles O3: each law is evaluated on the reset state. -/
theorem resetMeetsEveryLaw : Obligations.ResetMeetsEveryLaw := by
  unfold Obligations.ResetMeetsEveryLaw
  decide +kernel

/-! A raise (R143, R144, R151) -/

theorem Condition.bit_lt (c : Condition) : c.bit < 25 := by
  cases c <;> simp only [Condition.bit] <;> omega

/-- A set holds a condition exactly if the condition's bit is set. -/
theorem ConditionSet.and_set_eq_zero_iff (set : ConditionSet) (c : Condition) :
    set &&& c.set = 0 ↔ set.getLsbD c.bit = false := by
  rw [Condition.set, BitVec.and_twoPow]
  cases h : set.getLsbD c.bit with
  | false => simp
  | true =>
    refine iff_of_false (fun h0 => ?_) (by simp)
    have hbit := congrArg (fun v => v.getLsbD c.bit) h0
    simp [c.bit_lt] at hbit

section
variable {x : LinkState} {c : Condition}

theorem LinkState.raise_of_unheard (h : ¬ (x.session = .opened ∧ x.conditions &&& c.set = 0)) : x.raise c = x := if_neg h

/-- A clear condition of an OPEN session is recorded, and announced if it is subscribed. -/
theorem LinkState.raise_of_clear (hs : x.session = .opened) (hc : x.conditions.getLsbD c.bit = false) :
    x.raise c = if x.mask.getLsbD c.bit = false then { x with conditions := x.conditions ||| c.set }
      else LinkState.announce c.set { x with conditions := x.conditions ||| c.set } := by
  rw [LinkState.raise, if_pos ⟨hs, (ConditionSet.and_set_eq_zero_iff _ c).mpr hc⟩]
  simp only [ConditionSet.and_set_eq_zero_iff]

end

/-- Settles O22: by the session, the condition's bit, the mask's bit, and what the notice class holds. -/
theorem raiseRecordsAndAnnounces : Obligations.RaiseRecordsAndAnnounces := by
  intro c x
  refine ⟨fun hs => LinkState.raise_of_unheard fun h => hs h.1, fun hc => LinkState.raise_of_unheard fun h => ?_,
    fun hs hc hm => ?_, fun hs hc hm => ?_⟩
  · rw [(ConditionSet.and_set_eq_zero_iff _ c).mp h.2] at hc
    cases hc
  · rw [LinkState.raise_of_clear hs hc, if_pos hm]
  · have hraise : x.raise c = LinkState.announce c.set { x with conditions := x.conditions ||| c.set } := by
      rw [LinkState.raise_of_clear hs hc, if_neg (by simp [hm])]
    refine ⟨fun es set fs hw hes => ?_, fun hno hplace => ?_, fun hno hfull => ?_⟩
    · rw [hraise]
      exact LinkState.announce_of_split c.set (x := { x with conditions := x.conditions ||| c.set }) hw hes
    · rw [hraise, LinkState.announce_of_none_waiting (x := { x with conditions := x.conditions ||| c.set }) c.set hno]
      exact LinkState.offer_of_place (x := { x with conditions := x.conditions ||| c.set }) _ hplace
    · rw [hraise, LinkState.announce_of_none_waiting (x := { x with conditions := x.conditions ||| c.set }) c.set hno]
      exact LinkState.offer_of_full (x := { x with conditions := x.conditions ||| c.set }) _ hfull

/-! The decode of an extent (R89 to R95) -/

theorem Window.intersects_iff {len : Nat} (h : 0 < len) (w : Window) (a : Nat) :
    w.intersects a len = (decide (w.base < a + len) && decide (a < w.base + 2 ^ w.sizePower)) := by
  rw [Window.intersects, decide_eq_true h, Bool.and_true]
  rfl

theorem Rights.allows_iff (r : Rights) (dir : Direction) :
    r.allows dir = true ↔ r = .readWrite ∨ (r = .read ∧ dir = .read) := by
  cases r <;> cases dir <;> decide

section
variable {s : State} {l : Link} {dir : Direction} {a len : Nat} {w : Window} {x : Slot} {d : Identity}

theorem Slot.bind_of_barred (h : (w.rights l).allows dir = false) : x.bind w l dir a len = .error .protection := by
  simp [Slot.bind, h]

theorem Slot.bind_of_not_ready (h : (w.rights l).allows dir = true) (hx : x.state ≠ .ready) :
    x.bind w l dir a len = .error .slotNotReady := by
  simp [Slot.bind, h, hx]

/-- The last two checks of a decode, against the identity of a READY slot. -/
theorem Slot.bind_of_identity (h : (w.rights l).allows dir = true) (hx : x.state = .ready) (hd : x.identity = some d) :
    x.bind w l dir a len =
      if 2 ^ d.capacityCode < w.offset + (a - w.base) + len then .error .outOfModule
      else if dir = .write ∧ x.locked d = true then .error .moduleLocked
      else .ok ⟨w.slot, w.offset + (a - w.base), max w.waits d.minWaits, w.limit, w.retries, x.generation⟩ := by
  simp [Slot.bind, h, hx, hd]

theorem Slot.locked_iff : x.locked d = true ↔ x.wp = true ∨ d.moduleClass = .readOnly := by simp [Slot.locked]

theorem Slot.not_locked_iff : x.locked d = false ↔ x.wp = false ∧ d.moduleClass = .readWrite := by
  cases hd : d.moduleClass <;> simp [Slot.locked, hd]

/-- A single window hit decides by whether it contains the extent. -/
theorem State.decode_of_hit (h : s.enabledWindows.filter (fun v => v.intersects a len) = [w]) :
    s.decode l dir a len =
      if w.base ≤ a ∧ a + len ≤ w.base + 2 ^ w.sizePower then (s.slot w.slot).bind w l dir a len else .error .split := by
  simp only [State.decode, h, Window.contains, Bool.and_eq_true, decide_eq_true_eq]
  rfl

end

theorem Window.rights_eq (w : Window) (l : Link) : w.rights l = if l = .A then w.rightsA else w.rightsB := by
  cases l <;> rfl

/-- Settles O25: the checks of the decode one after the other, by the windows hit and the slot of the one hit. -/
theorem decodeMakesItsChecksInOrder : Obligations.DecodeMakesItsChecksInOrder := by
  rintro l dir a len s hlen hits rfl
  simp only [← Window.intersects_iff hlen]
  refine ⟨fun h => by rw [State.decode, h], fun h => ?_, fun w hw right hright start hstart => ⟨fun hout => ?_, fun h1 h2 => ?_⟩⟩
  · obtain ⟨v, vs, hv⟩ := List.exists_cons_of_length_pos (Nat.lt_of_lt_of_le Nat.zero_lt_two h)
    rw [hv, List.length_cons] at h
    obtain ⟨u, us, rfl⟩ := List.exists_cons_of_length_pos (show 0 < vs.length by omega)
    rw [State.decode, hv]
  · rw [State.decode_of_hit hw, if_neg hout]
  · rw [← Window.rights_eq] at hright
    subst hright hstart
    rw [State.decode_of_hit hw, if_pos ⟨h1, h2⟩]
    refine ⟨fun hbar => Slot.bind_of_barred ?_, fun hok => ?_⟩
    · cases hr : w.rights l <;> cases dir <;> simp_all [Rights.allows]
    · have hallow := (Rights.allows_iff _ dir).mpr hok
      refine ⟨Slot.bind_of_not_ready hallow, fun d hready hd => ?_⟩
      rw [Slot.bind_of_identity hallow hready hd]
      refine ⟨fun hend => if_pos hend, fun hend => ?_⟩
      rw [if_neg (Nat.not_lt.mpr hend)]
      refine ⟨fun hwrite hlocked => if_pos ⟨hwrite, Slot.locked_iff.mpr hlocked⟩, fun hfree => if_neg ?_⟩
      rintro ⟨hwrite, hlocked⟩
      rcases hfree with hread | hfree
      · rw [hwrite] at hread
        cases hread
      · rw [Slot.not_locked_iff.mpr hfree] at hlocked
        cases hlocked

/-! The identity record (R109, R190) -/

theorem moduleClassOf_eq_some {n : Nat} {c : ModuleClass} : moduleClassOf n = some c ↔ n = moduleClassCode c := by
  unfold moduleClassOf
  split
  next h => cases c <;> simp [h, moduleClassCode]
  next h =>
    split
    next h2 => cases c <;> simp [h2, moduleClassCode]
    next h2 => cases c <;> simp [h, h2, moduleClassCode]

/-- The checks of the record beside that of its class, in numbers. -/
def IdentityChecked (m : Memory) : Prop :=
  (m.read 0).toNat = 0xB7 ∧ (m.read 1).toNat = 0x3C ∧ (m.read 2).toNat = 1 ∧ 12 ≤ (m.read 4).toNat ∧
    (m.read 4).toNat ≤ 28 ∧ ((m.read 5).toNat = 8 ∨ (m.read 5).toNat = 16) ∧ (m.read 6).toNat ≤ 7 ∧
    ((List.range Config.identBytes).map (fun i => (m.read i).toNat)).sum % 256 = 0

theorem parseIdentity_eq_some {m : Memory} {d : Identity} : parseIdentity m = some d ↔
    (m.read 3).toNat = moduleClassCode d.moduleClass ∧ IdentityChecked m ∧
      ⟨d.moduleClass, (m.read 4).toNat, (m.read 5).toNat, (m.read 6).toNat, (List.range 8).map (fun i => m.read (7 + i)),
        (List.range 16).map (fun i => m.read (15 + i))⟩ = d := by
  unfold parseIdentity
  simp only
  split
  next hnone =>
    refine iff_of_false (by simp) fun h => ?_
    rw [moduleClassOf_eq_some.mpr h.1] at hnone
    cases hnone
  next c hc =>
    have hclass : (m.read 3).toNat = moduleClassCode d.moduleClass ↔ c = d.moduleClass := by
      rw [← moduleClassOf_eq_some, hc, Option.some.injEq]
    rw [hclass]
    split
    next hok =>
      refine ⟨fun h => ?_, fun h => ?_⟩
      · cases h
        exact ⟨rfl, hok, rfl⟩
      · rw [h.1, h.2.2]
    next hno => exact iff_of_false (by simp) fun h => hno h.2.1

theorem Byte.toNat_eq_iff (b : Byte) {n : Nat} (hn : n < 256) : b.toNat = n ↔ b = BitVec.ofNat 8 n := by
  rw [← BitVec.toNat_inj, BitVec.toNat_ofNat, Nat.mod_eq_of_lt hn]

/-- Settles O59: the record's checks and fields, byte by byte. -/
theorem identityRecordsAreChecked : Obligations.IdentityRecordsAreChecked := by
  rintro m ⟨c, cap, width, waits, serial, model⟩
  have h0 := Byte.toNat_eq_iff (m.read 0) (n := 0xB7) (by decide)
  have h1 := Byte.toNat_eq_iff (m.read 1) (n := 0x3C) (by decide)
  have h2 := Byte.toNat_eq_iff (m.read 2) (n := 1) (by decide)
  have hsum : ∀ n : Nat, n % 256 = 0 ↔ 256 ∣ n := fun n => (Nat.dvd_iff_mod_eq_zero ..).symm
  simp only [parseIdentity_eq_some, IdentityChecked, Identity.mk.injEq, h0, h1, h2, hsum, true_and,
    show Config.identBytes = 32 from rfl, show List.range 8 = [0, 1, 2, 3, 4, 5, 6, 7] from rfl, List.map_cons, List.map_nil]
  constructor
  · rintro ⟨h3, ⟨k0, k1, k2, k4, k4', k5, k6, ksum⟩, rfl, rfl, rfl, rfl, rfl⟩
    exact ⟨k0, k1, k2, h3, rfl, k4, k4', rfl, k5, rfl, k6, rfl, rfl, ksum⟩
  · rintro ⟨k0, k1, k2, h3, rfl, k4, k4', rfl, k5, rfl, k6, rfl, rfl, ksum⟩
    exact ⟨h3, ⟨k0, k1, k2, k4, k4', k5, k6, ksum⟩, rfl, rfl, rfl, rfl, rfl⟩

/-! The debouncers (R73, R122) -/

theorem latchOf_eq_iff (pin : Bool) (a : LatchState) : latchOf pin = a ↔ (pin = true ↔ a = .closed) := by
  cases pin <;> cases a <;> decide

/-- Settles O51: each debouncer's command with its timer running and stopped. -/
theorem pinsAreDebounced : Obligations.PinsAreDebounced := by
  intro i s hreset
  have hevent : ∀ f : State → State, event s f = (f s).kick := event_of_running hreset
  refine ⟨?wpPin, fun hstop => ?wpStopped, fun hrun u hu => ?wpAccepted, ?latchPin, fun hstop first l => ?latchStopped⟩
  case wpPin =>
    change Host.Outcome.next (pinEvent s _ _) = _
    rw [pinEvent_of_running hreset, State.onSlot_onSlot]
    rfl
  case wpStopped =>
    change Host.Outcome.next (event s _) = _
    rw [hevent, if_pos hstop]
  case wpAccepted =>
    have hexec : exec (.wpDebounceExpiry i) s = .next (s.wpAccepted i).kick := by
      change Host.Outcome.next (event s _) = _
      rw [hevent, if_neg hrun]
    subst hu
    exact ⟨fun he => by rw [hexec, State.wpAccepted, if_pos he], fun he => by rw [hexec, State.wpAccepted, if_neg he]⟩
  case latchPin =>
    change Host.Outcome.next (pinEvent s _ _) = _
    rw [pinEvent_of_running hreset]
    simp only [State.latchMeasure, latchOf_eq_iff, Bool.not_eq_true']
    rfl
  case latchStopped =>
    change Host.Outcome.next (event s _) = _
    rw [hevent, if_pos hstop]

/-! The output pins (R101, R130 to R134) -/

theorem SlotPhase.powered_iff (p : SlotPhase) : p.powered = true ↔ p ∈ [.ramping, .identifying, .ready, .draining] := by
  cases p <;> decide

theorem State.sel_iff (s : State) (i : SlotId) : s.sel i = true ↔ ∃ x, s.bus.state = .inFlight x ∧ x.slot = i := by
  unfold State.sel Bus.slotInFlight
  cases s.bus.state <;> simp

theorem State.mstb_iff (s : State) : s.mstb = true ↔ ∃ x, s.bus.state = .inFlight x ∧ x.phase ≠ .release := by
  unfold State.mstb
  cases s.bus.state with
  | inFlight x => cases hp : x.phase <;> simp [WordPhase.strobed, hp]
  | _ => simp

/-- The parity that is driven is good (R133, R134). -/
theorem parityGood_parityOf (w : Nat) (md : Half) : parityGood w md (parityOf w md) = true := by
  cases h : oddOnes w md <;> simp [parityGood, parityOf, h]

theorem Half.getLsbD_append (a b : Byte) (i : Nat) :
    (a ++ b : Half).getLsbD i = if i < 8 then b.getLsbD i else a.getLsbD (i - 8) := by
  simpa using BitVec.getLsbD_append (x := a) (y := b) (i := i)

theorem Half.high_append (a b : Byte) : ((a ++ b : Half) >>> 8).setWidth 8 = a := by
  ext i hi
  simp [Half.getLsbD_append, BitVec.getLsbD_eq_getElem, hi]

theorem Half.low_append (a b : Byte) : (a ++ b : Half).setWidth 8 = b := by
  ext i hi
  simp [Half.getLsbD_append, hi]

theorem Half.of_byte (b : Byte) : (b.setWidth 16 >>> 8 : Half) = 0 ∧ (b.setWidth 16 : Half).setWidth 8 = b := by
  constructor
  · ext i hi
    simp
  · ext i hi
    simp

theorem State.driven_of_write {s : State} {x : Transfer} (h : s.bus.state = .inFlight x) (hw : x.direction = .write) :
    s.driven = some (s.wordDriven x, parityOf x.dataWidth (s.wordDriven x)) := by
  rw [State.driven, h]
  simp [hw]

/-- Settles O54: each pin by the bus state, and the driven word by the data width. -/
theorem outputPinsFollowTheState : Obligations.OutputPinsFollowTheState := by
  intro s
  refine ⟨fun i => SlotPhase.powered_iff _, s.sel_iff, s.mstb_iff, fun hno => ?_, fun x hx hwidth => ⟨?_, fun h => ?_,
    fun hread => ?_, fun hwrite b hb => ⟨_, _, State.driven_of_write hx hwrite, parityGood_parityOf _ _, fun h16 => ?_,
    fun h8 => ?_⟩⟩⟩
  · unfold State.driven
    cases hb : s.bus.state with
    | inFlight x => exact absurd hb (hno x)
    | _ => rfl
  · simp [Transfer.mwr]
  · rw [Transfer.wordAddress, BitVec.toNat_ofNat, Nat.mod_eq_of_lt h]
  · rw [State.driven, hx]
    simp [hread]
  · have hword : s.wordDriven x = (s.buffers.get b).bytes.read (2 * x.wordIndex) ++
        (s.buffers.get b).bytes.read (2 * x.wordIndex + 1) := by
      simp [State.wordDriven, hb, h16, Transfer.offset, Nat.mul_comm]
    rw [hword]
    exact ⟨Half.high_append _ _, Half.low_append _ _⟩
  · have hword : s.wordDriven x = ((s.buffers.get b).bytes.read x.wordIndex).setWidth 16 := by
      simp [State.wordDriven, hb, h8, Transfer.offset]
    rw [hword]
    exact Half.of_byte _

end Sys2Proof.Machine
end

section
/-! PROOFS. A request of a ready link at its owner; OPEN (R168), WSET and WREL (R81 to R86), SPWR on, SCFG and SCLR
(R106, R111, R119, R120). -/

namespace Sys2Proof.Machine

section
variable {s t : State} {l : Link} {c : Instr} {r : Request}

/-! Requests of a ready link (R164) -/

/-- The command of a request runs the request at its owner. -/
theorem exec_of_command (h : r.command l = some c) : exec c s = handed s l r.code (fun t => t.takeRequest l r) := by
  cases r with
  | spwr n p f =>
    simp only [Request.command] at h
    split at h
    next hp => subst hp; cases h; rfl
    next =>
      split at h
      next hp => subst hp; cases h; rfl
      next => cases h
  | _ => cases h; rfl

theorem exec_of_ready (h : s.ready l) (r : Request) (hc : r.command l = some c) :
    exec c s = .next (s.takeRequest l r).kick := by
  rw [exec_of_command hc, handed_of_ready h]

/-- The owner changes the state as given, and replies. -/
theorem exec_reply (h : s.ready l) (r : Request) (hc : r.command l = some c) {code : Nat} {k : ReplyCode} {items : List Item}
    (howner : s.takeRequest l r = t.reply l code k items) :
    exec c s = .next (t.answered l (BitVec.ofNat 8 code) k items) := by
  rw [exec_of_ready h r hc, howner]
  rfl

/-- Taking a request of a free reply place, in CLOSED too where it is taken there. -/
theorem exec_of_open (h0 : s.inReset = false) (h1 : (s.link l).replies < Config.replyPlaces)
    (hs : (s.link l).session ≠ .resetPending) (hcode : (s.link l).session = .closed → takenClosed r.code = true)
    (hc : r.command l = some c) : exec c s = .next (s.takeRequest l r).kick := by
  have hcan : (s.link l).canHandOn = true := LinkState.canHandOn_iff.mpr ⟨h1, hs⟩
  have hanswer : s.answer l r.code (fun t => t.takeRequest l r) = s.takeRequest l r := by
    rw [State.answer, if_neg]
    exact fun hno => by simp [hcode hno.1] at hno
  rw [exec_of_command hc, handed, if_pos hcan, event_of_running h0, hanswer]

end

/-! OPEN (R168) -/

theorem openOk_iff (d k : Option Nat) :
    openOk d k = true ↔ 10 ≤ d.getD 1000 ∧ d.getD 1000 ≤ 10000 ∧ k.getD 0 ≤ 600 := by
  simp only [openOk, Bool.and_eq_true, decide_eq_true_eq, and_assoc]
  rfl

section
variable {s : State} {l : Link} {d k : Option Nat}

theorem State.takeOpen_of_bad (hs : (s.link l).session = .closed) (h : openOk d k = false) :
    s.takeOpen l d k = s.reply l 0x10 .badParam [] := by
  simp [State.takeOpen, State.refuse, hs, h]

theorem State.takeOpen_of_good (hs : (s.link l).session = .closed) (h : openOk d k = true) :
    s.takeOpen l d k = ((s.onLink l (LinkState.opening (d.getD 1000) (k.getD 0))).freeWindows l).reply l 0x10 .ok
      (s.openItems l (d.getD 1000) (k.getD 0)) := by
  simp only [State.takeOpen, hs, ne_eq, not_true_eq_false, if_false, h, if_true]
  cases l <;> rfl

theorem LinkState.kick_of_push (e : Entry) (x : LinkState) :
    (x.push e).kick = { x with outbound := x.outbound ++ [e], transmitting := true } := by
  simp [LinkState.kick, LinkState.push]

end

/-- Settles O15: OPEN by the session and the ranges of its values. -/
theorem openIsDecided : Obligations.OpenIsDecided := by
  intro l d k s hreset hplace
  have hexec : (s.link l).session ≠ .resetPending → exec (.openSession l d k) s = .next (s.takeOpen l d k).kick := fun hs =>
    exec_of_open (r := .openSession d k) hreset hplace hs (fun _ => rfl) rfl
  refine ⟨fun hs => ?opened, fun hs hbad => ?bad, fun hs h1 h2 h3 => ?good⟩
  case opened =>
    rw [hexec (by simp [hs]), State.takeOpen, if_pos (by simp [hs])]
    rfl
  case bad =>
    have hno : openOk d k = false := by
      rw [← Bool.not_eq_true, openOk_iff]
      omega
    rw [hexec (by simp [hs]), State.takeOpen_of_bad hs hno]
    rfl
  case good =>
    rw [hexec (by simp [hs]), State.takeOpen_of_good hs ((openOk_iff d k).mpr ⟨h1, h2, h3⟩)]
    refine ⟨_, rfl, ?_, fun i => ?_, ?_, ?_, ?_, ?_, ?_, ?_, ?_⟩
    · rw [State.kick_link, State.reply, State.onLink_link, State.freeWindows_link, State.onLink_link, LinkState.kick_of_push]
      rfl
    · simp only [State.kick_windows, State.reply, State.onLink_windows, State.freeWindows_get]
      cases s.windows.get i with
      | none => rfl
      | some w => by_cases hw : w.owner = l <;> simp [hw]
    · rw [State.kick_link, State.reply, State.onLink_other, State.freeWindows_link, State.onLink_other]
    · simp [State.reply]
    · simp [State.reply]
    · simp [State.reply]
    · cases l <;> rfl
    · cases l <;> rfl
    · cases l <;> rfl

/-! WSET and WREL (R81 to R86) -/

theorem rightsOf_eq_some {n : Nat} {r : Rights} : rightsOf n = some r ↔ rightsCode r = n := by
  unfold rightsOf
  split <;> cases r <;> simp_all [rightsCode, eq_comm]

/-- An optional rights item gives the rights that its code names, the default's where it is absent. -/
theorem rightsItem_eq_some {dflt r : Rights} {o : Option Nat} :
    rightsItem dflt o = some r ↔ rightsCode r = o.getD (rightsCode dflt) := by
  cases o with
  | none => cases dflt <;> cases r <;> simp [rightsItem, rightsCode]
  | some n => simp [rightsItem, rightsOf_eq_some]

theorem slotOf_eq_some {n : Nat} {i : SlotId} : slotOf n = some i ↔ i.val = n := by
  unfold slotOf
  split
  next h => rw [Option.some.injEq, Fin.ext_iff, eq_comm]
  next h => exact iff_of_false (by simp) fun he => h (he ▸ i.isLt)

theorem windowOf_eq_some {n : Nat} {i : Fin 8} : windowOf n = some i ↔ i.val = n := by
  unfold windowOf
  split
  next h => rw [Option.some.injEq, Fin.ext_iff, eq_comm]
  next h => exact iff_of_false (by simp) fun he => h (he ▸ i.isLt)

theorem limitOk_iff (n : Nat) : limitOk n = true ↔ n ∈ [25, 50, 100, 250, 500, 1000] := by
  rw [limitOk, List.contains_iff_mem]

/-- The bounds of the parameters of a WSET beside those of its slot and its rights (R81). -/
def WsetInBounds (a : WsetArgs) : Prop :=
  a.index < 8 ∧ 12 ≤ a.sizePower ∧ a.sizePower ≤ 28 ∧ a.base % 2 ^ a.sizePower = 0 ∧ a.offset % 4096 = 0 ∧
    a.offset + 2 ^ a.sizePower ≤ 2 ^ 28 ∧ a.waits.getD 7 ≤ 7 ∧ limitOk (a.limit.getD 1000) = true ∧ a.retries.getD 1 ≤ 3

theorem windowOfArgs_eq_some {l : Link} {a : WsetArgs} {w : Window} : windowOfArgs l a = some w ↔
    ∃ i ra rb, slotOf a.slot = some i ∧ rightsItem (if l = .A then .readWrite else .none) a.rightsA = some ra ∧
      rightsItem (if l = .B then .readWrite else .none) a.rightsB = some rb ∧ WsetInBounds a ∧
      w = ⟨l, a.base, a.sizePower, i, a.offset, ra, rb, a.waits.getD 7, a.limit.getD 1000, a.retries.getD 1⟩ := by
  unfold windowOfArgs
  split
  next i ra rb hi hra hrb =>
    simp only
    split
    next hok =>
      refine ⟨fun h => ⟨i, ra, rb, hi, hra, hrb, hok, (Option.some.inj h).symm⟩, ?_⟩
      rintro ⟨i', ra', rb', hi', hra', hrb', -, rfl⟩
      rw [hi] at hi'
      rw [hra] at hra'
      rw [hrb] at hrb'
      cases hi'
      cases hra'
      cases hrb'
      rfl
    next hno =>
      refine iff_of_false (by simp) ?_
      rintro ⟨_, _, _, -, -, -, hok, -⟩
      exact hno hok
  next hno =>
    refine iff_of_false (by simp) ?_
    rintro ⟨i, ra, rb, hi, hra, hrb, -, -⟩
    exact hno i ra rb hi hra hrb

theorem wsetInBounds_iff (a : WsetArgs) : WsetInBounds a ↔ a.index ≤ 7 ∧ 12 ≤ a.sizePower ∧ a.sizePower ≤ 28 ∧
    2 ^ a.sizePower ∣ a.base ∧ 4096 ∣ a.offset ∧ a.offset + 2 ^ a.sizePower ≤ 2 ^ 28 ∧ a.waits.getD 7 ≤ 7 ∧
    a.limit.getD 1000 ∈ [25, 50, 100, 250, 500, 1000] ∧ a.retries.getD 1 ≤ 3 := by
  rw [WsetInBounds, Nat.dvd_iff_mod_eq_zero, Nat.dvd_iff_mod_eq_zero, limitOk_iff, Nat.lt_succ_iff]

/-- The window that a WSET sets, field by field (R78, R81, R83). -/
theorem windowOfArgs_iff (l : Link) (a : WsetArgs) (w : Window) : windowOfArgs l a = some w ↔
    a.index ≤ 7 ∧ 12 ≤ a.sizePower ∧ a.sizePower ≤ 28 ∧ 2 ^ a.sizePower ∣ a.base ∧ 4096 ∣ a.offset ∧
      a.offset + 2 ^ a.sizePower ≤ 2 ^ 28 ∧ w.waits ≤ 7 ∧ w.limit ∈ [25, 50, 100, 250, 500, 1000] ∧ w.retries ≤ 3 ∧
      w.owner = l ∧ w.base = a.base ∧ w.sizePower = a.sizePower ∧ w.slot.val = a.slot ∧ w.offset = a.offset ∧
      rightsCode w.rightsA = a.rightsA.getD (if l = .A then 2 else 0) ∧
      rightsCode w.rightsB = a.rightsB.getD (if l = .B then 2 else 0) ∧
      w.waits = a.waits.getD 7 ∧ w.limit = a.limit.getD 1000 ∧ w.retries = a.retries.getD 1 := by
  have hdflt : ∀ m, rightsCode (if l = m then .readWrite else .none) = if l = m then 2 else 0 := fun m => by
    split <;> rfl
  simp only [windowOfArgs_eq_some, wsetInBounds_iff, slotOf_eq_some, rightsItem_eq_some, hdflt]
  constructor
  · rintro ⟨i, ra, rb, hi, hra, hrb, ⟨h1, h2, h3, h4, h5, h6, h7, h8, h9⟩, rfl⟩
    exact ⟨h1, h2, h3, h4, h5, h6, h7, h8, h9, rfl, rfl, rfl, hi, rfl, hra, hrb, rfl, rfl, rfl⟩
  · obtain ⟨owner, base, sizePower, i, offset, ra, rb, waits, limit, retries⟩ := w
    rintro ⟨h1, h2, h3, h4, h5, h6, h7, h8, h9, rfl, rfl, rfl, hi, rfl, hra, hrb, rfl, rfl, rfl⟩
    exact ⟨i, ra, rb, hi, hra, hrb, ⟨h1, h2, h3, h4, h5, h6, h7, h8, h9⟩, rfl⟩

section
variable {s : State} {l : Link} {a : WsetArgs} {i : Fin 8} {w : Window}

theorem Window.ofOther_iff (o : Option Window) : Window.ofOther l o = true ↔ ∃ v, o = some v ∧ v.owner ≠ l := by
  cases o <;> simp [Window.ofOther]

theorem Window.ofOwner_iff (o : Option Window) : Window.ofOwner l o = true ↔ ∃ v, o = some v ∧ v.owner = l := by
  cases o <;> simp [Window.ofOwner]

theorem State.takeWset_of_bad (h : windowOfArgs l a = none) : s.takeWset l a = s.reply l 0x30 .badParam [] := by
  unfold State.takeWset
  rw [h]
  cases windowOf a.index <;> rfl

theorem State.takeWset_of_good (h : windowOfArgs l a = some w) (hi : a.index = i.val) :
    s.takeWset l a = if Window.ofOther l (s.windows.get i) then s.reply l 0x30 .ownedByOther []
      else (s.setWindow i (some w)).reply l 0x30 .ok (windowItems i.val w (s.overlaps i.val w)) := by
  simp only [State.takeWset, h, hi, windowOf_val]
  rfl

theorem State.takeWrel_of_gt {n : Nat} (h : 7 < n) : s.takeWrel l n = s.reply l 0x31 .badParam [] := by
  simp [State.takeWrel, State.refuse, windowOf_of_gt h]

theorem State.takeWrel_val (s : State) (l : Link) (i : Fin 8) :
    s.takeWrel l i.val = if Window.ofOwner l (s.windows.get i) then (s.setWindow i none).reply l 0x31 .ok [.window i.val]
      else s.reply l 0x31 .notOwner [] := by
  simp only [State.takeWrel, windowOf_val]
  rfl

end

/-- Settles O23: the window by the parameters, and WSET and WREL by the owner found. -/
theorem windowsChangeByTheirOwner : Obligations.WindowsChangeByTheirOwner := by
  intro l a
  refine ⟨windowOfArgs_iff l a, fun i s hready => ⟨fun hbad => ?wsetBad, fun w hw hi => ⟨fun hother => ?wsetOther,
    fun hown => ?wsetOwn⟩, fun n hn => ?wrelBad, fun hown => ?wrelOwn, fun hother => ?wrelOther⟩⟩
  case wsetBad => exact exec_reply hready (.wset a) rfl (State.takeWset_of_bad hbad)
  case wsetOther =>
    exact exec_reply hready (.wset a) rfl
      ((State.takeWset_of_good hw hi).trans (if_pos ((Window.ofOther_iff _).mpr hother)))
  case wsetOwn =>
    have hno : ¬ Window.ofOther l (s.windows.get i) = true := fun h => by
      obtain ⟨v, hv, hne⟩ := (Window.ofOther_iff _).mp h
      exact hne (hown v hv)
    have howner : w.owner = l := windowOfArgs_owner hw
    refine (exec_reply hready (.wset a) rfl ((State.takeWset_of_good hw hi).trans (if_neg hno))).trans ?_
    rw [windowItems, howner]
    rfl
  case wrelBad => exact exec_reply hready (.wrel n) rfl (State.takeWrel_of_gt hn)
  case wrelOwn =>
    exact exec_reply hready (.wrel i.val) rfl
      ((State.takeWrel_val s l i).trans (if_pos ((Window.ofOwner_iff _).mpr hown)))
  case wrelOther =>
    have hno : ¬ Window.ofOwner l (s.windows.get i) = true := fun h => by
      obtain ⟨v, hv, heq⟩ := (Window.ofOwner_iff _).mp h
      exact hother v hv heq
    exact exec_reply hready (.wrel i.val) rfl ((State.takeWrel_val s l i).trans (if_neg hno))

/-! SPWR on, SCFG and SCLR (R106, R111, R119, R120) -/

/-- A slot that starts its ramp (R106). -/
def Slot.rampStart (x : Slot) : Slot := { x.enter .ramping with rampTimer := .running Config.rampMs }

section
variable {s : State} {l : Link} {i : SlotId} {rest : List SlotId}

/-- The Ramp Sequencer's check while it holds a slot. -/
theorem State.rampCheck_of_busy (h : s.ramping ≠ none) : s.rampCheck = (s, []) := by
  unfold State.rampCheck
  split
  next => rfl
  next hnone => exact absurd hnone h

theorem State.rampCheck_of_free (h : s.ramping = none) : s.rampCheck = rampFrom s.powerWait s := by
  rw [State.rampCheck, h]

/-- The head of the power wait list ramps, if its TRIPs is not asserted. -/
theorem rampFrom_of_sound (h : (s.slot i).tripPin = false) :
    rampFrom (i :: rest) s = (({ s with powerWait := rest, ramping := some i } : State).onSlot i Slot.rampStart, []) := by
  rw [rampFrom]
  simp only [h]
  rfl

/-- The head of the power wait list is faulted, if its TRIPs is asserted, and the next is looked at. -/
theorem rampFrom_of_tripped (h : (s.slot i).tripPin = true) :
    rampFrom (i :: rest) s =
      ((rampFrom rest (({ s with powerWait := rest } : State).onSlot i (Slot.fail .overcurrent))).1,
        i :: (rampFrom rest (({ s with powerWait := rest } : State).onSlot i (Slot.fail .overcurrent))).2) := by
  rw [rampFrom]
  simp only [h]
  rfl

theorem State.queueForPower_slot (s : State) (i : SlotId) : (s.queueForPower i).slot i = (s.slot i).enter .queuedForPower :=
  State.onSlot_slot s i _

theorem State.powerUp_of_busy (h : s.ramping ≠ none) :
    s.powerUp l i = (s.queueForPower i).reply l 0x40 .ok [.slot i.val, .slotState .queuedForPower] := by
  rw [State.powerUp, State.rampCheck_of_busy (s := s.queueForPower i) h]
  simp only [State.replySlot, State.queueForPower_slot]
  rfl

/-- The only slot that waits, with its TRIPs as given, as the Ramp Sequencer takes it. -/
theorem State.rampCheck_queueForPower (hr : s.ramping = none) (hw : s.powerWait = []) :
    (s.queueForPower i).rampCheck =
      if (s.slot i).tripPin then (s.onSlot i (Slot.fail .overcurrent), [i])
      else (({ s with ramping := some i } : State).onSlot i Slot.rampStart, []) := by
  have hwait : (s.queueForPower i).powerWait = [i] := by
    change s.powerWait ++ [i] = [i]
    rw [hw]
    rfl
  have htrip : ((s.queueForPower i).slot i).tripPin = (s.slot i).tripPin := by rw [State.queueForPower_slot]; rfl
  rw [State.rampCheck_of_free (s := s.queueForPower i) hr, hwait]
  obtain ⟨u, rfl⟩ : ∃ u : State, s = { u with powerWait := [] } := ⟨s, by rw [← hw]⟩
  split
  next h =>
    rw [rampFrom_of_tripped (htrip.trans h), rampFrom]
    exact Prod.ext (State.onSlot_onSlot ({ u with powerWait := [] } : State) i _ _) rfl
  next h =>
    rw [rampFrom_of_sound (htrip.trans (by simpa using h))]
    exact Prod.ext (State.onSlot_onSlot ({ u with powerWait := [], ramping := some i } : State) i _ _) rfl

theorem State.powerUp_of_sound (hr : s.ramping = none) (hw : s.powerWait = []) (ht : (s.slot i).tripPin = false) :
    s.powerUp l i = (({ s with ramping := some i } : State).onSlot i Slot.rampStart).reply l 0x40 .ok
      [.slot i.val, .slotState .ramping] := by
  rw [State.powerUp, State.rampCheck_queueForPower hr hw, ht]
  simp only [Bool.false_eq_true, if_false, State.replySlot, State.onSlot_slot]
  rfl

theorem State.powerUp_of_tripped (hr : s.ramping = none) (hw : s.powerWait = []) (ht : (s.slot i).tripPin = true) :
    s.powerUp l i = ((s.onSlot i (Slot.fail .overcurrent)).reply l 0x40 .ok [.slot i.val, .slotState .faulted]).raiseBoth
      (.fault i) := by
  rw [State.powerUp, State.rampCheck_queueForPower hr hw, ht]
  simp only [if_true, State.replySlot, State.onSlot_slot]
  rfl

theorem State.takeSpwrOn_of_bad {n : Nat} {f : Bool} (h : 3 < n ∨ f = true) :
    s.takeSpwrOn l n f = s.reply l 0x40 .badParam [] := by
  unfold State.takeSpwrOn
  split
  next i hi =>
    have hlt : i.val = n := slotOf_eq_some.mp hi
    have := i.isLt
    rcases h with h | h
    · omega
    · cases h
  next => rfl

theorem State.takeSpwrOn_val (s : State) (l : Link) (i : SlotId) : s.takeSpwrOn l i.val false = s.spwrOnSlot l i := by
  simp [State.takeSpwrOn]

theorem autoOf_eq_none {v : Nat} (h : 1 < v) : autoOf v = none := by
  unfold autoOf
  split
  next => omega
  next => omega
  next => rfl

theorem State.takeScfg_of_bad {n v : Nat} (h : 3 < n ∨ 1 < v) : s.takeScfg l n v = s.reply l 0x41 .badParam [] := by
  unfold State.takeScfg
  rcases h with h | h
  · rw [slotOf_of_gt h]
    rfl
  · rw [autoOf_eq_none h]
    cases slotOf n <;> rfl

theorem State.takeScfg_val (s : State) (l : Link) (i : SlotId) (on : Bool) :
    s.takeScfg l i.val (if on then 1 else 0) =
      (s.onSlot i (fun x => { x with autoBringup := on })).reply l 0x41 .ok [.slot i.val, .autoBringup on] := by
  cases on <;> simp [State.takeScfg, autoOf]

theorem State.takeSclr_of_gt {n : Nat} (h : 3 < n) : s.takeSclr l n = s.reply l 0x42 .badParam [] := by
  simp [State.takeSclr, State.refuse, slotOf_of_gt h]

theorem State.takeSclr_of_sound (h : (s.slot i).state ≠ .faulted) : s.takeSclr l i.val = s.reply l 0x42 .slotState [] := by
  simp [State.takeSclr, State.refuse, h]

theorem State.takeSclr_of_faulted (h : (s.slot i).state = .faulted) :
    s.takeSclr l i.val = (s.onSlot i (Slot.enter .present)).reply l 0x42 .ok [.slot i.val, .slotState .present] := by
  simp only [State.takeSclr, slotOf_val, h, if_true, State.replySlot, State.onSlot_slot]
  rfl

end

/-- Settles O26: SPWR on, SCFG and SCLR by the slot that the number names and its state. -/
theorem spwrOnScfgAndSclrFollowTheSlotState : Obligations.SpwrOnScfgAndSclrFollowTheSlotState := by
  intro l i s hready
  have hon : exec (.spwrOn l i.val false) s = .next (s.spwrOnSlot l i).kick := by
    rw [← State.takeSpwrOn_val]
    exact exec_of_ready hready (.spwr i.val 1 false) rfl
  refine ⟨fun n force hn => exec_reply hready (.spwr n 1 force) rfl (State.takeSpwrOn_of_bad (.inl hn)),
    exec_reply hready (.spwr i.val 1 true) rfl (State.takeSpwrOn_of_bad (.inr rfl)), fun hstate => ?refused,
    fun hstate => ?idle, fun hpresent => ⟨fun hbusy => ?waits, fun hr hw ht => ?ramps, fun hr hw ht => ?trips⟩,
    fun n v h => exec_reply hready (.scfg n v) rfl (State.takeScfg_of_bad h),
    fun on => exec_reply hready (.scfg i.val (if on then 1 else 0)) rfl (State.takeScfg_val s l i on),
    fun n hn => exec_reply hready (.sclr n) rfl (State.takeSclr_of_gt hn),
    fun hstate => exec_reply hready (.sclr i.val) rfl (State.takeSclr_of_sound hstate),
    fun hstate => exec_reply hready (.sclr i.val) rfl (State.takeSclr_of_faulted hstate)⟩
  case refused =>
    rw [hon, State.spwrOnSlot]
    cases hp : (s.slot i).state <;> simp [hp] at hstate <;> rfl
  case idle =>
    rw [hon, State.spwrOnSlot, State.replySlot]
    cases hp : (s.slot i).state <;> simp [hp] at hstate <;> rfl
  case waits =>
    rw [hon, State.spwrOnSlot, hpresent]
    simp only [State.powerUp_of_busy hbusy]
    rfl
  case ramps =>
    rw [hon, State.spwrOnSlot, hpresent]
    simp only [State.powerUp_of_sound hr hw ht]
    rfl
  case trips =>
    rw [hon, State.spwrOnSlot, hpresent]
    simp only [State.powerUp_of_tripped hr hw ht]
    rfl

end Sys2Proof.Machine
end

section
/-! PROOFS. The job requests at their owner: JSUB (R2 to R4), and JPAU, JRES and JCAN by the state of the job they name
(R63 to R67). -/

namespace Sys2Proof.Machine

/-! The parameters of JSUB (R2, R182) -/

theorem jobKindOf_eq_some {n : Nat} {k : JobKind} : jobKindOf n = some k ↔ jobKindCode k = n := by
  unfold jobKindOf
  split <;> cases k <;> simp_all [jobKindCode, eq_comm]

theorem exists_jobKindCode {n : Nat} (h1 : 1 ≤ n) (h4 : n ≤ 4) : ∃ k, jobKindCode k = n := by
  obtain rfl | rfl | rfl | rfl : n = 1 ∨ n = 2 ∨ n = 3 ∨ n = 4 := by omega
  exacts [⟨.read, rfl⟩, ⟨.write, rfl⟩, ⟨.copy, rfl⟩, ⟨.fill, rfl⟩]

theorem jobKindCode_range (k : JobKind) : 1 ≤ jobKindCode k ∧ jobKindCode k ≤ 4 := by cases k <;> decide

theorem jobKindCode_copy_iff (k : JobKind) : jobKindCode k = 3 ↔ k = .copy := by cases k <;> decide

theorem jobKindCode_fill_iff (k : JobKind) : jobKindCode k = 4 ↔ k = .fill := by cases k <;> decide

theorem segmentOk_iff (n : Nat) (g : Segment) : segmentOk n g = true ↔
    1 ≤ g.blocks ∧ g.blocks ≤ 4096 ∧ n ∣ g.address ∧ g.address + g.blocks * n ≤ 2 ^ 32 := by
  simp only [segmentOk, Bool.and_eq_true, decide_eq_true_eq, Nat.dvd_iff_mod_eq_zero, and_assoc]
  rfl

theorem listOk_iff (gs : List Segment) : listOk gs = true ↔ 1 ≤ gs.length ∧ gs.length ≤ 16 := by
  cases gs <;> simp [listOk, Config.segmentsMax]

theorem blockSizeOk_iff (n : Nat) : blockSizeOk n = true ↔ n ∈ [256, 512, 1024, 2048] := by
  rw [blockSizeOk, List.contains_iff_mem]

/-- The checks of R2 and R182 for the parameters of a job of a given kind. -/
theorem jsubOk_iff (a : JsubArgs) (k : JobKind) : jsubOk a k = true ↔
    a.tag ≠ 0 ∧ a.blockSize ∈ [256, 512, 1024, 2048] ∧ (1 ≤ a.primary.length ∧ a.primary.length ≤ 16) ∧
      (k = .copy → (1 ≤ a.destination.length ∧ a.destination.length ≤ 16) ∧
        totalBlocks a.primary = totalBlocks a.destination) ∧ (k ≠ .copy → a.destination = []) ∧
      (∀ g ∈ a.primary ++ a.destination, segmentOk a.blockSize g = true) ∧ (k = .fill ↔ a.pattern.isSome = true) ∧
      a.flags.getD 0 < 4 := by
  have hlists : (if k = .copy then listOk a.destination && totalBlocks a.primary == totalBlocks a.destination
      else a.destination.isEmpty) = true ↔ (k = .copy → (1 ≤ a.destination.length ∧ a.destination.length ≤ 16) ∧
        totalBlocks a.primary = totalBlocks a.destination) ∧ (k ≠ .copy → a.destination = []) := by
    by_cases hk : k = .copy <;> simp [hk, listOk_iff]
  have hpattern : (if k = .fill then a.pattern.isSome else a.pattern.isNone) = true ↔
      (k = .fill ↔ a.pattern.isSome = true) := by
    by_cases hk : k = .fill <;> simp [hk]
  simp only [jsubOk, Bool.and_eq_true, decide_eq_true_eq, bne_iff_ne, blockSizeOk_iff, listOk_iff, hlists, hpattern,
    List.all_eq_true, List.mem_append, or_imp, forall_and, and_assoc]

/-- Settles O29: the parameters that give a job, and the job's record field by field. -/
theorem jsubParametersAreChecked : Obligations.JsubParametersAreChecked := by
  intro a
  refine ⟨?describes, fun j hj => ?record⟩
  case describes =>
    simp only [jobOfArgs_eq_some, jobKindOf_eq_some, jsubOk_iff, segmentOk_iff, totalBlocks, and_assoc]
    constructor
    · rintro ⟨j, k, hk, h1, h2, h3, h4, h5, h6, h7, h8, h9, -⟩
      have hrange := jobKindCode_range k
      have hcopy := jobKindCode_copy_iff k
      have hfill := jobKindCode_fill_iff k
      rw [hk] at hrange hcopy hfill
      exact ⟨h1, hrange.1, hrange.2, h2, h3, h4, fun h => h5 (hcopy.mp h), fun h => h6 (mt hcopy.mpr h), h7, hfill.trans h8, h9⟩
    · rintro ⟨h1, hlow, hhigh, h2, h3, h4, h5, h6, h7, h8, h9⟩
      obtain ⟨k, hk⟩ := exists_jobKindCode hlow hhigh
      have hcopy := jobKindCode_copy_iff k
      have hfill := jobKindCode_fill_iff k
      rw [hk] at hcopy hfill
      exact ⟨_, k, hk, h1, h2, h3, h4, fun h => h5 (hcopy.mpr h), fun h => h6 (mt hcopy.mp h), h7, hfill.symm.trans h8, h9, rfl⟩
  case record =>
    obtain ⟨k, hk, -, rfl⟩ := jobOfArgs_eq_some.mp hj
    refine ⟨rfl, jobKindOf_eq_some.mp hk, rfl, rfl, rfl, rfl, rfl, ?_, ?_, rfl, rfl, rfl, rfl, rfl, rfl, rfl, rfl, rfl, rfl,
      rfl, rfl, rfl, rfl, rfl⟩
    · simp [newJob]
    · simp [newJob, Nat.testBit_eq_decide_div_mod_eq]

/-! JSUB (R2 to R4, R11) -/

section
variable {s : State} {l : Link} {j : Job} {a : JsubArgs} {x : LinkState}

theorem LinkState.liveJob_isSome_iff (tag : Nat) : (x.liveJob tag).isSome = true ↔ ∃ k ∈ x.live, k.tag = tag := by
  rw [← not_iff_not, Bool.not_eq_true, Option.isSome_eq_false_iff, Option.isNone_iff_eq_none,
    LinkState.liveJob_eq_none_iff]
  simp

theorem State.takeJsub_of_bad (h : jobOfArgs a = none) : s.takeJsub l a = s.reply l 0x50 .badParam [] := by
  rw [State.takeJsub, h]
  rfl

theorem State.takeJsub_of_full (h : jobOfArgs a = some j) (hn : 8 ≤ (s.link l).live.length) :
    s.takeJsub l a = s.reply l 0x50 .queueFull [] := by
  rw [State.takeJsub, h]
  exact if_pos hn

theorem State.takeJsub_of_duplicate (h : jobOfArgs a = some j) (hn : (s.link l).live.length < 8)
    (ht : ∃ k ∈ (s.link l).live, k.tag = j.tag) : s.takeJsub l a = s.reply l 0x50 .duplicateTag [] := by
  rw [State.takeJsub, h]
  exact (if_neg (Nat.not_le.mpr hn)).trans (if_pos ((LinkState.liveJob_isSome_iff _).mpr ht))

/-- The job has joined the tail of the live list, and the reply is queued. -/
def State.joined (s : State) (l : Link) (j : Job) : State :=
  (s.onLink l (LinkState.join j)).reply l 0x50 .ok [.jobTag j.tag, .listPosition ((s.link l).live.length + 1)]

theorem State.takeJsub_of_new (h : jobOfArgs a = some j) (hn : (s.link l).live.length < 8)
    (ht : ∀ k ∈ (s.link l).live, k.tag ≠ j.tag) : s.takeJsub l a = (s.joined l j).startIfDue l := by
  have hno : ¬ ((s.link l).liveJob j.tag).isSome = true := fun hs => by
    obtain ⟨k, hk, htag⟩ := (LinkState.liveJob_isSome_iff _).mp hs
    exact ht k hk htag
  rw [State.takeJsub, h]
  exact (if_neg (Nat.not_le.mpr hn)).trans (if_neg hno)

theorem State.startIfDue_of_check (h : s.startCheck l = true) : s.startIfDue l = s.settle l := if_pos h

theorem State.startIfDue_of_no_check (h : ¬ s.startCheck l = true) : s.startIfDue l = s := if_neg h

/-- The start check behind a job that joins, in the words of the state before (R11). -/
theorem State.joined_startCheck_iff (hq : j.state = .queued) : (s.joined l j).startCheck l = true ↔
    (s.link l).lane.state = .idle ∧ s.latchHold = false ∧ ∀ k, (s.link l).live.head? = some k → k.state = .queued := by
  have hlane : ((s.joined l j).link l).lane = (s.link l).lane := by simp [State.joined, State.reply, LinkState.push, LinkState.join]
  have hhold : (s.joined l j).latchHold = s.latchHold := by simp [State.joined, State.reply]
  have hlive : ((s.joined l j).link l).live = (s.link l).live ++ [j] := by
    simp [State.joined, State.reply, LinkState.push, LinkState.join]
  rw [State.startCheck_iff, hlane, hhold, hlive]
  cases hx : (s.link l).live with
  | nil => simp [hq]
  | cons k ks => simp

end

/-- Settles O30: the refusals of JSUB, and the job that joins, with the start check behind it. -/
theorem jsubJoinsTheLiveList : Obligations.JsubJoinsTheLiveList := by
  intro l a s hready
  refine ⟨fun hbad => exec_reply hready (.jsub a) rfl (State.takeJsub_of_bad hbad), fun j hj => ⟨fun hfull =>
    exec_reply hready (.jsub a) rfl (State.takeJsub_of_full hj hfull), fun hn ht =>
    exec_reply hready (.jsub a) rfl (State.takeJsub_of_duplicate hj hn ht), fun hn ht hno => ?waits,
    fun hn ht hhold hlane hhead => ?starts⟩⟩
  all_goals
    have hq : j.state = .queued := (Job.fresh_of_args hj).queued
    have htake : s.takeRequest l (.jsub a) = (s.joined l j).startIfDue l := State.takeJsub_of_new hj hn ht
  case waits =>
    refine exec_reply hready (.jsub a) rfl (htake.trans (State.startIfDue_of_no_check fun hstart => ?_))
    obtain ⟨hidle, hfree, hhead⟩ := (State.joined_startCheck_iff hq).mp hstart
    rcases hno with hhold | hlane | ⟨k, ks, hlive, hk⟩
    · rw [hfree] at hhold
      cases hhold
    · exact hlane hidle
    · exact hk (hhead k (by rw [hlive]; rfl))
  case starts =>
    have hstart := State.startIfDue_of_check ((State.joined_startCheck_iff hq).mpr ⟨hlane, hhold, hhead⟩)
    rw [exec_of_ready hready (.jsub a) rfl, htake, hstart]
    cases l <;> rfl

/-! JPAU, JRES and JCAN of the job they name (R63 to R67) -/

section
variable {s : State} {l : Link} {j : Job} {tag : Nat}

/-- A request for a tag that is not live is answered by the history (R63). -/
theorem State.forJob_of_not_live (h : ∀ k ∈ (s.link l).live, k.tag ≠ tag) (code : Nat) (f : Job → State) :
    s.forJob l code tag f = s.reply l code ((s.link l).notLive tag) [] := by
  rw [State.forJob, (LinkState.liveJob_eq_none_iff _ _).mpr h]
  rfl

theorem State.forJob_of_live (h : (s.link l).liveJob tag = some j) (code : Nat) (f : Job → State) :
    s.forJob l code tag f = f j := by
  rw [State.forJob, h]

theorem LinkState.notLive_eq {x : LinkState} {r : ReplyCode} (h : ((∃ e ∈ x.history, e.tag = tag) ∧ r = .ended) ∨
    ((∀ e ∈ x.history, e.tag ≠ tag) ∧ r = .unknownJob)) : x.notLive tag = r := by
  unfold LinkState.notLive
  rcases h with ⟨⟨e, he, htag⟩, rfl⟩ | ⟨hno, rfl⟩
  · cases hp : x.pastJob tag with
    | none => exact absurd htag ((LinkState.pastJob_eq_none_iff _ _).mp hp e he)
    | some _ => rfl
  · rw [(LinkState.pastJob_eq_none_iff _ _).mpr hno]

end

/-- Settles O32: the refusals by the lists and by the state of the job named. -/
theorem jobRequestsAreRefused : Obligations.JobRequestsAreRefused := by
  intro l tag s hready
  refine ⟨fun hno r hr => ?notLive, fun ahead j behind hlive htag hahead => ?live⟩
  case notLive =>
    have hrefused := fun code (f : Job → State) =>
      (State.forJob_of_not_live hno code f).trans (by rw [LinkState.notLive_eq hr])
    exact ⟨exec_reply hready (.jpau tag) rfl (hrefused 0x51 _), exec_reply hready (.jres tag) rfl (hrefused 0x52 _),
      exec_reply hready (.jcan tag) rfl (hrefused 0x53 _)⟩
  case live =>
    subst htag
    have hfound : (s.link l).liveJob j.tag = some j := LinkState.liveJob_of_split hlive hahead
    have hjpau : s.takeRequest l (.jpau j.tag) = s.pauseActive l j.tag j := State.forJob_of_live hfound _ _
    have hjres : s.takeRequest l (.jres j.tag) = s.resumeActive l j.tag j := State.forJob_of_live hfound _ _
    have hjcan : s.takeRequest l (.jcan j.tag) = s.cancelLive l j.tag j := State.forJob_of_live hfound _ _
    refine ⟨fun hs => ⟨exec_reply hready (.jpau j.tag) rfl (t := s) (hjpau.trans ?_),
        exec_reply hready (.jres j.tag) rfl (t := s) (hjres.trans ?_)⟩,
      fun hs => ⟨exec_reply hready (.jpau j.tag) rfl (t := s) (hjpau.trans ?_),
        exec_reply hready (.jres j.tag) rfl (t := s) (hjres.trans ?_),
        exec_reply hready (.jcan j.tag) rfl (t := s) (hjcan.trans ?_)⟩,
      fun hs => ⟨fun hh => exec_reply hready (.jpau j.tag) rfl (t := s) (hjpau.trans ?_),
        fun hh => exec_reply hready (.jres j.tag) rfl (t := s) (hjres.trans ?_)⟩,
      fun hs => exec_reply hready (.jres j.tag) rfl (t := s) (hjres.trans ?_)⟩
    · rw [State.pauseActive, hs]; rfl
    · rw [State.resumeActive, hs]; rfl
    · rw [State.pauseActive, hs]; rfl
    · rw [State.resumeActive, hs]; rfl
    · rw [State.cancelLive, hs]; rfl
    · rcases hs with hs | hs <;> simp only [State.pauseActive, hs, hh, if_true] <;> rfl
    · rcases hs with hs | hs <;> simp only [State.resumeActive, State.withdrawHost, hs, hh, Bool.false_eq_true, if_false] <;> rfl
    · rw [State.resumeActive, hs]; rfl

/-! The active job at the head of its list -/

section
variable {s : State} {l : Link} {j k : Job} {js : List Job} {x : LinkState}

theorem LinkState.liveJob_head (h : x.live = j :: js) : x.liveJob j.tag = some j := by simp [LinkState.liveJob, h]

theorem State.activeJob_head (h : (s.link l).live = j :: js) (hs : j.state ≠ .queued) : s.activeJob l = some j :=
  State.activeJob_of_live h hs

/-- The head job is replaced. -/
theorem State.onJob_of_cons (h : (s.link l).live = j :: js) (f : Job → Job) :
    s.onJob l f = s.onLink l (fun x => { x with live := f j :: js }) :=
  State.onLink_congr (LinkState.onHead_of_cons h f)

theorem holdStart_eq (limit : Option Nat) :
    holdStart limit = if 0 < limit.getD 0 then .running (limit.getD 0) else .stopped := by
  cases limit with
  | none => rfl
  | some n => cases n <;> rfl

/-- The data timer of R45 in the words of the job's kind and credits. -/
theorem Job.retime_dataTimer_eq (h : j.state = .running ∨ j.state = .pausing) (n : Nat) :
    (j.retime n).dataTimer = if j.kind = .write ∧ 0 < j.credits then .running n else .stopped := by
  have hd : j.dataTimed = true ↔ j.kind = .write ∧ 0 < j.credits := by
    rcases h with h | h <;> simp [Job.dataTimed, h]
  simp only [Job.retime, hd]

theorem Job.retime_of_stopped (h : j.dataTimed = false) (n : Nat) : j.retime n = { j with dataTimer := .stopped } := by
  simp [Job.retime, h]

/-- With the head job replaced, and replaced again. -/
theorem State.onLink_live_onJob (s : State) (l : Link) (k : Job) (js : List Job) (f : Job → Job) :
    (s.onLink l (fun x => { x with live := k :: js })).onJob l f = s.onLink l (fun x => { x with live := f k :: js }) := by
  rw [State.onJob, State.onLink_onLink]
  rfl

/-- With the head job replaced, JOB_PAUSED or another notice is offered behind. -/
theorem State.onLink_offer (s : State) (l : Link) (f : LinkState → LinkState) (n : Notice) :
    (s.onLink l f).offer l n = s.onLink l (fun x => (f x).offer n) := State.onLink_onLink ..

end

end Sys2Proof.Machine
end

section
/-! PROOFS. JPAU, JRES and JCAN of an active job, and JCAN of a QUEUED one (R61 to R67, R70). -/

namespace Sys2Proof.Machine

section
variable {s : State} {l : Link} {j k : Job} {js : List Job} {x : LinkState}

/-! The order of changes that touch different parts of the state -/

theorem State.onLink_withdrawWait (s : State) (l m : Link) (f : LinkState → LinkState) :
    (s.onLink l f).withdrawWait m = (s.withdrawWait m).onLink l f := by cases l <;> rfl

theorem State.onLink_withdrawAll (s : State) (l m : Link) (f : LinkState → LinkState) :
    (s.onLink l f).withdrawAll m = (s.withdrawAll m).onLink l f := by cases l <;> rfl

theorem State.onJob_eq_onLink (s : State) (l : Link) (f : Job → Job) : s.onJob l f = s.onLink l (fun x => x.onHead f) := rfl

theorem State.reply_eq_onLink (s : State) (l : Link) (code : Nat) (r : ReplyCode) (items : List Item) :
    s.reply l code r items = s.onLink l (LinkState.push (.reply (BitVec.ofNat 8 code) r items)) := rfl

/-- A RUNNING or PAUSING job whose data timer follows (R45). -/
theorem Job.retime_of_active (h : j.state = .running ∨ j.state = .pausing) (n : Nat) :
    j.retime n = { j with dataTimer := if j.kind = .write ∧ 0 < j.credits then .running n else .stopped } := by
  rw [← Job.retime_dataTimer_eq h n]
  rfl

/-! JPAU (R61, R64) -/

/-- A job that is RUNNING with a transfer in flight becomes PAUSING behind the reply. -/
theorem State.pauseActive_of_flight (hx : (s.link l).live = j :: js) (hs : j.state = .running)
    (hb : s.bus.laneInFlight l = true) (tag : Nat) :
    s.pauseActive l tag j = (({ s with waitList := s.waitList.filter (· != l) } : State).onLink l (fun x =>
      { x with live :=
        { j with
          state := .pausing
          causeHost := true
          dataTimer := if j.kind = JobKind.write ∧ 0 < j.credits then .running (x.dataTimeout.getD 1000) else .stopped }
        :: js })).reply l 0x51 .ok [.jobTag tag, .jobState (.live .pausing)] := by
  simp only [State.pauseActive, hs, hb, if_true, State.replyJob, State.pauseRunning, State.reply_eq_onLink,
    State.onJob_of_cons hx, State.onLink_bus, State.onLink_withdrawWait, State.onTimedJob, State.onLink_onLink]
  refine State.onLink_congr ?_
  have htimed := Job.retime_of_active (j := { j with state := .pausing, causeHost := true }) (.inr rfl)
    ((s.link l).dataTimeout.getD 1000)
  rw [State.withdrawWait_link]
  exact congrArg (fun k => (({ s.link l with live := k :: js } : LinkState).push _)) htimed

/-- An active job enters PAUSED: the lane's waits are withdrawn, its hold timer starts for HOST, and JOB_PAUSED is offered. -/
theorem State.enterPaused_of_cons (hx : (s.link l).live = j :: js) (hs : j.state ≠ .queued) :
    s.enterPaused l = (s.withdrawAll l).onLink l (fun x =>
      ({ x with live := { j with
          state := .paused
          holdTimer := if j.causeHost then holdStart (s.link l).holdLimit else .stopped
          dataTimer := .stopped } :: js }).offer (.jobPaused j.tag j.causeHost j.causeLatch j.nextBlock j.completed)) := by
  rw [State.enterPaused, State.activeJob_head hx hs]
  simp only [State.onTimedJob, State.offer, State.onLink_onLink]
  refine State.onLink_congr ?_
  rw [State.withdrawAll_link, LinkState.onHead_of_cons hx, Job.retime_of_stopped (by simp [Job.dataTimed])]

/-- A paused job resumes, with JOB_RESUMED offered if it was PAUSED. -/
theorem State.resumeJob_of_cons (hx : (s.link l).live = j :: js) (hs : j.state ≠ .queued) :
    s.resumeJob l = s.onLink l (fun x =>
      let y : LinkState :=
        { x with live := ({ j with state := .running, holdTimer := .stopped } : Job).retime x.timeout :: js }
      if j.state = .paused then y.offer (.jobResumed j.tag j.nextBlock j.completed) else y) := by
  rw [State.resumeJob, State.activeJob_head hx hs]
  simp only [State.onTimedJob, State.offer]
  split
  next =>
    rw [State.onLink_onLink]
    exact State.onLink_congr (congrArg (LinkState.offer _) (LinkState.onHead_of_cons hx _))
  next => exact State.onLink_congr (LinkState.onHead_of_cons hx _)

/-- The head job after a change of it and a reply. -/
theorem State.replied_live (s : State) (l : Link) (k : Job) (js : List Job) (e : Entry) :
    (((s.onLink l (fun x => { x with live := k :: js })).onLink l (LinkState.push e)).link l).live = k :: js := by
  rw [State.onLink_link, State.onLink_link]
  rfl

/-- A job that is RUNNING at a block boundary becomes PAUSED behind the reply. -/
theorem State.pauseActive_of_boundary (hx : (s.link l).live = j :: js) (hs : j.state = .running)
    (hb : s.bus.laneInFlight l = false) (tag : Nat) :
    s.pauseActive l tag j = ({ s with waitList := s.waitList.filter (· != l), bus := s.bus.withdraw l } : State).onLink l
      (fun x => ({ x with
        live := { j with state := .paused, causeHost := true, holdTimer := holdStart (s.link l).holdLimit, dataTimer := .stopped }
          :: js
        outbound := x.outbound ++ [Entry.reply 0x51 .ok [.jobTag tag, .jobState (.live .paused)]] }).offer
          (.jobPaused j.tag true j.causeLatch j.nextBlock j.completed)) := by
  simp only [State.pauseActive, hs, hb, Bool.false_eq_true, if_false, State.replyJob, State.pauseRunning,
    State.reply_eq_onLink, State.onJob_of_cons hx, State.onLink_bus]
  rw [State.enterPaused_of_cons (State.replied_live s l _ js _) (by simp)]
  simp only [State.onLink_withdrawAll, State.onLink_onLink, State.onLink_link, if_true]
  rfl

theorem State.pauseActive_of_pausing (hx : (s.link l).live = j :: js) (hs : j.state = .pausing) (hh : j.causeHost = false)
    (tag : Nat) : s.pauseActive l tag j = (s.onLink l (fun x => { x with live := { j with causeHost := true } :: js })).reply l
      0x51 .ok [.jobTag tag, .jobState (.live .pausing)] := by
  simp only [State.pauseActive, hs, hh, Bool.false_eq_true, if_false, State.replyJob, State.onJob_of_cons hx]

theorem State.pauseActive_of_paused (hx : (s.link l).live = j :: js) (hs : j.state = .paused) (hh : j.causeHost = false)
    (tag : Nat) : s.pauseActive l tag j = (s.onLink l (fun x =>
      { x with live := { j with causeHost := true, holdTimer := holdStart (s.link l).holdLimit } :: js })).reply l 0x51 .ok
        [.jobTag tag, .jobState (.live .paused)] := by
  simp only [State.pauseActive, hs, hh, Bool.false_eq_true, if_false, State.replyJob, State.onJob_of_cons hx]

end

/-- Settles O33: JPAU by the state of the head job and by whether its block is in flight. -/
theorem jpauPausesTheActiveJob : Obligations.JpauPausesTheActiveJob := by
  rintro l j js s hready hx hh hold rfl
  have htake : s.takeRequest l (.jpau j.tag) = s.pauseActive l j.tag j :=
    State.forJob_of_live (LinkState.liveJob_head hx) _ _
  simp only [← holdStart_eq]
  refine ⟨fun hs hb => exec_reply hready (.jpau j.tag) rfl (htake.trans (State.pauseActive_of_flight hx hs hb j.tag)),
    fun hs hb => ?_, fun hs => exec_reply hready (.jpau j.tag) rfl (htake.trans (State.pauseActive_of_pausing hx hs hh j.tag)),
    fun hs => exec_reply hready (.jpau j.tag) rfl (htake.trans (State.pauseActive_of_paused hx hs hh j.tag))⟩
  rw [exec_of_ready hready (.jpau j.tag) rfl, htake, State.pauseActive_of_boundary hx hs hb]

/-! JRES (R62, R65) -/

section
variable {s : State} {l : Link} {j k : Job} {js : List Job} {x : LinkState}

theorem State.resumeActive_of_host (hs : j.state = .pausing ∨ j.state = .paused) (tag : Nat) :
    s.resumeActive l tag j = s.withdrawHost l tag j := by
  rcases hs with hs | hs <;> rw [State.resumeActive, hs]

theorem State.withdrawHost_of_latch (hx : (s.link l).live = j :: js) (hh : j.causeHost = true) (hl : j.causeLatch = true)
    (tag : Nat) : s.withdrawHost l tag j = (s.onLink l (fun x =>
      { x with live := { j with causeHost := false, holdTimer := .stopped } :: js })).reply l 0x52 .ok
        [.jobTag tag, .jobState (.live j.state)] := by
  simp only [State.withdrawHost, hh, hl, if_true, State.replyJob, State.onJob_of_cons hx]

/-- The link with its job resumed and the reply queued. -/
def LinkState.hostWithdrawn (j : Job) (js : List Job) (x : LinkState) : LinkState :=
  { x with
    live := ({ j with state := .running, causeHost := false, holdTimer := .stopped } : Job).retime x.timeout :: js
    outbound := x.outbound ++ [.reply 0x52 .ok [.jobTag j.tag, .jobState (.live .running)]] }

/-- Without LATCH the job resumes, and JOB_RESUMED is offered if it was PAUSED. -/
theorem State.withdrawHost_of_free (hx : (s.link l).live = j :: js) (hs : j.state ≠ .queued) (hh : j.causeHost = true)
    (hl : j.causeLatch = false) : s.withdrawHost l j.tag j = (s.onLink l (fun x =>
      if j.state = .paused then (x.hostWithdrawn j js).offer (.jobResumed j.tag j.nextBlock j.completed)
      else x.hostWithdrawn j js)).settle l := by
  rw [State.withdrawHost, if_pos hh, if_neg (by simp [hl])]
  simp only [State.replyJob, State.reply_eq_onLink, State.onJob_of_cons hx]
  rw [State.resumeJob_of_cons (j := { j with causeHost := false, holdTimer := .stopped }) (State.replied_live s l _ js _) hs]
  simp only [State.onLink_onLink]
  rfl

theorem LinkState.hostWithdrawn_eq (j : Job) (js : List Job) (x : LinkState) : x.hostWithdrawn j js =
    { x with
      live := { j with
        state := .running
        causeHost := false
        holdTimer := .stopped
        dataTimer := if j.kind = .write ∧ 0 < j.credits then .running (x.dataTimeout.getD 1000) else .stopped } :: js
      outbound := x.outbound ++ [.reply 0x52 .ok [.jobTag j.tag, .jobState (.live .running)]] } := by
  rw [LinkState.hostWithdrawn, Job.retime_of_active (.inl rfl)]
  rfl

theorem State.setLink_eq_onLink (s : State) (l : Link) {f : LinkState → LinkState} {y : LinkState} (h : f (s.link l) = y) :
    s.setLink l y = s.onLink l f := by rw [← h, State.onLink]

end

/-- Settles O34: JRES by the causes left and the state of the head job. -/
theorem jresWithdrawsTheHost : Obligations.JresWithdrawsTheHost := by
  rintro l j js s hready hx hh timer rfl resumed rfl
  rw [← LinkState.hostWithdrawn_eq]
  have hexec : j.state = .pausing ∨ j.state = .paused →
      exec (.jres l j.tag) s = .next (s.withdrawHost l j.tag j).kick := fun hs => by
    rw [← State.resumeActive_of_host hs, exec_of_ready hready (.jres j.tag) rfl]
    exact congrArg (fun t => Host.Outcome.next t.kick) (State.forJob_of_live (LinkState.liveJob_head hx) _ _)
  refine ⟨fun hs hl => ?_, fun hs hl => ?_, fun hs hl => ?_⟩
  · rw [hexec hs, State.withdrawHost_of_latch hx hh hl]
    rfl
  · rw [hexec (.inl hs), State.withdrawHost_of_free hx (by simp [hs]) hh hl]
    simp only [hs, reduceCtorEq, if_false]
    rfl
  · rw [hexec (.inr hs), State.withdrawHost_of_free hx (by simp [hs]) hh hl]
    simp only [hs, if_true]
    rfl

/-! JCAN (R66, R67) -/

section
variable {s : State} {l : Link} {j k : Job} {js ahead behind : List Job} {x : LinkState}

/-- The link with the QUEUED job gone into the history, the reply queued and JOB_ENDED offered (R67). -/
def LinkState.cancelledQueued (j : Job) (x : LinkState) : LinkState :=
  ((x.dropQueued j ⟨j.tag, j.kind, .cancelled, 0, 0, none⟩).push
    (.reply 0x53 .ok [.jobTag j.tag, .jobState .ended])).offer (.jobEnded j.tag .cancelled 0 0 none)

theorem State.cancelQueued_eq (s : State) (l : Link) (j : Job) :
    s.cancelQueued l j = (s.onLink l (LinkState.cancelledQueued j)).startIfDue l := by
  cases l <;> rfl

/-- The list without the only job of a tag. -/
theorem filter_tag_of_split (h : ∀ k ∈ ahead ++ behind, k.tag ≠ j.tag) :
    (ahead ++ j :: behind).filter (fun k => k.tag != j.tag) = ahead ++ behind := by
  have hkeep : ∀ js : List Job, (∀ k ∈ js, k.tag ≠ j.tag) → js.filter (fun k => k.tag != j.tag) = js := fun js hjs =>
    List.filter_eq_self.mpr fun k hk => by simpa using hjs k hk
  rw [List.filter_append, List.filter_cons_of_neg (by simp), hkeep ahead fun k hk => h k (List.mem_append_left _ hk),
    hkeep behind fun k hk => h k (List.mem_append_right _ hk)]

theorem LinkState.offer_live_eq (n : Notice) (x : LinkState) : (x.offer n).live = x.live := (LinkState.SameLane.offer n x).live

theorem LinkState.cancelledQueued_lane (j : Job) (x : LinkState) : (x.cancelledQueued j).lane = x.lane :=
  (LinkState.SameLane.offer _ _).lane

theorem LinkState.cancelledQueued_live (hx : x.live = ahead ++ j :: behind) (h : ∀ k ∈ ahead ++ behind, k.tag ≠ j.tag) :
    (x.cancelledQueued j).live = ahead ++ behind := by
  rw [LinkState.cancelledQueued, LinkState.offer_live_eq]
  change x.live.filter (fun k => k.tag != j.tag) = _
  rw [hx, filter_tag_of_split h]

/-- The start check behind the cancellation of a QUEUED job (R11). -/
theorem State.cancelledQueued_startCheck_iff (hx : (s.link l).live = ahead ++ j :: behind)
    (h : ∀ k ∈ ahead ++ behind, k.tag ≠ j.tag) :
    (s.onLink l (LinkState.cancelledQueued j)).startCheck l = true ↔ (s.link l).lane.state = .idle ∧ s.latchHold = false ∧
      ∃ k, (ahead ++ behind).head? = some k ∧ k.state = .queued := by
  rw [State.startCheck_iff, State.onLink_link, State.onLink_latchHold, LinkState.cancelledQueued_lane,
    LinkState.cancelledQueued_live hx h]
  cases ahead ++ behind <;> simp

theorem State.cancelLive_of_flight (hs : (j.state = .running ∧ s.bus.laneInFlight l = true) ∨ j.state = .pausing) (tag : Nat) :
    s.cancelLive l tag j = (s.replyJob l 0x53 tag (.live .cancelling)).enterCancelling l := by
  rcases hs with ⟨hs, hb⟩ | hs
  · rw [State.cancelLive, hs]
    exact if_pos hb
  · rw [State.cancelLive, hs]

theorem State.enterCancelling_of_cons (hx : (s.link l).live = j :: js) (tag : Nat) :
    (s.replyJob l 0x53 tag (.live .cancelling)).enterCancelling l =
      (({ s with waitList := s.waitList.filter (· != l) } : State).onLink l (fun x => { x with live :=
        { j with state := .cancelling, causeHost := false, causeLatch := false, dataTimer := .stopped } :: js })).reply l 0x53
          .ok [.jobTag tag, .jobState (.live .cancelling)] := by
  simp only [State.enterCancelling, State.replyJob, State.reply_eq_onLink, State.onLink_withdrawWait, State.onTimedJob,
    State.onLink_onLink]
  refine State.onLink_congr ?_
  have hpush : (LinkState.push (.reply (BitVec.ofNat 8 0x53) .ok [.jobTag tag, .jobState (.live .cancelling)]) (s.link l)).live =
      j :: js := hx
  have htimed := Job.retime_of_stopped (j := { j with state := .cancelling, causeHost := false, causeLatch := false })
    (by simp [Job.dataTimed]) (s.link l).timeout
  rw [State.withdrawWait_link, LinkState.onHead_of_cons hpush]
  exact congrArg (fun k => (({ s.link l with live := k :: js } : LinkState).push _)) htimed

end

/-- Settles O35: JCAN by the state of the job named, with the start check behind a QUEUED one. -/
theorem jcanCancelsAJob : Obligations.JcanCancelsAJob := by
  rintro l ahead j behind s hready hx htags cancelled rfl
  have hfound : (s.link l).liveJob j.tag = some j :=
    LinkState.liveJob_of_split hx fun k hk => htags k (List.mem_append_left _ hk)
  have htake : s.takeRequest l (.jcan j.tag) = s.cancelLive l j.tag j := State.forJob_of_live hfound _ _
  refine ⟨fun hq => ?queued, fun hahead hs => ?active⟩
  case queued =>
    have hgone : s.onLink l (LinkState.cancelledQueued j) = s.onLink l (fun x => ({ x with
        live := ahead ++ behind
        history := (x.history ++ [HistoryEntry.mk j.tag j.kind .cancelled 0 0 none]).drop (x.history.length + 1 - 8)
        outbound := x.outbound ++ [Entry.reply 0x53 .ok [.jobTag j.tag, .jobState .ended]] } : LinkState).offer
          (.jobEnded j.tag .cancelled 0 0 none)) := by
      refine State.onLink_congr ?_
      rw [LinkState.cancelledQueued, LinkState.dropQueued, hx, filter_tag_of_split htags]
      rfl
    have hexec : exec (.jcan l j.tag) s = .next ((s.onLink l (LinkState.cancelledQueued j)).startIfDue l).kick := by
      rw [exec_of_ready hready (.jcan j.tag) rfl, htake, State.cancelLive, hq]
      exact congrArg (fun t => Host.Outcome.next t.kick) (State.cancelQueued_eq s l j)
    have hcheck := State.cancelledQueued_startCheck_iff hx htags
    rw [← hgone]
    refine ⟨fun hno => ?_, fun hhold hlane hhead => ?_⟩
    · rw [hexec, State.startIfDue_of_no_check fun hstart => ?_]
      obtain ⟨hidle, hfree, k, hk, hkq⟩ := hcheck.mp hstart
      rcases hno with hhold | hlane | hhead
      · rw [hfree] at hhold
        cases hhold
      · exact hlane hidle
      · exact hhead k hk hkq
    · rw [hexec, State.startIfDue_of_check (hcheck.mpr ⟨hlane, hhold, hhead⟩)]
  case active =>
    subst hahead
    exact exec_reply hready (.jcan j.tag) rfl
      (htake.trans ((State.cancelLive_of_flight hs j.tag).trans (State.enterCancelling_of_cons hx j.tag)))

end Sys2Proof.Machine
end

section
/-! PROOFS. The power-on reset (R175) and what NRST holds. -/

namespace Sys2Proof.Machine

section
variable {s t : State} {l : Link}

/-! The HELLOs of a reset (R176) -/

theorem State.presence_congr (h : ∀ i, (t.slot i).presPin = (s.slot i).presPin) : t.presence = s.presence := by
  simp only [State.presence, h]

/-- Both links get the same HELLO. -/
theorem State.hellos_eq (s : State) (c : ResetCause) :
    (s.hello .A c).hello .B c = s.onLinks (LinkState.push (.hello c s.latch s.presence)) := rfl

theorem Slot.sampled_presPin (x : Slot) : x.sampled.presPin = x.presPin := by
  rw [Slot.sampled]
  split <;> rfl

@[simp] theorem State.blocksReset_slot (s : State) (i : SlotId) : s.blocksReset.slot i = (s.slot i).sampled := by
  simp [State.blocksReset, State.slot]

theorem State.blocksReset_presence (s : State) : s.blocksReset.presence = s.presence :=
  State.presence_congr fun i => by rw [State.blocksReset_slot, Slot.sampled_presPin]

/-- A slot at a reset: SETTLING exactly while its pin is asserted, all else at its reset value (R125). -/
theorem Slot.sampled_facts (x : Slot) :
    x.sampled.state = (if x.presPin then .settling else .empty) ∧
      x.sampled.settleTimer = (if x.presPin then .running 100 else .stopped) ∧ x.sampled.generation = 0 ∧
      x.sampled.autoBringup = true ∧ x.sampled.wp = x.wpPin ∧ x.sampled.identity = none ∧ x.sampled.faultKind = none ∧
      x.sampled.noResponse = 0 := by
  simp only [Slot.sampled]
  cases x.presPin <;> exact ⟨rfl, rfl, rfl, rfl, rfl, rfl, rfl, rfl⟩

/-! The power-on reset (R175) -/

/-- The state that the power-on reset reaches before its HELLOs. -/
def State.poweredOn (s : State) (r1 r0 : Bool) : State :=
  { ({ s with linkA := LinkState.reset, linkB := LinkState.reset } : State).poolReset.blocksReset with
    inReset := false
    rate := rateOf r1 r0
    rate1 := r1
    rate0 := r0 }

theorem State.powerOn_eq (s : State) (r1 r0 : Bool) :
    s.powerOn r1 r0 = (s.poweredOn r1 r0).onLinks (LinkState.push (.hello .powerOn (latchOf s.latchPin) s.presence)) := by
  have hpresence : (s.poweredOn r1 r0).presence = s.presence :=
    State.blocksReset_presence (({ s with linkA := LinkState.reset, linkB := LinkState.reset } : State).poolReset)
  rw [← hpresence]
  exact State.hellos_eq (s.poweredOn r1 r0) .powerOn

theorem State.poweredOn_link (s : State) (r1 r0 : Bool) (m : Link) : (s.poweredOn r1 r0).link m = LinkState.reset := by
  cases m <;> rfl

theorem State.poweredOn_slot (s : State) (r1 r0 : Bool) (i : SlotId) : (s.poweredOn r1 r0).slot i = (s.slot i).sampled :=
  State.blocksReset_slot _ i

theorem State.poweredOn_window (s : State) (r1 r0 : Bool) (i : Fin 8) : (s.poweredOn r1 r0).windows.get i = none := by
  change (Vector.ofFn (fun _ : Fin 8 => (none : Option Window))).get i = none
  rw [get_ofFn]

/-- With both links at their reset value every buffer is FREE. -/
theorem State.poolReset_holder (hA : s.linkA = LinkState.reset) (hB : s.linkB = LinkState.reset) (b : BufId) :
    (s.poolReset.buffers.get b).holder = .free := by
  simp [State.poolReset, hA, hB, LinkState.sending, LinkState.reset]

theorem State.poweredOn_holder (s : State) (r1 r0 : Bool) (b : BufId) :
    ((s.poweredOn r1 r0).buffers.get b).holder = .free :=
  State.poolReset_holder (s := { s with linkA := LinkState.reset, linkB := LinkState.reset }) rfl rfl b

theorem bitNs_rateOf (r1 r0 : Bool) :
    (rateOf r1 r0).bitNs = if r1 then (if r0 then 125 else 250) else (if r0 then 500 else 1000) := by
  cases r1 <;> cases r0 <;> rfl

theorem rateOf_eq (r1 r0 : Bool) :
    rateOf r1 r0 = if r1 then (if r0 then .mbit8 else .mbit4) else (if r0 then .mbit2 else .mbit1) := by
  cases r1 <;> cases r0 <;> rfl

end

/-- Settles O19: the power-on reset is the reset of every block with a HELLO on both links. -/
theorem powerOnResetGivesResetValues : Obligations.PowerOnResetGivesResetValues := by
  intro r1 r0 s
  have hexec : exec (.powerOnReset r1 r0) s = .next ((s.poweredOn r1 r0).onLinks
      (LinkState.push (.hello .powerOn (latchOf s.latchPin) s.presence))).kick :=
    congrArg (fun t : State => Host.Outcome.next t.kick) (State.powerOn_eq s r1 r0)
  refine ⟨_, hexec, rfl, rateOf_eq r1 r0, fun n => congrArg (n * ·) (bitNs_rateOf r1 r0), fun m => ?_, rfl, rfl, rfl,
    State.poweredOn_window s r1 r0, State.poweredOn_holder s r1 r0, rfl, rfl, rfl, rfl, rfl, rfl, rfl, rfl, rfl, fun i => ?_⟩
  · rw [State.kick_link, State.onLinks_link, State.poweredOn_link]
    rfl
  · rw [State.kick_slot, State.onLinks_slot, State.poweredOn_slot]
    obtain ⟨hstate, -, hgen, hauto, hwp, hid, hfault, hcount⟩ := Slot.sampled_facts (s.slot i)
    exact ⟨hstate, hgen, hauto, hwp, hid, hfault, hcount⟩

/-! NRST (R175, log entry 8) -/

section
variable {s t : State} {l : Link}

/-- What a command leaves while NRST holds the part: all but the levels of the input pins. -/
structure State.HeldTo (s t : State) : Prop where
  inReset : t.inReset = true
  linkA : t.linkA = s.linkA
  linkB : t.linkB = s.linkB
  buffers : t.buffers = s.buffers
  windows : t.windows = s.windows
  latch : t.latch = s.latch
  bus : t.bus.state = s.bus.state
  slots : ∀ i, (t.slot i).state = (s.slot i).state

/-- The outcome of a command that NRST holds off. -/
def Result.HeldFrom (s : State) (r : Result) : Prop := ∃ t, r = .next t ∧ s.HeldTo t

theorem State.HeldTo.refl (h : s.inReset = true) : s.HeldTo s := ⟨h, rfl, rfl, rfl, rfl, rfl, rfl, fun _ => rfl⟩

theorem event_held (h : s.inReset = true) (f : State → State) : Result.HeldFrom s (.next (event s f)) :=
  ⟨s, by rw [event_of_reset h], .refl h⟩

theorem handed_held (h : s.inReset = true) (l : Link) (code : Nat) (owner : State → State) :
    Result.HeldFrom s (handed s l code owner) := by
  refine ⟨s, ?_, .refl h⟩
  rw [handed, event_of_reset h, ite_self]

theorem unknownRequest_held (h : s.inReset = true) (l : Link) (code : Byte) :
    Result.HeldFrom s (execUnknownRequest l code s) := by
  refine ⟨s, ?_, .refl h⟩
  rw [execUnknownRequest, event_of_reset h, ite_self]

theorem pinEvent_held (h : s.inReset = true) {pin : State → State} (hpin : s.HeldTo (pin s)) (f : State → State) :
    Result.HeldFrom s (.next (pinEvent s pin f)) :=
  ⟨pin s, by rw [pinEvent, if_pos h], hpin⟩

/-- A pin of a slot moves. -/
theorem State.HeldTo.onSlot (h : s.inReset = true) (i : SlotId) (f : Slot → Slot)
    (hf : ∀ x, (f x).state = x.state := by exact fun _ => rfl) :
    s.HeldTo (s.onSlot i f) := by
  refine ⟨h, rfl, rfl, rfl, rfl, rfl, rfl, fun k => ?_⟩
  by_cases hk : k = i
  · rw [hk, State.onSlot_slot, hf]
  · rw [State.onSlot_slot_ne s hk]

/-- Every command but the power-on reset and NRST. -/
theorem exec_held (h : s.inReset = true) (c : Instr) :
    (∃ r1 r0, c = .powerOnReset r1 r0) ∨ c = .nrstAssert ∨ Result.HeldFrom s (exec c s) := by
  cases c with
  | powerOnReset r1 r0 => exact .inl ⟨r1, r0, rfl⟩
  | nrstAssert => exact .inr (.inl rfl)
  | unknownRequest l code => exact .inr (.inr (unknownRequest_held h l code))
  | openSession | closeSession | rstl | rstp | nsub | nack | nget | wset | wrel | wget | spwrOn | spwrOff | scfg | sclr
  | sget | jsub | jpau | jres | jcan | jget | jlst => exact .inr (.inr (handed_held h _ _ _))
  | presAssert i => exact .inr (.inr (pinEvent_held h (.onSlot h i _) _))
  | presDeassert i => exact .inr (.inr (pinEvent_held h (.onSlot h i _) _))
  | trip i a => exact .inr (.inr (pinEvent_held h (.onSlot h i _) _))
  | wpPinChange i => exact .inr (.inr (pinEvent_held h (.onSlot h i _) _))
  | baylatchPinChange | wordResponse | responseLinesReleased =>
    exact .inr (.inr (pinEvent_held h ⟨h, rfl, rfl, rfl, rfl, rfl, rfl, fun _ => rfl⟩ _))
  | _ => exact .inr (.inr (event_held h _))

theorem State.nrstHeld_slot (s : State) (i : SlotId) : s.nrstHeld.slot i = (s.slot i).held := by
  simp [State.nrstHeld, State.slot, State.poolReset]

theorem State.nrstHeld_link (s : State) (m : Link) : s.nrstHeld.link m = LinkState.reset := by cases m <;> rfl

theorem lineFrame_of_idle (h : (s.link l).transmitting = false) : lineFrame s l = none := by
  rw [lineFrame, h]

theorem State.txLevel_of_idle (h : lineFrame s l = none) (n : Nat) : s.txLevel l n = true := by
  simp [State.txLevel, h]

end

/-- Settles O20: what NRST holds, and, command by command, that nothing but a pin moves while it does. -/
theorem nrstHoldsThePart : Obligations.NrstHoldsThePart := by
  refine ⟨fun s => ⟨s.nrstHeld, rfl, rfl, fun m n => ?_, fun i => ⟨?_, rfl⟩, rfl, rfl⟩, fun c s t h he => ?_⟩
  · have hidle : lineFrame s.nrstHeld m = none := lineFrame_of_idle (by rw [State.nrstHeld_link]; rfl)
    exact ⟨hidle, State.txLevel_of_idle hidle n⟩
  · rw [State.pwren, State.nrstHeld_slot]
    rfl
  · rcases exec_held h c with hon | hnrst | ⟨u, hu, hkept⟩
    · exact .inl hon
    · exact .inr (.inl hnrst)
    · obtain rfl : u = t := Host.Outcome.next.inj (hu.symm.trans he)
      exact .inr (.inr ⟨hkept.inReset, hkept.linkA, hkept.linkB, hkept.buffers, hkept.windows, hkept.latch, hkept.bus,
        hkept.slots⟩)

end Sys2Proof.Machine
end

section
/-! PROOFS. The bytes of numbers and items (R180, R181), and which payloads the format checks pass (R184, R185). -/

namespace Sys2Proof.Machine

/-! Big-endian bytes (R180) -/

theorem beNat_concat (bs : List Byte) (b : Byte) : beNat (bs ++ [b]) = 256 * beNat bs + b.toNat := by
  simp [beNat, List.foldl_append]

@[simp] theorem beBytes_length (n v : Nat) : (beBytes n v).length = n := by
  induction n generalizing v with
  | zero => rfl
  | succ n ih => simp [beBytes, ih]

theorem beNat_beBytes (n v : Nat) : beNat (beBytes n v) = v % 256 ^ n := by
  induction n generalizing v with
  | zero => simp [beNat, beBytes, Nat.mod_one]
  | succ n ih =>
    rw [beBytes, beNat_concat, ih, BitVec.toNat_ofNat, show 256 ^ (n + 1) = 256 * 256 ^ n from Nat.pow_succ', Nat.mod_mul]
    omega

theorem fits_iff {n v : Nat} : fits n v = true ↔ v < 256 ^ n := by simp [fits]

theorem beNat_beBytes_of_fits {n v : Nat} (h : fits n v = true) : beNat (beBytes n v) = v := by
  rw [beNat_beBytes, Nat.mod_eq_of_lt (fits_iff.mp h)]

/-! Items on the line (R180) -/

/-- The bytes of a run of items as a host sends them. -/
def rawBytes (items : List RawItem) : List Byte := items.flatMap (fun i => itemBytes i.key i.value)

theorem rawBytes_cons (i : RawItem) (items : List RawItem) :
    rawBytes (i :: items) = BitVec.ofNat 8 i.key :: BitVec.ofNat 8 i.value.length :: (i.value ++ rawBytes items) := rfl

/-- Key and length of an item each fit their byte. -/
def RawItem.fitsBytes (i : RawItem) : Prop := i.key < 256 ∧ i.value.length < 256

theorem readItems_rawBytes {items : List RawItem} (h : ∀ i ∈ items, i.fitsBytes) {n : Nat} (hn : items.length ≤ n) :
    readItems n (rawBytes items) = some items := by
  induction items generalizing n with
  | nil => cases n <;> rfl
  | cons i items ih =>
    obtain ⟨n, rfl⟩ : ∃ k, n = k + 1 := ⟨n - 1, by simp at hn; omega⟩
    obtain ⟨hkey, hlen⟩ := h i (by simp)
    have hl : (BitVec.ofNat 8 i.value.length).toNat = i.value.length := by
      rw [BitVec.toNat_ofNat]; exact Nat.mod_eq_of_lt hlen
    have hk : (BitVec.ofNat 8 i.key).toNat = i.key := by
      rw [BitVec.toNat_ofNat]; exact Nat.mod_eq_of_lt hkey
    have hrest := ih (fun k hm => h k (by simp [hm])) (n := n) (by simpa using hn)
    rw [rawBytes_cons, readItems, hl, hk, if_pos (by simp), List.drop_left, List.take_left, hrest]
    rfl

theorem readItems_eq_some {n : Nat} {p : List Byte} {items : List RawItem} (h : readItems n p = some items) :
    p = rawBytes items ∧ ∀ i ∈ items, i.fitsBytes := by
  induction n generalizing p items with
  | zero =>
    cases p with
    | nil => cases h; exact ⟨rfl, by simp⟩
    | cons b p => cases h
  | succ n ih =>
    match p, h with
    | [], h => cases h; exact ⟨rfl, by simp⟩
    | k :: len :: rest, h =>
      rw [readItems] at h
      split at h
      next hle =>
        obtain ⟨more, hmore, rfl⟩ := Option.map_eq_some_iff.mp h
        obtain ⟨hdrop, hfit⟩ := ih hmore
        have hlen : (rest.take len.toNat).length = len.toNat := List.length_take_of_le hle
        refine ⟨?_, List.forall_mem_cons.mpr ⟨⟨k.isLt, ?_⟩, hfit⟩⟩
        · rw [rawBytes_cons, hlen, ← hdrop, List.take_append_drop]
          simp
        · rw [hlen]
          exact len.isLt
      next => cases h

theorem items_length_le (items : List RawItem) : items.length ≤ (rawBytes items).length := by
  induction items with
  | nil => simp
  | cons i items ih =>
    rw [rawBytes_cons]
    simp only [List.length_cons, List.length_append]
    omega

/-- The payloads that pass as a request are the runs of items that pass the checks of its code. -/
theorem parseRequest_eq_some {code : Nat} {p : List Byte} {r : Request} :
    parseRequest code p = some r ↔
      ∃ items, p = rawBytes items ∧ (∀ i ∈ items, i.fitsBytes) ∧ formatOk code items = true ∧ requestOf code items = some r := by
  constructor
  · intro h
    rw [parseRequest] at h
    split at h
    next => cases h
    next items hread =>
      split at h
      next hok => exact ⟨items, (readItems_eq_some hread).1, (readItems_eq_some hread).2, hok, h⟩
      next => cases h
  · rintro ⟨items, rfl, hfit, hok, hr⟩
    simp only [parseRequest, readItems_rawBytes hfit (items_length_le items), hok, if_true, hr]

/-! The checks of R185 -/

theorem countKey_eq (items : List RawItem) (key : Nat) : countKey items key = (items.filter (fun i => i.key = key)).length := by
  rw [countKey, List.countP_eq_length_filter]
  rfl

theorem countKey_pos_iff (items : List RawItem) (key : Nat) : 0 < countKey items key ↔ ∃ i ∈ items, i.key = key := by
  simp [countKey, List.countP_pos_iff]

/-- The format checks: keys and lengths of the code, no key twice but the lists, and every required key. -/
theorem formatOk_iff (code : Nat) (items : List RawItem) :
    formatOk code items = true ↔
      (∀ i ∈ items, i.key ∈ (requestKeys code).1 ++ (requestKeys code).2 ∧ keyLength i.key = some i.value.length) ∧
        (∀ i ∈ items, i.key ≠ 0x45 → i.key ≠ 0x46 → countKey items i.key ≤ 1) ∧
        ∀ k ∈ (requestKeys code).1, ∃ i ∈ items, i.key = k := by
  have hone : ∀ i ∈ items, (countKey items i.key = 1 ↔ countKey items i.key ≤ 1) := fun i hi => by
    have := (countKey_pos_iff items i.key).mpr ⟨i, hi, rfl⟩
    omega
  have hany : ∀ k, countKey items k ≠ 0 ↔ ∃ i ∈ items, i.key = k := fun k => by
    rw [← countKey_pos_iff, Nat.pos_iff_ne_zero]
  simp only [formatOk, Bool.and_eq_true, List.all_eq_true, Bool.or_eq_true, List.contains_iff_mem, beq_iff_eq, bne_iff_ne,
    listKey, List.mem_append, hany]
  constructor
  · rintro ⟨hitems, hreq⟩
    refine ⟨fun i hi => (hitems i hi).1, fun i hi h5 h6 => ?_, hreq⟩
    rcases (hitems i hi).2 with hlist | hcount
    · exact absurd hlist (by simp [h5, h6])
    · exact hcount.le
  · rintro ⟨hkeys, hcount, hreq⟩
    refine ⟨fun i hi => ⟨hkeys i hi, ?_⟩, hreq⟩
    by_cases hlist : i.key = 0x45 ∨ i.key = 0x46
    · exact .inl hlist
    · exact .inr ((hone i hi).mpr (hcount i hi (fun h => hlist (.inl h)) fun h => hlist (.inr h)))

theorem keyLength_lt {key n : Nat} (h : keyLength key = some n) : n < 256 := by
  have hall : ∀ k, ∀ m ∈ keyLength k, m < 256 := fun k m hm => by
    simp only [keyLength] at hm
    split at hm <;> cases hm <;> decide
  exact hall key n h

/-- The required and the optional keys of a code, each with its length. -/
structure KeyTable (code : Nat) (required optional : List (Nat × Nat)) : Prop where
  keys : requestKeys code = (required.map Prod.fst, optional.map Prod.fst)
  lengths : ∀ k ∈ required ++ optional, keyLength k.1 = some k.2
  named : ∀ items, requestOf code items ≠ none

section
variable {code : Nat} {required optional : List (Nat × Nat)}

/-- An item is of the table exactly if its key is and its length is that of its key. -/
theorem KeyTable.mem_iff (h : KeyTable code required optional) (key n : Nat) :
    (key, n) ∈ required ++ optional ↔ key ∈ (requestKeys code).1 ++ (requestKeys code).2 ∧ keyLength key = some n := by
  rw [h.keys, ← List.map_append, List.mem_map]
  constructor
  · exact fun hm => ⟨⟨_, hm, rfl⟩, h.lengths _ hm⟩
  · rintro ⟨⟨k, hm, rfl⟩, hlen⟩
    obtain rfl : k.2 = n := Option.some.inj ((h.lengths k hm).symm.trans hlen)
    exact hm

/-- The payloads that pass are the runs of items of the table. -/
theorem KeyTable.passes_iff (h : KeyTable code required optional) (p : List Byte) :
    parseRequest code p ≠ none ↔ ∃ items, p = rawBytes items ∧ (∀ i ∈ items, i.fitsBytes) ∧ formatOk code items = true := by
  rw [Option.ne_none_iff_exists']
  constructor
  · rintro ⟨r, hr⟩
    obtain ⟨items, hp, hfit, hok, -⟩ := parseRequest_eq_some.mp hr
    exact ⟨items, hp, hfit, hok⟩
  · rintro ⟨items, hp, hfit, hok⟩
    obtain ⟨r, hr⟩ := Option.ne_none_iff_exists'.mp (h.named items)
    exact ⟨r, parseRequest_eq_some.mpr ⟨items, hp, hfit, hok, hr⟩⟩

/-- An item of key and value bytes, as the checks read it. -/
def readItem (i : Byte × List Byte) : RawItem := ⟨i.1.toNat, i.2⟩

theorem rawBytes_readItem (items : List (Byte × List Byte)) :
    rawBytes (items.map readItem) = items.flatMap (fun i => i.1 :: BitVec.ofNat 8 i.2.length :: i.2) := by
  simp [rawBytes, itemBytes, readItem, List.flatMap_map]

/-- Items that fit their bytes are read from a run of items. -/
theorem exists_readItem {items : List RawItem} (h : ∀ i ∈ items, i.fitsBytes) : ∃ bytes : List (Byte × List Byte), items = bytes.map readItem := by
  refine ⟨items.map (fun i => (BitVec.ofNat 8 i.key, i.value)), ?_⟩
  rw [List.map_map]
  refine (List.map_id items).symm.trans (List.map_congr_left fun i hi => ?_)
  simp only [id, Function.comp, readItem, BitVec.toNat_ofNat, Nat.mod_eq_of_lt (h i hi).1]

theorem countKey_readItem (items : List (Byte × List Byte)) (key : Nat) :
    countKey (items.map readItem) key = (items.filter (fun i => i.1.toNat = key)).length := by
  rw [countKey_eq, List.filter_map, List.length_map]
  rfl

/-- The format checks in the terms of the table. -/
theorem KeyTable.formatOk_iff (h : KeyTable code required optional) (items : List (Byte × List Byte)) :
    formatOk code (items.map readItem) = true ↔
      (∀ i ∈ items, (i.1.toNat, i.2.length) ∈ required ++ optional) ∧
        (∀ k ∈ required, ∃ i ∈ items, i.1.toNat = k.1) ∧
        ∀ k ∈ required ++ optional, k.1 ≠ 0x45 → k.1 ≠ 0x46 → (items.filter (fun i => i.1.toNat = k.1)).length ≤ 1 := by
  have hkeys : (∀ i ∈ items.map readItem,
      i.key ∈ (requestKeys code).1 ++ (requestKeys code).2 ∧ keyLength i.key = some i.value.length) ↔
      ∀ i ∈ items, (i.1.toNat, i.2.length) ∈ required ++ optional := by
    simp only [List.forall_mem_map, h.mem_iff, readItem]
  have hreq : (∀ k ∈ (requestKeys code).1, ∃ i ∈ items.map readItem, i.key = k) ↔
      ∀ k ∈ required, ∃ i ∈ items, i.1.toNat = k.1 := by
    rw [h.keys]
    simp [readItem]
  rw [Machine.formatOk_iff, hkeys, hreq, List.forall_mem_map]
  constructor
  · rintro ⟨hitems, hcount, hrequired⟩
    refine ⟨hitems, hrequired, fun k _ h5 h6 => ?_⟩
    by_cases hany : ∃ i ∈ items, i.1.toNat = k.1
    · obtain ⟨i, hi, hk⟩ := hany
      have := hcount i hi (by rw [readItem, hk]; exact h5) (by rw [readItem, hk]; exact h6)
      rwa [readItem, hk, countKey_readItem] at this
    · have hnil : items.filter (fun i => i.1.toNat = k.1) = [] := by
        simpa [List.filter_eq_nil_iff] using hany
      simp [hnil]
  · rintro ⟨hitems, hrequired, hcount⟩
    refine ⟨hitems, fun i hi h5 h6 => ?_, hrequired⟩
    rw [countKey_readItem]
    exact hcount _ (hitems i hi) h5 h6

/-- The payloads that pass, in the terms of the table (R184, R185). -/
theorem KeyTable.passes (h : KeyTable code required optional) (p : List Byte) :
    parseRequest code p ≠ none ↔
      ∃ items : List (Byte × List Byte),
        p = items.flatMap (fun i => i.1 :: BitVec.ofNat 8 i.2.length :: i.2) ∧
          (∀ i ∈ items, (i.1.toNat, i.2.length) ∈ required ++ optional) ∧
          (∀ k ∈ required, ∃ i ∈ items, i.1.toNat = k.1) ∧
          ∀ k ∈ required ++ optional, k.1 ≠ 0x45 → k.1 ≠ 0x46 → (items.filter (fun i => i.1.toNat = k.1)).length ≤ 1 := by
  rw [h.passes_iff]
  constructor
  · rintro ⟨items, hp, hfit, hok⟩
    obtain ⟨bytes, rfl⟩ := exists_readItem hfit
    exact ⟨bytes, hp.trans (rawBytes_readItem bytes), (h.formatOk_iff bytes).mp hok⟩
  · rintro ⟨bytes, hp, hok⟩
    refine ⟨bytes.map readItem, hp.trans (rawBytes_readItem bytes).symm, ?_, (h.formatOk_iff bytes).mpr hok⟩
    refine List.forall_mem_map.mpr fun i hi => ⟨i.1.isLt, ?_⟩
    exact keyLength_lt ((h.mem_iff _ _).mp (hok.1 i hi)).2

end

/-- A row of the table of R184. -/
theorem keyTable_of_row {code : Nat} {required optional : List (Nat × Nat)}
    (hkeys : requestKeys code = (required.map Prod.fst, optional.map Prod.fst))
    (hlengths : (required ++ optional).all (fun k => keyLength k.1 == some k.2) = true)
    (hnamed : ∀ items, (requestOf code items).isSome = true) : KeyTable code required optional :=
  ⟨hkeys, fun k hk => beq_iff_eq.mp (List.all_eq_true.mp hlengths k hk), fun items h => by simpa [h] using hnamed items⟩

end Sys2Proof.Machine
end

section
/-! PROOFS. The items of a well-formed request read back, in any order that keeps the lists' (R180 to R185). -/

namespace Sys2Proof.Machine

section
variable {items items' more : List RawItem} {r : Request} {key k n v : Nat} {o : Option Nat} {gs : List Segment}

/-! What the items of a key say -/

theorem itemValue_eq (items : List RawItem) (key : Nat) :
    itemValue items key = (items.filter (fun i => i.key == key)).head?.map (fun i => beNat i.value) := by
  rw [List.head?_filter]
  rfl

theorem countKey_eq_filter (items : List RawItem) (key : Nat) :
    countKey items key = (items.filter (fun i => i.key == key)).length := List.countP_eq_length_filter

/-- A request is read from the items of each key, in their order. -/
theorem requestOf_congr (h : ∀ key, items.filter (fun i => i.key == key) = items'.filter (fun i => i.key == key)) (code : Nat) :
    requestOf code items = requestOf code items' := by
  have hvalue : itemValue items = itemValue items' := funext fun key => by rw [itemValue_eq, itemValue_eq, h]
  have hcount : countKey items = countKey items' := funext fun key => by rw [countKey_eq_filter, countKey_eq_filter, h]
  have hlist : itemSegments items = itemSegments items' := funext fun key => by rw [itemSegments, itemSegments, h]
  have hget : itemGet items = itemGet items' := funext fun key => by rw [itemGet, itemGet, hvalue]
  simp only [requestOf, hvalue, hcount, hlist, hget]

theorem countKey_perm (h : items.Perm items') (key : Nat) : countKey items key = countKey items' key := h.countP_eq _

/-- The format checks do not depend on the order of the items. -/
theorem formatOk_perm (h : items.Perm items') (code : Nat) : formatOk code items = formatOk code items' := by
  rw [Bool.eq_iff_iff, formatOk_iff, formatOk_iff]
  simp only [h.mem_iff, countKey_perm h]

/-- Items in another order have the same items of each key, if the lists' stand in theirs. -/
theorem filter_key_perm {code : Nat} (hok : formatOk code items' = true) (h : items.Perm items')
    (hlist : ∀ key ∈ [0x45, 0x46], items.filter (fun i => i.key = key) = items'.filter (fun i => i.key = key)) (key : Nat) :
    items.filter (fun i => i.key == key) = items'.filter (fun i => i.key == key) := by
  by_cases hkey : key ∈ [0x45, 0x46]
  · exact hlist key hkey
  · have hperm : (items.filter (fun i => i.key == key)).Perm (items'.filter (fun i => i.key == key)) := h.filter _
    have hone : (items'.filter (fun i => i.key == key)).length ≤ 1 := by
      rw [← countKey_eq_filter]
      by_cases hany : ∃ i ∈ items', i.key = key
      · obtain ⟨i, hi, rfl⟩ := hany
        refine ((formatOk_iff code items').mp hok).2.1 i hi ?_ ?_ <;> rintro h5 <;> simp [h5] at hkey
      · have := (countKey_pos_iff items' key).not.mpr hany
        omega
    generalize items'.filter (fun i => i.key == key) = found at hperm hone ⊢
    match found, hone with
    | [], _ => exact hperm.eq_nil
    | [i], _ => exact hperm.eq_singleton

/-! Items with a value each -/

theorem itemValue_nil (key : Nat) : itemValue [] key = none := rfl

theorem itemValue_append (items more : List RawItem) (key : Nat) :
    itemValue (items ++ more) key = (itemValue items key).or (itemValue more key) := by
  rw [itemValue, List.find?_append, itemValue, itemValue]
  cases items.find? (fun i => i.key == key) <;> rfl

theorem itemValue_natItem (h : fits n v = true) (items : List RawItem) (key : Nat) :
    itemValue (natItem k n v :: items) key = if k = key then some v else itemValue items key := by
  by_cases hk : k = key
  · simp [itemValue, natItem, hk, beNat_beBytes_of_fits h]
  · simp [itemValue, natItem, hk, List.find?_cons_of_neg]

theorem itemValue_optItem (h : fitsOpt n o = true) (key : Nat) :
    itemValue (optItem k n o) key = if k = key then o else none := by
  cases o with
  | none => exact (ite_self _).symm
  | some v => exact itemValue_natItem h [] key

theorem itemValue_segments (h : k ≠ key) (gs : List Segment) : itemValue (gs.map (segmentItem k)) key = none := by
  simp [itemValue, segmentItem, h]

/-! Items of a list (R181) -/

theorem itemSegments_append (items more : List RawItem) (key : Nat) :
    itemSegments (items ++ more) key = itemSegments items key ++ itemSegments more key := by
  rw [itemSegments, List.filter_append, List.map_append]
  rfl

theorem itemSegments_nil (key : Nat) : itemSegments [] key = [] := rfl

theorem itemSegments_natItem (h : k ≠ key) (items : List RawItem) :
    itemSegments (natItem k n v :: items) key = itemSegments items key := by
  simp [itemSegments, natItem, h]

theorem itemSegments_optItem (h : k ≠ key) (o : Option Nat) : itemSegments (optItem k n o) key = [] := by
  cases o <;> simp [itemSegments, optItem, natItem, h]

theorem itemSegments_other (h : k ≠ key) (gs : List Segment) : itemSegments (gs.map (segmentItem k)) key = [] := by
  simp [itemSegments, segmentItem, h]

theorem segmentItem_reads {g : Segment} (h : g.wellFormed = true) (key : Nat) :
    (⟨beNat ((segmentItem key g).value.take 4), beNat ((segmentItem key g).value.drop 4)⟩ : Segment) = g := by
  simp only [Segment.wellFormed, Bool.and_eq_true] at h
  have htake : (segmentItem key g).value.take 4 = beBytes 4 g.address := List.take_left' (by simp)
  have hdrop : (segmentItem key g).value.drop 4 = beBytes 2 g.blocks := List.drop_left' (by simp)
  rw [htake, hdrop, beNat_beBytes_of_fits h.1, beNat_beBytes_of_fits h.2]

theorem itemSegments_same (h : ∀ g ∈ gs, g.wellFormed = true) (key : Nat) : itemSegments (gs.map (segmentItem key)) key = gs := by
  have hall : (gs.map (segmentItem key)).filter (fun i => i.key == key) = gs.map (segmentItem key) :=
    List.filter_eq_self.mpr (by simp [segmentItem])
  rw [itemSegments, hall, List.map_map]
  exact (List.map_congr_left fun g hg => segmentItem_reads (h g hg) key).trans (List.map_id gs)

/-! The items that a request has -/

/-- The length of every item of a request is that of its key, and the key is one of its code. -/
def RawItem.knownTo (code : Nat) (i : RawItem) : Prop :=
  i.key ∈ (requestKeys code).1 ++ (requestKeys code).2 ∧ keyLength i.key = some i.value.length

theorem natItem_knownTo {code : Nat} (hk : ((requestKeys code).1 ++ (requestKeys code).2).contains k = true) (hn : keyLength k = some n) :
    (natItem k n v).knownTo code := ⟨List.contains_iff_mem.mp hk, by simpa [natItem] using hn⟩

theorem optItem_knownTo {code : Nat} (hk : ((requestKeys code).1 ++ (requestKeys code).2).contains k = true) (hn : keyLength k = some n)
    (o : Option Nat) : ∀ i ∈ optItem k n o, i.knownTo code := by
  cases o with
  | none => simp [optItem]
  | some v => simpa [optItem] using natItem_knownTo hk hn

theorem segmentItem_knownTo {code : Nat} (hk : ((requestKeys code).1 ++ (requestKeys code).2).contains k = true) (hn : keyLength k = some 6)
    (gs : List Segment) : ∀ i ∈ gs.map (segmentItem k), i.knownTo code := by
  simp only [List.forall_mem_map]
  exact fun g _ => ⟨List.contains_iff_mem.mp hk, by simpa [segmentItem] using hn⟩

theorem countKey_append (items more : List RawItem) (key : Nat) :
    countKey (items ++ more) key = countKey items key + countKey more key := List.countP_append

/-- Items whose keys are taken from a list without repetition. -/
theorem countKey_le_one {keys : List Nat} (h : (items.map RawItem.key).Sublist keys) (hn : keys.Nodup) (key : Nat) :
    countKey items key ≤ 1 := by
  have hcount : countKey items key = (items.map RawItem.key).count key := by
    rw [List.count, List.countP_map]
    rfl
  rw [hcount]
  exact List.nodup_iff_count_le_one.mp (hn.sublist h) key

theorem optItem_keys (k n : Nat) (o : Option Nat) : ((optItem k n o).map RawItem.key).Sublist [k] := by
  cases o with
  | none => exact List.nil_sublist _
  | some v => exact List.Sublist.refl _

theorem countKey_segments (h : k ≠ key) (gs : List Segment) : countKey (gs.map (segmentItem k)) key = 0 := by
  simp [countKey, segmentItem, h]

/-- The request carries its items of the keys and lengths of its code. -/
theorem Request.items_known (r : Request) : ∀ i ∈ r.items, i.knownTo r.code := by
  cases r with
  | openSession d h =>
    exact List.forall_mem_append.mpr ⟨optItem_knownTo rfl rfl d, optItem_knownTo rfl rfl h⟩
  | closeSession | rstl | rstp | nget | jlst => exact fun i hi => nomatch hi
  | nsub | nack | wrel | wget | sclr | sget | jpau | jres | jcan | jget =>
    exact List.forall_mem_singleton.mpr (natItem_knownTo rfl rfl)
  | wset a =>
    simp only [Request.items, List.forall_mem_append, List.forall_mem_cons]
    exact ⟨⟨⟨⟨⟨⟨natItem_knownTo rfl rfl, natItem_knownTo rfl rfl, natItem_knownTo rfl rfl,
      natItem_knownTo rfl rfl, natItem_knownTo rfl rfl, fun i hi => nomatch hi⟩,
      optItem_knownTo rfl rfl _⟩, optItem_knownTo rfl rfl _⟩, optItem_knownTo rfl rfl _⟩,
      optItem_knownTo rfl rfl _⟩, optItem_knownTo rfl rfl _⟩
  | spwr n p f =>
    simp only [Request.items, List.forall_mem_append, List.forall_mem_cons]
    refine ⟨⟨natItem_knownTo rfl rfl, natItem_knownTo rfl rfl, fun i hi => nomatch hi⟩, ?_⟩
    cases f with
    | false => exact fun i hi => nomatch hi
    | true => exact List.forall_mem_singleton.mpr ⟨List.contains_iff_mem.mp rfl, rfl⟩
  | scfg n v =>
    simp only [Request.items, List.forall_mem_cons]
    exact ⟨natItem_knownTo rfl rfl, natItem_knownTo rfl rfl, fun i hi => nomatch hi⟩
  | jsub a =>
    simp only [Request.items, List.forall_mem_append, List.forall_mem_cons]
    exact ⟨⟨⟨⟨⟨natItem_knownTo rfl rfl, natItem_knownTo rfl rfl, natItem_knownTo rfl rfl,
      fun i hi => nomatch hi⟩, optItem_knownTo rfl rfl _⟩, optItem_knownTo rfl rfl _⟩,
      segmentItem_knownTo rfl rfl _⟩, segmentItem_knownTo rfl rfl _⟩

/-- No key but the lists' stands twice. -/
theorem Request.items_once (r : Request) (h5 : key ≠ 0x45) (h6 : key ≠ 0x46) : countKey r.items key ≤ 1 := by
  cases r with
  | openSession d h =>
    refine countKey_le_one (keys := [0x02] ++ [0x03]) ?_ (by decide) key
    rw [Request.items, List.map_append]
    exact (optItem_keys _ _ d).append (optItem_keys _ _ h)
  | closeSession | rstl | rstp | nget | jlst => exact Nat.zero_le 1
  | nsub | nack | wrel | wget | sclr | sget | jpau | jres | jcan | jget =>
    exact List.countP_le_length.trans (Nat.le_refl 1)
  | wset a =>
    refine countKey_le_one (keys := [0x10, 0x12, 0x13, 0x14, 0x15] ++ [0x16] ++ [0x17] ++ [0x18] ++ [0x19] ++ [0x1A]) ?_
      (by decide) key
    simp only [Request.items, List.map_append]
    exact (((((List.Sublist.refl _).append (optItem_keys _ _ _)).append (optItem_keys _ _ _)).append
      (optItem_keys _ _ _)).append (optItem_keys _ _ _)).append (optItem_keys _ _ _)
  | spwr n p f =>
    refine countKey_le_one (keys := [0x14, 0x20] ++ [0x21]) ?_ (by decide) key
    simp only [Request.items, List.map_append]
    refine (List.Sublist.refl _).append ?_
    cases f with
    | false => exact List.nil_sublist _
    | true => exact List.Sublist.refl _
  | scfg n v => exact countKey_le_one (keys := [0x14, 0x22]) (List.Sublist.refl _) (by decide) key
  | jsub a =>
    rw [Request.items, countKey_append, countKey_append, countKey_segments h5.symm, countKey_segments h6.symm]
    refine countKey_le_one (keys := [0x40, 0x41, 0x42] ++ [0x43] ++ [0x44]) ?_ (by decide) key
    simp only [List.map_append]
    exact ((List.Sublist.refl _).append (optItem_keys _ _ _)).append (optItem_keys _ _ _)

/-- Every required key of its code is there. -/
theorem Request.items_required (r : Request) : ∀ k ∈ (requestKeys r.code).1, ∃ i ∈ r.items, i.key = k := by
  cases r <;> simp [requestKeys, Request.code, Request.items, natItem]

/-- What a host builds for a request passes the checks of its code. -/
theorem Request.items_formatOk (r : Request) : formatOk r.code r.items = true :=
  (formatOk_iff _ _).mpr ⟨r.items_known, fun _ _ h5 h6 => r.items_once h5 h6, r.items_required⟩

/-- The items of a request whose values fit are read as that request. -/
theorem Request.requestOf_items (r : Request) (h : r.wellFormed = true) : requestOf r.code r.items = some r := by
  cases r with
  | openSession d k =>
    simp only [Request.wellFormed, Bool.and_eq_true] at h
    simp [requestOf, Request.code, Request.items, itemValue_append, itemValue_optItem h.1, itemValue_optItem h.2]
  | closeSession | rstl | rstp | nget | jlst => rfl
  | nsub m | nack m =>
    have hfits : fits 4 m.toNat = true := fits_iff.mpr m.isLt
    simp [requestOf, Request.code, Request.items, itemGet, itemValue_natItem hfits]
  | wset a =>
    simp only [Request.wellFormed, WsetArgs.wellFormed, Bool.and_eq_true] at h
    obtain ⟨⟨⟨⟨⟨⟨⟨⟨⟨hindex, hbase⟩, hsize⟩, hslot⟩, hoffset⟩, hA⟩, hB⟩, hwaits⟩, hlimit⟩, hretries⟩ := h
    simp [requestOf, Request.code, Request.items, itemGet, itemValue_append, itemValue_natItem hindex, itemValue_natItem hbase,
      itemValue_natItem hsize, itemValue_natItem hslot, itemValue_natItem hoffset, itemValue_optItem hA,
      itemValue_optItem hB, itemValue_optItem hwaits, itemValue_optItem hlimit, itemValue_optItem hretries]
  | wrel n | wget n | sclr n | sget n | jpau n | jres n | jcan n | jget n =>
    simp [requestOf, Request.code, Request.items, itemGet, itemValue_natItem h]
  | spwr n p f =>
    simp only [Request.wellFormed, Bool.and_eq_true] at h
    have hforce : countKey (Request.spwr n p f).items 0x21 = if f then 1 else 0 := by cases f <;> rfl
    have hslot : itemValue (Request.spwr n p f).items 0x14 = some n := by
      simp [Request.items, itemValue_natItem h.1]
    have hpower : itemValue (Request.spwr n p f).items 0x20 = some p := by
      simp [Request.items, itemValue_natItem h.1, itemValue_natItem h.2]
    cases f <;> simp [requestOf, Request.code, itemGet, hslot, hpower, hforce]
  | scfg n v =>
    simp only [Request.wellFormed, Bool.and_eq_true] at h
    simp [requestOf, Request.code, Request.items, itemGet, itemValue_natItem h.1, itemValue_natItem h.2]
  | jsub a =>
    simp only [Request.wellFormed, JsubArgs.wellFormed, Bool.and_eq_true, List.all_eq_true] at h
    obtain ⟨⟨⟨⟨⟨⟨htag, hkind⟩, hsize⟩, hflags⟩, hprimary⟩, hdestination⟩, -⟩ := h
    have hpattern : fitsOpt 2 (a.pattern.map BitVec.toNat) = true := by
      cases a.pattern with
      | none => rfl
      | some v => exact fits_iff.mpr v.isLt
    have hread : a.pattern.map (BitVec.ofNat 16 ∘ BitVec.toNat) = a.pattern := by
      cases a.pattern <;> simp
    simp [requestOf, Request.code, Request.items, itemGet, itemValue_append, itemValue_natItem htag, itemValue_natItem hkind,
      itemValue_natItem hsize, itemValue_optItem hflags, itemValue_optItem hpattern, itemValue_segments,
      itemSegments_append, itemSegments_natItem, itemSegments_optItem, itemSegments_other, hread,
      itemSegments_same hprimary, itemSegments_same hdestination]

theorem Request.items_fitBytes (r : Request) : ∀ i ∈ r.items, i.fitsBytes := fun i hi => by
  obtain ⟨hkey, hlen⟩ := r.items_known i hi
  refine ⟨?_, keyLength_lt hlen⟩
  have hall : ∀ code, ∀ k ∈ (requestKeys code).1 ++ (requestKeys code).2, k < 256 := fun code => by
    simp only [requestKeys]
    split <;> decide
  exact hall _ _ hkey

/-- The items of a well-formed request in any order that keeps the lists'. -/
theorem Request.parse_perm (h : r.wellFormed = true) (hperm : items.Perm r.items)
    (hlist : ∀ key ∈ [0x45, 0x46], items.filter (fun i => i.key = key) = r.items.filter (fun i => i.key = key)) :
    parseRequest r.code (rawBytes items) = some r := by
  refine parseRequest_eq_some.mpr ⟨items, rfl, fun i hi => r.items_fitBytes i (hperm.mem_iff.mp hi), ?_, ?_⟩
  · rw [formatOk_perm hperm]
    exact r.items_formatOk
  · rw [requestOf_congr (filter_key_perm r.items_formatOk hperm hlist)]
    exact r.requestOf_items h

theorem Request.parse_payload (h : r.wellFormed = true) : parseRequest r.code r.payload = some r :=
  Request.parse_perm h (.refl _) fun _ _ => rfl

end

/-- Settles O12: the checks of each row of the table, and the items of a request in any order. -/
theorem requestPayloadsReadBack : Obligations.RequestPayloadsReadBack := by
  refine ⟨fun code required optional hrow payload => ?_, fun r hr => ⟨Request.parse_payload hr, fun items hperm hlist =>
    Request.parse_perm hr hperm hlist⟩⟩
  have htable : KeyTable code required optional := by
    simp only [List.mem_cons, Prod.mk.injEq, List.not_mem_nil, or_false] at hrow
    rcases hrow with ⟨rfl, rfl, rfl⟩ | ⟨rfl, rfl, rfl⟩ | ⟨rfl, rfl, rfl⟩ | ⟨rfl, rfl, rfl⟩ | ⟨rfl, rfl, rfl⟩ |
      ⟨rfl, rfl, rfl⟩ | ⟨rfl, rfl, rfl⟩ | ⟨rfl, rfl, rfl⟩ | ⟨rfl, rfl, rfl⟩ | ⟨rfl, rfl, rfl⟩ | ⟨rfl, rfl, rfl⟩ |
      ⟨rfl, rfl, rfl⟩ | ⟨rfl, rfl, rfl⟩ | ⟨rfl, rfl, rfl⟩ | ⟨rfl, rfl, rfl⟩ | ⟨rfl, rfl, rfl⟩ | ⟨rfl, rfl, rfl⟩ |
      ⟨rfl, rfl, rfl⟩ | ⟨rfl, rfl, rfl⟩ | ⟨rfl, rfl, rfl⟩ <;> exact keyTable_of_row rfl rfl fun _ => rfl
  exact htable.passes payload

end Sys2Proof.Machine
end

section
/-! PROOFS. What the arrival of a request frame does (R160, R162 to R164). -/

namespace Sys2Proof.Machine

/-! The length of a request's payload (R160) -/

section
variable {r : Request} {k n v : Nat}

theorem rawBytes_append (items more : List RawItem) : rawBytes (items ++ more) = rawBytes items ++ rawBytes more :=
  List.flatMap_append

theorem rawBytes_natItem_length (k n v : Nat) (items : List RawItem) :
    (rawBytes (natItem k n v :: items)).length = n + 2 + (rawBytes items).length := by
  rw [rawBytes_cons]
  simp [natItem]
  omega

theorem rawBytes_optItem_length (k n : Nat) (o : Option Nat) :
    (rawBytes (optItem k n o)).length = if o.isSome then n + 2 else 0 := by
  cases o with
  | none => rfl
  | some v => exact rawBytes_natItem_length k n v []

theorem rawBytes_optItem_length_le (k n : Nat) (o : Option Nat) : (rawBytes (optItem k n o)).length ≤ n + 2 := by
  rw [rawBytes_optItem_length]
  split <;> omega

theorem rawBytes_segments_length (k : Nat) (gs : List Segment) : (rawBytes (gs.map (segmentItem k))).length = 8 * gs.length := by
  induction gs with
  | nil => rfl
  | cons g gs ih =>
    rw [List.map_cons, rawBytes_cons]
    simp [segmentItem, ih]
    omega

/-- The payload of a well-formed request fits a REQ frame. -/
theorem Request.payload_length_le (h : r.wellFormed = true) : r.payload.length ≤ 512 := by
  change (rawBytes r.items).length ≤ 512
  have hopt := rawBytes_optItem_length_le
  cases r with
  | openSession d k =>
    rw [Request.items, rawBytes_append, List.length_append]
    have := hopt 0x02 2 d
    have := hopt 0x03 2 k
    omega
  | closeSession | rstl | rstp | nget | jlst => exact Nat.zero_le _
  | nsub | nack | wrel | wget | sclr | sget | jpau | jres | jcan | jget =>
    rw [Request.items, rawBytes_natItem_length]
    decide
  | wset a =>
    simp only [Request.items, rawBytes_append, List.length_append, rawBytes_natItem_length]
    have := hopt 0x16 1 a.rightsA
    have := hopt 0x17 1 a.rightsB
    have := hopt 0x18 1 a.waits
    have := hopt 0x19 2 a.limit
    have := hopt 0x1A 1 a.retries
    change _ + (_ + (_ + (_ + (_ + 0)))) + _ + _ + _ + _ + _ ≤ 512
    omega
  | spwr n p f =>
    simp only [Request.items, rawBytes_append, List.length_append, rawBytes_natItem_length]
    cases f <;> decide
  | scfg n v =>
    simp only [Request.items, rawBytes_natItem_length]
    decide
  | jsub a =>
    simp only [Request.wellFormed, JsubArgs.wellFormed, Bool.and_eq_true, decide_eq_true_eq] at h
    have hmax : a.payloadBytes ≤ 512 := h.2
    simp only [JsubArgs.payloadBytes] at hmax
    simp only [Request.items, rawBytes_append, List.length_append, rawBytes_natItem_length, rawBytes_segments_length,
      rawBytes_optItem_length, Option.isSome_map]
    change _ + (_ + (_ + 0)) + _ + _ + _ + _ ≤ 512
    split at hmax <;> split at hmax <;> simp_all <;> omega

end

/-! The arrival of a frame at a hunting framer (R160, R162) -/

section
variable {s : State} {l : Link} {c : Instr} {r : Request} {f : ReqFrame} {payload : List Byte}

/-- A framer that hunts and receives: no BREAK, no frame in reception. -/
structure LinkState.receiving (x : LinkState) : Prop where
  unbroken : x.breakDetected = false
  framer : x.framer = .hunt
  gap : x.gapTimer = .stopped

theorem LinkState.receiving.hunt {x : LinkState} (h : x.receiving) : x.hunt = x := by
  obtain ⟨-, hf, hg⟩ := h
  cases x
  simp only at hf hg
  subst hf hg
  rfl

theorem State.onLink_self {g : LinkState → LinkState} (h : g (s.link l) = s.link l) : s.onLink l g = s := by
  rw [State.onLink, h]
  cases l <;> rfl

theorem State.wholeFrame_of_receiving (h : (s.link l).receiving) {kind tag : Byte} {limit : Nat} (hlen : payload.length ≤ limit) :
    s.wholeFrame l kind tag limit payload =
      if kind = kindREQ then s.requestArrives l ⟨tag, payload⟩ else s.dataFrameArrives l tag payload := by
  rw [State.wholeFrame, h.unbroken, if_neg Bool.false_ne_true, if_neg (Nat.not_lt.mpr hlen), State.frameArrives]
  simp only [State.onLink_self h.hunt]

theorem exec_reqFrame (h0 : s.inReset = false) (h : (s.link l).receiving) (code : Byte)
    (hlen : payload.length ≤ Config.requestPayloadMax) :
    exec (.reqFrameArrives l code payload) s = .next (s.requestArrives l ⟨code, payload⟩).kick := by
  change Host.Outcome.next (event s _) = _
  rw [event_of_running h0, State.wholeFrame_of_receiving h hlen, if_pos rfl]

theorem exec_datFrame (h0 : s.inReset = false) (h : (s.link l).receiving) (tag : Byte)
    (hlen : payload.length ≤ Config.dataPayloadMax) :
    exec (.datFrameArrives l tag payload) s = .next (s.dataFrameArrives l tag payload).kick := by
  change Host.Outcome.next (event s _) = _
  rw [event_of_running h0, State.wholeFrame_of_receiving h hlen, if_neg (by decide)]

/-! A request frame waits, overruns the intake, or is served at once (R162 to R164) -/

theorem State.requestArrives_of_pending (h : (s.link l).session = .resetPending) (f : ReqFrame) : s.requestArrives l f = s := by
  rw [State.requestArrives, if_pos h]

theorem State.requestArrives_of_full (hs : (s.link l).session ≠ .resetPending) 
    (h : Config.intakeMax ≤ (s.link l).intake.length) (f : ReqFrame) :
    s.requestArrives l f = s.onLink l (LinkState.raise .intakeOverrun) := by
  rw [State.requestArrives, if_neg hs, if_neg (Nat.not_lt.mpr h)]

/-- Without a free reply place the frame waits. -/
theorem State.requestArrives_of_wait (hs : (s.link l).session ≠ .resetPending) (h : (s.link l).intake.length < Config.intakeMax)
    (hr : 4 ≤ (s.link l).replies) (f : ReqFrame) :
    s.requestArrives l f = s.onLink l (fun x => { x with intake := x.intake ++ [f] }) := by
  rw [State.requestArrives, if_neg hs, if_pos h]
  have hcan : ((s.onLink l (fun x => { x with intake := x.intake ++ [f] })).link l).canHandOn = false := by
    rw [Bool.eq_false_iff, Ne, LinkState.canHandOn_iff, State.onLink_link]
    exact fun hc => absurd hc.1 (Nat.not_lt.mpr hr)
  rw [State.handOff]
  split
  next => rfl
  next => rw [hcan, if_neg Bool.false_ne_true]

/-- With an empty intake and a free reply place the frame is served at once. -/
theorem State.requestArrives_of_free (hs : (s.link l).session ≠ .resetPending) (hi : (s.link l).intake = [])
    (hr : (s.link l).replies < 4) (f : ReqFrame) : s.requestArrives l f = s.serve l f := by
  have hlink : ((s.onLink l (fun x => { x with intake := x.intake ++ [f] })).link l).intake = [f] := by
    rw [State.onLink_link]
    exact congrArg (· ++ [f]) hi
  have hcan : ((s.onLink l (fun x => { x with intake := x.intake ++ [f] })).link l).canHandOn = true := by
    rw [State.onLink_link]
    exact LinkState.canHandOn_iff.mpr ⟨hr, hs⟩
  have hback : (s.onLink l (fun x => { x with intake := x.intake ++ [f] })).onLink l (fun x => { x with intake := [] }) = s := by
    rw [State.onLink_onLink]
    refine State.onLink_self ?_
    rw [← hi]
  rw [State.requestArrives, if_neg hs, hi, if_pos (by decide), State.handOff, hlink]
  simp only [hcan, if_true, hback]

theorem State.serve_of_unknown {code : Byte} (h : code.toNat ∉ knownCodes) (payload : List Byte) :
    s.serve l ⟨code, payload⟩ = s.reply l code.toNat .unknownRequest [] := by
  have hk : knownCode code = false := by simpa [knownCode] using h
  simp only [State.serve, hk, Bool.false_eq_true, if_false, State.refuse]

theorem State.serve_of_known {code : Byte} (h : code.toNat ∈ knownCodes) (payload : List Byte) :
    s.serve l ⟨code, payload⟩ = s.answer l code.toNat (fun t => t.takePayload l code.toNat payload) := by
  have hk : knownCode code = true := by simpa [knownCode] using h
  simp only [State.serve, hk, if_true]

theorem Request.code_mem (r : Request) : r.code ∈ knownCodes := by
  cases r <;> simp [Request.code, knownCodes]

theorem Request.code_toNat (r : Request) : (BitVec.ofNat 8 r.code).toNat = r.code := by
  cases r <;> rfl

/-- A request frame that passes the checks of its code is its request, once it is handed on. -/
theorem State.serve_of_parsed (h : parseRequest r.code payload = some r) :
    s.serve l ⟨BitVec.ofNat 8 r.code, payload⟩ = s.answer l r.code (fun t => t.takeRequest l r) := by
  rw [State.serve_of_known (by rw [Request.code_toNat]; exact r.code_mem), Request.code_toNat]
  simp only [State.takePayload, h]

theorem State.reply_kick (code : Byte) (k : ReplyCode) (items : List Item) :
    (s.reply l code.toNat k items).kick = s.answered l code k items := by
  rw [State.reply, BitVec.ofNat_toNat, BitVec.setWidth_eq]
  rfl

theorem exec_of_handOn (h0 : s.inReset = false) (hcan : (s.link l).canHandOn = true) (hc : r.command l = some c) :
    exec c s = .next (s.answer l r.code (fun t => t.takeRequest l r)).kick := by
  rw [exec_of_command hc, handed, if_pos hcan, event_of_running h0]

end

/-- Settles O13: the frame is served at once, and its payload reads back as the request. -/
theorem requestFramesActAsTheirCommands : Obligations.RequestFramesActAsTheirCommands := by
  intro l r c s hwell hc h0 hs hr hi hb hf hg
  rw [exec_reqFrame h0 ⟨hb, hf, hg⟩ _ (Request.payload_length_le hwell), State.requestArrives_of_free hs hi hr,
    State.serve_of_parsed (Request.parse_payload hwell), exec_of_handOn h0 (LinkState.canHandOn_iff.mpr ⟨hr, hs⟩) hc]

/-- Settles O44: the cases of an arrival by session, intake and reply places. -/
theorem requestsWaitAreLostOrAnswered : Obligations.RequestsWaitAreLostOrAnswered := by
  intro l s h0
  refine ⟨fun hr => ⟨fun r c hc hopen hrstl hs => ?_, fun code hcode hs => ?_⟩, fun code payload hlen hb hf hg => ?_⟩
  · have htaken : takenClosed r.code = false := by simp [takenClosed, hopen, hrstl]
    rw [exec_of_command hc, handed_of_closed h0 hs hr htaken]
    rfl
  · have hknown : knownCode code = false := by simpa [knownCode] using hcode
    have hcan : (s.link l).canHandOn = true := LinkState.canHandOn_iff.mpr ⟨hr, hs⟩
    change execUnknownRequest l code s = _
    rw [execUnknownRequest, hcan, hknown, event_of_running h0, State.refuse, State.reply_kick]
    rfl
  · have hexec := exec_reqFrame h0 ⟨hb, hf, hg⟩ code hlen
    refine ⟨fun hs => ?_, fun hs => ⟨fun hfull => ?_, fun hfew hr => ?_, fun hi hr => ⟨fun hcode => ?_, fun hcode hopen hbad => ?_⟩⟩⟩
    · rw [hexec, State.requestArrives_of_pending hs]
    · rw [hexec, State.requestArrives_of_full hs hfull]
    · rw [hexec, State.requestArrives_of_wait hs hfew hr]
    · rw [hexec, State.requestArrives_of_free hs hi hr, State.serve_of_unknown hcode, State.reply_kick]
    · rw [hexec, State.requestArrives_of_free hs hi hr, State.serve_of_known hcode, State.answer_of_open (by simp [hopen]),
        State.takePayload, hbad, State.refuse, State.reply_kick]

end Sys2Proof.Machine
end

section
/-! PROOFS. The framer: what it discards, and a frame received character by character (R157 to R161, R178, R179). -/

namespace Sys2Proof.Machine

/-! The check of a frame (R160) -/

theorem beNat_two (a b : Byte) : beNat [a, b] = 256 * a.toNat + b.toNat := by simp [beNat]

/-- The two bytes that carry a CRC. -/
theorem crc_bytes_iff (w : Half) (a b : Byte) :
    w = BitVec.ofNat 16 (beNat [a, b]) ↔ [a, b] = [(w >>> 8).setWidth 8, w.setWidth 8] := by
  have ha := a.isLt
  have hb := b.isLt
  have hw := w.isLt
  simp only [beNat_two, List.cons.injEq, and_true, ← BitVec.toNat_inj, BitVec.toNat_ofNat, BitVec.toNat_setWidth,
    BitVec.toNat_ushiftRight, Nat.shiftRight_eq_div_pow]
  omega

theorem beBytes_two (n : Nat) : beBytes 2 n = [BitVec.ofNat 8 (n / 256), BitVec.ofNat 8 n] := rfl

/-- The bytes of a frame between the sync byte and the CRC (R178, R179). -/
def frameBody (kind tag : Byte) (payload : List Byte) : List Byte :=
  kind :: tag :: BitVec.ofNat 8 (payload.length / 256) :: BitVec.ofNat 8 payload.length :: payload

theorem frameBytes_eq (kind tag : Byte) (payload : List Byte) :
    frameBytes kind tag payload = Config.sync :: (frameBody kind tag payload ++
      [(crc16 (frameBody kind tag payload) >>> 8).setWidth 8, (crc16 (frameBody kind tag payload)).setWidth 8]) := by
  have hcrc : ∀ w : Half, beBytes 2 w.toNat = [(w >>> 8).setWidth 8, w.setWidth 8] := fun w => by
    refine (crc_bytes_iff w _ _).mp ?_
    have hw := w.isLt
    refine BitVec.eq_of_toNat_eq ?_
    rw [← beBytes_two, beNat_beBytes, BitVec.toNat_ofNat]
    omega
  exact congrArg (fun c => Config.sync :: (frameBody kind tag payload ++ c)) (hcrc _)

section
variable {kind tag : Byte} {limit : Nat} {payload : List Byte}

theorem payloadMax_le (h : payloadMax kind = some limit) : limit ≤ 2050 := by
  simp only [payloadMax] at h
  split at h
  next => cases h; decide
  next =>
    split at h
    next => cases h; decide
    next => cases h

/-- The length bytes of a frame name its payload's length. -/
theorem lengthBytes_eq (h : payload.length ≤ 2050) :
    beNat [BitVec.ofNat 8 (payload.length / 256), BitVec.ofNat 8 payload.length] = payload.length := by
  rw [← beBytes_two, beNat_beBytes]
  exact Nat.mod_eq_of_lt (by omega)

/-- A whole frame arrives if its CRC bytes are those of its body, and is discarded if not. -/
theorem checkFrame_of_whole (hk : payloadMax kind = some limit) (hlen : payload.length ≤ limit) (first last : Byte) :
    checkFrame (frameBody kind tag payload ++ [first, last]) =
      if crc16 (frameBody kind tag payload) = BitVec.ofNat 16 (beNat [first, last]) then .arrived kind tag payload
      else .discard := by
  have hn := lengthBytes_eq (hlen.trans (payloadMax_le hk))
  simp only [checkFrame, frameBody, List.cons_append, hk, checkRest, hn, Nat.not_lt.mpr hlen, if_false,
    List.length_append, List.length_cons, List.length_nil, Nat.lt_irrefl, List.take_left', List.drop_left',
    List.nil_append]
  rfl

/-- A frame that is not whole goes on. -/
theorem checkFrame_of_prefix (hk : payloadMax kind = some limit) (hlen : payload.length ≤ limit) {taken more crc : List Byte}
    (hcrc : crc.length = 2) (h : taken ++ more = frameBody kind tag payload ++ crc) (hmore : more ≠ []) :
    checkFrame taken = .goOn := by
  have hn := lengthBytes_eq (hlen.trans (payloadMax_le hk))
  match taken, h with
  | [], _ => rfl
  | [a], h =>
    obtain ⟨rfl, -⟩ := List.cons.inj h
    simp [checkFrame, hk]
  | [a, b], h =>
    obtain ⟨rfl, -⟩ := List.cons.inj h
    simp [checkFrame, hk]
  | [a, b, c], h =>
    obtain ⟨rfl, -⟩ := List.cons.inj h
    simp [checkFrame, hk]
  | a :: b :: c :: d :: rest, h =>
    simp only [frameBody, List.cons_append, List.cons.injEq] at h
    obtain ⟨rfl, rfl, rfl, rfl, hrest⟩ := h
    have hshort : rest.length < payload.length + 2 := by
      have hlength := congrArg List.length hrest
      have hpos := List.length_pos_iff.mpr hmore
      simp only [List.length_append, hcrc] at hlength
      omega
    simp only [checkFrame, hk, checkRest, hn, Nat.not_lt.mpr hlen, if_false, hshort, if_true]

theorem checkFrame_of_kind (h1 : kind ≠ 0x01) (h4 : kind ≠ 0x04) (taken : List Byte) :
    checkFrame (kind :: taken) = .discard := by
  have hk : payloadMax kind = none := (if_neg h1).trans (if_neg h4)
  simp [checkFrame, hk]

theorem checkFrame_of_long (hk : payloadMax kind = some limit) {high low : Byte} (h : limit < 256 * high.toNat + low.toNat) :
    checkFrame [kind, tag, high, low] = .discard := by
  simp [checkFrame, hk, checkRest, beNat_two, h]

end

/-! A character at the framer (R158 to R161) -/

section
variable {s : State} {l : Link} {levels : LineLevels} {taken : List Byte}

theorem exec_levels (h0 : s.inReset = false) (levels : LineLevels) :
    exec (.characterReceived l levels) s = .next (s.levelsArrive l levels).kick :=
  congrArg Host.Outcome.next (event_of_running h0 _)

theorem State.levelsArrive_byte (s : State) (l : Link) (b : Byte) :
    s.levelsArrive l (serialOf b) = s.characterArrives l (.byte b) := by
  rw [State.levelsArrive, receiveCharacter_serialOf]

theorem State.levelsArrive_error (hstart : levels.getLsbD 0 = false) (hstop : levels.getLsbD 9 = false) :
    s.levelsArrive l levels = s.characterArrives l .error := by
  have hc : receiveCharacter levels = some .error := by
    rw [receiveCharacter, hstart, hstop]
    rfl
  rw [State.levelsArrive, hc]

theorem State.levelsArrive_idle (hstart : levels.getLsbD 0 = true) : s.levelsArrive l levels = s := by
  have hc : receiveCharacter levels = none := by
    rw [receiveCharacter, hstart]
    rfl
  rw [State.levelsArrive, hc]

theorem State.levelsArrive_broken (hb : (s.link l).breakDetected = true) (levels : LineLevels) : s.levelsArrive l levels = s := by
  rw [State.levelsArrive]
  split
  next => rfl
  next => simp only [State.characterArrives, hb, if_true]

theorem State.characterArrives_inFrame (hb : (s.link l).breakDetected = false) (hf : (s.link l).framer = .inFrame taken)
    (b : Byte) : s.characterArrives l (.byte b) = s.takeByte l (taken ++ [b]) := by
  simp only [State.characterArrives, hb, hf, Bool.false_eq_true, if_false]

theorem State.characterArrives_error (hb : (s.link l).breakDetected = false) (hf : (s.link l).framer = .inFrame taken) :
    s.characterArrives l .error = s.discardFrame l := by
  simp only [State.characterArrives, hb, hf, Bool.false_eq_true, if_false]

theorem State.characterArrives_hunt (hb : (s.link l).breakDetected = false) (hf : (s.link l).framer = .hunt) (b : Byte) :
    s.characterArrives l (.byte b) = if b = Config.sync then s.takeByte l [] else s := by
  simp only [State.characterArrives, hb, hf, Bool.false_eq_true, if_false]

theorem State.characterArrives_huntError (hb : (s.link l).breakDetected = false) (hf : (s.link l).framer = .hunt) :
    s.characterArrives l .error = s := by
  simp only [State.characterArrives, hb, hf, Bool.false_eq_true, if_false]

/-- In HUNT any levels but the character of the sync byte change nothing. -/
theorem State.levelsArrive_hunt (hb : (s.link l).breakDetected = false) (hf : (s.link l).framer = .hunt)
    (h : levels ≠ serialOf 0xC3) : s.levelsArrive l levels = s := by
  rcases receiveCharacter_cases levels with ⟨hstart, -⟩ | ⟨hstart, hstop, -⟩ | ⟨b, rfl, -⟩
  · exact State.levelsArrive_idle hstart
  · rw [State.levelsArrive_error hstart hstop, State.characterArrives_huntError hb hf]
  · rw [State.levelsArrive_byte, State.characterArrives_hunt hb hf, if_neg]
    rintro rfl
    exact h rfl

theorem State.takeByte_discard (h : checkFrame taken = .discard) : s.takeByte l taken = s.discardFrame l := by
  rw [State.takeByte, h]

theorem State.takeByte_goOn (h : checkFrame taken = .goOn) : s.takeByte l taken = s.onLink l (LinkState.inFrame taken) := by
  rw [State.takeByte, h]
  rfl

theorem State.discardFrame_eq (s : State) (l : Link) :
    s.discardFrame l = (s.setLink l { s.link l with framer := .hunt, gapTimer := .stopped }).onLink l
      (LinkState.raise .framing) := rfl

/-- A byte that makes the bytes taken fail their check. -/
theorem exec_byte_discard (h0 : s.inReset = false) (hb : (s.link l).breakDetected = false)
    (hf : (s.link l).framer = .inFrame taken) {b : Byte} (h : checkFrame (taken ++ [b]) = .discard) :
    exec (.characterReceived l (serialOf b)) s = .next (s.discardFrame l).kick := by
  rw [exec_levels h0, State.levelsArrive_byte, State.characterArrives_inFrame hb hf, State.takeByte_discard h]

end

/-- Settles O46: each fault of a frame makes its check fail; a BREAK and HUNT pass the rest over. -/
theorem faultyFramesAreDiscarded : Obligations.FaultyFramesAreDiscarded := by
  rintro l s h0 hunting rfl
  refine ⟨?_, congrArg Host.Outcome.next (event_of_running h0 _), fun hg => ?_, fun levels hidle => ?_,
    fun hb hf => ⟨fun levels hsync => ?_, ?_⟩⟩
  · rintro c (⟨rfl, hb⟩ | ⟨rfl, hg⟩ | ⟨hb, taken, hf, ⟨levels, rfl, hstart, hstop⟩ | ⟨b, rfl, hbad⟩⟩)
    · change Host.Outcome.next (event s _) = _
      rw [event_of_running h0, hb, if_neg Bool.false_ne_true, State.discardFrame_eq]
    · change Host.Outcome.next (event s _) = _
      rw [event_of_running h0, if_neg hg, State.discardFrame_eq]
    · rw [exec_levels h0, State.levelsArrive_error hstart hstop, State.characterArrives_error hb hf, State.discardFrame_eq]
    · refine exec_byte_discard h0 hb hf ?_
      rcases hbad with ⟨rfl, h1, h4⟩ | ⟨tag, high, rfl, hlong⟩ | ⟨tag, high, rfl, hlong⟩ |
        ⟨body, first, kind, payload, rfl, ⟨tag, rfl⟩, hkind, hcrc⟩
      · exact checkFrame_of_kind h1 h4 []
      · exact checkFrame_of_long rfl hlong
      · exact checkFrame_of_long rfl hlong
      · have hwhole : ∀ limit, payloadMax kind = some limit → payload.length ≤ limit →
            checkFrame (frameBody kind tag payload ++ [first, b]) = .discard := fun limit hk hlen => by
          rw [checkFrame_of_whole hk hlen, if_neg]
          exact fun h => hcrc ((crc_bytes_iff _ _ _).mp h)
        rw [List.append_assoc]
        rcases hkind with ⟨rfl, hlen⟩ | ⟨rfl, hlen⟩
        · exact hwhole _ rfl hlen
        · exact hwhole _ rfl hlen
  · change Host.Outcome.next (event s _) = _
    rw [event_of_running h0, if_pos hg]
  · rw [exec_levels h0]
    rcases hidle with hb | hstart
    · rw [State.levelsArrive_broken hb]
    · rw [State.levelsArrive_idle hstart]
  · rw [exec_levels h0, State.levelsArrive_hunt hb hf hsync]
  · rw [exec_levels h0, State.levelsArrive_byte, State.characterArrives_hunt hb hf, if_pos (by decide), State.takeByte_goOn rfl]
    rfl

/-! A frame received character by character (R157, R158, R160) -/

section
variable {s : State} {l : Link} {kind tag : Byte} {limit : Nat} {payload : List Byte}

/-- The commands that bring a run of bytes as characters. -/
def characters (l : Link) (bytes : List Byte) : List Instr := bytes.map (fun b => .characterReceived l (serialOf b))

/-- The state inside a frame, the bytes to come in the queue. -/
def State.inside (s : State) (l : Link) (taken more : List Byte) : State :=
  ({ s with pending := characters l more } : State).onLink l (LinkState.inFrame taken)

theorem State.inside_kick (h : s.kick = s) (l : Link) (taken more : List Byte) : (s.inside l taken more).kick = s.inside l taken more := by
  have hcomm : (s.inside l taken more).kick = s.kick.inside l taken more := by cases l <;> rfl
  rw [hcomm, h]

theorem State.inside_link (s : State) (l : Link) (taken more : List Byte) :
    (s.inside l taken more).link l = (s.link l).inFrame taken := by cases l <;> rfl

/-- The next byte of a frame is taken from the queue. -/
theorem step_inside (h0 : s.inReset = false) (hb : (s.link l).breakDetected = false) (taken : List Byte) (b : Byte)
    (more : List Byte) : step (s.inside l taken (b :: more)) = .next ((s.inside l taken more).takeByte l (taken ++ [b])).kick := by
  have hpending : (s.inside l taken (b :: more)).pending = .characterReceived l (serialOf b) :: characters l more := by
    cases l <;> rfl
  have hrest : ({ s.inside l taken (b :: more) with pending := characters l more } : State) = s.inside l taken more := by
    cases l <;> rfl
  have h0' : (s.inside l taken more).inReset = false := by cases l <;> exact h0
  rw [step, hpending]
  simp only [hrest]
  rw [exec_levels h0', State.levelsArrive_byte,
    State.characterArrives_inFrame (by rw [State.inside_link]; exact hb) (by rw [State.inside_link]; rfl)]

theorem State.inside_goOn (s : State) (l : Link) (taken taken' more : List Byte) :
    (s.inside l taken more).onLink l (LinkState.inFrame taken') = s.inside l taken' more := by cases l <;> rfl

theorem run_of_next (M : Host.Core) {s t : M.State} (h : M.step s = .next t) (n : Nat) : M.run (n + 1) s = M.run n t := by
  simp only [Host.Core.run, h]

theorem run_succ {t : State} (h : step s = .next t) (n : Nat) :
    Host.Core.run Sys2Proof.core (n + 1) s = Host.Core.run Sys2Proof.core n t := run_of_next Sys2Proof.core h n

/-- The rest of a frame, character by character, does what its arrival does. -/
theorem run_inside (hk : payloadMax kind = some limit) (hlen : payload.length ≤ limit) (h0 : s.inReset = false)
    (hb : (s.link l).breakDetected = false) (hkick : s.kick = s) {crc : List Byte}
    (hcrc : crc = [(crc16 (frameBody kind tag payload) >>> 8).setWidth 8, (crc16 (frameBody kind tag payload)).setWidth 8])
    (more taken : List Byte) (hfull : taken ++ more = frameBody kind tag payload ++ crc) (hmore : more ≠ []) :
    Host.Core.run Sys2Proof.core more.length (s.inside l taken more) =
      .next ((s.inside l (frameBody kind tag payload ++ crc) []).frameArrives l kind tag payload).kick := by
  induction more generalizing taken with
  | nil => exact absurd rfl hmore
  | cons b more ih =>
    have hstep := step_inside h0 hb taken b more
    have hfull' : (taken ++ [b]) ++ more = frameBody kind tag payload ++ crc := by rw [List.append_assoc]; exact hfull
    rw [List.length_cons, run_succ hstep]
    by_cases hlast : more = []
    · subst hlast
      rw [List.append_nil] at hfull'
      have harrived : checkFrame (taken ++ [b]) = .arrived kind tag payload := by
        rw [hfull', hcrc, checkFrame_of_whole hk hlen, if_pos ((crc_bytes_iff _ _ _).mpr rfl)]
      simp only [State.takeByte, harrived]
      refine congrArg (fun t : State => Host.Outcome.next t.kick) ?_
      simp only [State.frameArrives, State.inside, State.onLink_onLink]
      rfl
    · have hgoOn : checkFrame (taken ++ [b]) = .goOn :=
        checkFrame_of_prefix hk hlen (by rw [hcrc]; rfl) hfull' hlast
      rw [State.takeByte_goOn hgoOn, State.inside_goOn, State.inside_kick hkick]
      exact ih _ hfull' hlast

/-- A whole frame's characters, from HUNT, do what its arrival does. -/
theorem run_frame (hk : payloadMax kind = some limit) (hlen : payload.length ≤ limit) (h0 : s.inReset = false)
    (hr : (s.link l).receiving) (hkick : s.kick = s) (hp : s.pending = characters l (frameBytes kind tag payload)) :
    Host.Core.run Sys2Proof.core (payload.length + 7) s =
      .next (({ s with pending := [] } : State).wholeFrame l kind tag limit payload).kick := by
  rw [frameBytes_eq] at hp
  generalize hcrc : [(crc16 (frameBody kind tag payload) >>> 8).setWidth 8, (crc16 (frameBody kind tag payload)).setWidth 8] = crc
    at hp
  have hlength : payload.length + 7 = (frameBody kind tag payload ++ crc).length + 1 := by
    rw [← hcrc]
    simp [frameBody]
  have hstep : step s = .next (s.inside l [] (frameBody kind tag payload ++ crc)) := by
    have h0' : ({ s with pending := characters l (frameBody kind tag payload ++ crc) } : State).inReset = false := h0
    have hlink : ({ s with pending := characters l (frameBody kind tag payload ++ crc) } : State).link l = s.link l := by
      cases l <;> rfl
    rw [step, hp]
    change exec (.characterReceived l (serialOf Config.sync))
      ({ s with pending := characters l (frameBody kind tag payload ++ crc) } : State) = _
    rw [exec_levels h0', State.levelsArrive_byte, State.characterArrives_hunt (by rw [hlink]; exact hr.unbroken)
      (by rw [hlink]; exact hr.framer), if_pos rfl, State.takeByte_goOn rfl]
    exact congrArg Host.Outcome.next (State.inside_kick hkick l _ _)
  rw [hlength, run_succ hstep]
  refine (run_inside hk hlen h0 hr.unbroken hkick hcrc.symm _ [] rfl (by simp)).trans ?_
  refine congrArg (fun t : State => Host.Outcome.next t.kick) ?_
  have hback : (s.inside l (frameBody kind tag payload ++ crc) []).onLink l LinkState.hunt = { s with pending := [] } := by
    rw [State.inside, State.onLink_onLink]
    refine State.onLink_self ?_
    have hlink : ({ s with pending := [] } : State).link l = s.link l := by cases l <;> rfl
    exact hlink ▸ hr.hunt
  have hlink : (({ s with pending := [] } : State).link l).receiving := by
    have hsame : ({ s with pending := [] } : State).link l = s.link l := by cases l <;> rfl
    exact hsame ▸ hr
  rw [State.wholeFrame_of_receiving hlink hlen, State.frameArrives]
  simp only [hback]

end

/-- The levels of a byte's character (R157). -/
theorem serialOf_levels : ∀ b : Byte, (serialOf b).getLsbD 0 = false ∧
    (∀ i, i < 8 → (serialOf b).getLsbD (i + 1) = b.getLsbD i) ∧ (serialOf b).getLsbD 9 = true := by
  decide +kernel

/-- Settles O14: the bits of a character, and the characters of a whole frame. -/
theorem receivedBytesActAsTheirFrame : Obligations.ReceivedBytesActAsTheirFrame := by
  refine ⟨fun b levels => ?_, fun l tag payload s h0 hb hf hg hkick => ⟨fun hlen hp => ?_, fun hlen hp => ?_⟩⟩
  · refine ⟨fun h => h ▸ serialOf_levels b, fun ⟨hstart, hdata, hstop⟩ => BitVec.eq_of_getLsbD_eq fun i hi => ?_⟩
    obtain ⟨hstart', hdata', hstop'⟩ := serialOf_levels b
    rcases i with - | i
    · rw [hstart, hstart']
    · by_cases hlast : i < 8
      · rw [hdata i hlast, hdata' i hlast]
      · obtain rfl : i = 8 := by omega
        rw [hstop, hstop']
  · have h0' : ({ s with pending := [] } : State).inReset = false := h0
    rw [run_frame (kind := 0x01) rfl hlen h0 ⟨hb, hf, hg⟩ hkick hp]
    exact congrArg Host.Outcome.next (event_of_running h0' (fun t => t.wholeFrame l kindREQ tag _ payload)).symm
  · have h0' : ({ s with pending := [] } : State).inReset = false := h0
    rw [run_frame (kind := 0x04) rfl hlen h0 ⟨hb, hf, hg⟩ hkick hp]
    exact congrArg Host.Outcome.next (event_of_running h0' (fun t => t.wholeFrame l kindDAT tag _ payload)).symm

end Sys2Proof.Machine
end

section
/-! PROOFS. The lowest-numbered buffer of a use; the arrival of a DATA frame (R42, R43, R45), and the end of a
transmission (R165). -/

namespace Sys2Proof.Machine

/-! The first of the buffers (log entry 13) -/

/-- The search of the numbers, lowest first, finds the lowest. -/
theorem find?_finRange_eq_some {n : Nat} {p : Fin n → Bool} {b : Fin n} :
    (List.finRange n).find? p = some b ↔ p b = true ∧ ∀ k, k < b → p k = false := by
  have hsorted : (List.finRange n).Pairwise (· < ·) := List.pairwise_lt_finRange n
  rw [List.find?_eq_some_iff_append]
  constructor
  · rintro ⟨hb, as, bs, hsplit, has⟩
    refine ⟨hb, fun k hk => ?_⟩
    have hmem : k ∈ as ++ b :: bs := hsplit ▸ List.mem_finRange k
    rw [hsplit, List.pairwise_append] at hsorted
    rcases List.mem_append.mp hmem with hk' | hk'
    · simpa using has k hk'
    · rcases List.mem_cons.mp hk' with rfl | hk'
      · exact absurd hk (lt_irrefl k)
      · exact absurd (List.rel_of_pairwise_cons hsorted.2.1 hk') (not_lt_of_gt hk)
  · rintro ⟨hb, hlow⟩
    obtain ⟨as, bs, hsplit⟩ := List.append_of_mem (List.mem_finRange b)
    refine ⟨hb, as, bs, hsplit, fun k hk => ?_⟩
    rw [hsplit, List.pairwise_append] at hsorted
    simp [hlow k (hsorted.2.2 k hk b (List.mem_cons_self ..))]

section
variable {s t : State} {l : Link} {b : BufId} {p : BufferUse → Bool} {j : Job} {js : List Job} {e : Entry} {es : List Entry}

theorem State.findUse_eq_some (hb : ∃ u, s.useOf l b = some u ∧ p u = true)
    (hlow : ∀ k, k < b → ∀ u, s.useOf l k = some u → p u = false) : s.findUse l p = some b := by
  refine find?_finRange_eq_some.mpr ⟨(Option.any_eq_true _ _).mpr hb, fun k hk => ?_⟩
  rw [Bool.eq_false_iff, Ne, Option.any_eq_true]
  rintro ⟨u, hu, hp⟩
  simp [hlow k hk u hu] at hp

theorem State.findUse_eq_none : s.findUse l p = none ↔ ∀ b u, s.useOf l b = some u → p u = false := by
  rw [State.findUse, List.find?_eq_none]
  constructor
  · intro h b u hu
    have := h b (List.mem_finRange b)
    simpa [hu] using this
  · intro h b _ hany
    obtain ⟨u, hu, hp⟩ := (Option.any_eq_true _ _).mp hany
    simp [h b u hu] at hp

theorem State.findUse_congr (h : t.buffers = s.buffers) (l : Link) (p : BufferUse → Bool) : t.findUse l p = s.findUse l p := by
  simp only [State.findUse, State.useOf, h]

theorem State.freeBuffer?_eq_some :
    s.freeBuffer? = some b ↔ (s.buffers.get b).holder = .free ∧ ∀ k, k < b → (s.buffers.get k).holder ≠ .free := by
  rw [State.freeBuffer?, bufferIds, find?_finRange_eq_some]
  simp

/-- A buffer freed while no lane waits is FREE. -/
theorem State.freeBuf_of_no_wait (h : s.waitList = []) (b : BufId) : s.freeBuf b = s.setHolder b .free := by
  rw [State.freeBuf, h, giveBuffer]
  have hback : ({ s.setHolder b .free with waitList := s.waitList } : State) = s.setHolder b .free := rfl
  rw [h] at hback
  exact hback

/-- The job at the head of a list is the active one. -/
theorem LinkState.working_of_cons {x : LinkState} (h : x.live = j :: js) {k : Job} : x.working k ↔ k = j ∧ j.state ≠ .queued := by
  rw [LinkState.working, h, List.head?_cons, Option.some_inj]
  exact ⟨fun ⟨hk, hs⟩ => ⟨hk.symm, hk ▸ hs⟩, fun ⟨hk, hs⟩ => ⟨hk.symm, hk ▸ hs⟩⟩

theorem State.working_iff : (s.link l).working j ↔ s.activeJob l = some j := by
  rw [State.activeJob_eq_some, LinkState.working]
  constructor
  · rintro ⟨hhead, hs⟩
    obtain ⟨js, hx⟩ := List.head?_eq_some_iff.mp hhead
    exact ⟨js, hx, hs⟩
  · rintro ⟨js, hx, hs⟩
    exact ⟨by rw [hx]; rfl, hs⟩

/-! A DATA frame in OPEN (R42, R43, R45) -/

theorem State.dataArrives_of_stray {tag : Byte} (h : ∀ j, (s.link l).working j → j.kind ≠ .write ∨ j.tag ≠ tag.toNat)
    (payload : List Byte) : s.dataArrives l tag payload = s.onLink l (LinkState.raise .strayData) := by
  rw [State.dataArrives]
  split
  next => rfl
  next j hj => rw [if_pos (h j (State.working_iff.mpr hj))]

/-- The job after a DATA frame that used a credit, its timer following (R43, R45). -/
theorem Job.consume_retime (hk : j.kind = .write) (n : Nat) :
    j.consume.retime n = { j with
      credits := j.credits - 1
      nextExpected := if j.nextExpected + 1 < j.total then j.nextExpected + 1 else j.nextExpected
      dataTimer := if (j.state = .running ∨ j.state = .pausing) ∧ 1 < j.credits then .running n else .stopped } := by
  have htimed : j.consume.dataTimed = decide ((j.state = .running ∨ j.state = .pausing) ∧ 1 < j.credits) := by
    simp [Job.dataTimed, Job.consume, hk]
  rw [Job.retime, htimed]
  simp only [decide_eq_true_eq]
  rfl

/-- A DATA frame of the active WRITE job with a credit and the expected sequence: the credit is used, and the block is
placed. -/
theorem State.dataArrives_of_good (hx : (s.link l).live = j :: js) (hs : j.state ≠ .queued) (hk : j.kind = .write) {tag : Byte}
    (htag : j.tag = tag.toNat) {payload : List Byte} (hlen : payload.length = 2 + j.blockSize) (hc : 0 < j.credits)
    (hseq : beNat (payload.take 2) = j.nextExpected) :
    s.dataArrives l tag payload = ((s.onLink l (fun x => { x with live := j.consume.retime x.timeout :: js })).placeBlock l j
      (payload.drop 2)).settle l := by
  have hown : ¬ (j.kind ≠ .write ∨ j.tag ≠ tag.toNat) := by simp [hk, htag]
  rw [State.dataArrives, State.activeJob_head hx hs]
  simp only [if_neg hown, hlen, ne_eq, not_true_eq_false, if_false, Nat.pos_iff_ne_zero.mp hc, hseq]
  have htimed : s.onTimedJob l Job.consume = s.onLink l (fun x => { x with live := j.consume.retime x.timeout :: js }) :=
    State.onLink_congr (LinkState.onHead_of_cons hx _)
  rw [htimed]

theorem State.dataArrives_of_length (hx : (s.link l).live = j :: js) (hs : j.state ≠ .queued) (hk : j.kind = .write) {tag : Byte}
    (htag : j.tag = tag.toNat) {payload : List Byte} (hlen : payload.length ≠ 2 + j.blockSize) :
    s.dataArrives l tag payload = s.onLink l (LinkState.raise .framing) := by
  have hown : ¬ (j.kind ≠ .write ∨ j.tag ≠ tag.toNat) := by simp [hk, htag]
  rw [State.dataArrives, State.activeJob_head hx hs]
  simp only [if_neg hown, hlen, ne_eq, not_false_eq_true, if_true]

/-- The block is placed in the lowest-numbered RESERVED buffer, or its buffer is freed or emptied (R43, R52, R53). -/
theorem State.placeBlock_of_reserved (hb : s.useOf l b = some .reserved) (hlow : ∀ k, k < b → s.useOf l k ≠ some .reserved)
    (j : Job) (bytes : List Byte) : s.placeBlock l j bytes =
      if j.state = .cancelling then s.freeBuf b
      else if j.nextExpected < j.nextBlock then s.emptyWriteBuffer l b
      else (s.setHolder b (.lane l (.filled j.tag j.nextExpected))).setBytes b ((s.buffers.get b).bytes.load bytes) := by
  have hfind : s.findUse l BufferUse.isReserved = some b :=
    State.findUse_eq_some ⟨_, hb, rfl⟩ fun k hk u hu => by
      rw [Bool.eq_false_iff, Ne, BufferUse.isReserved_iff]
      rintro rfl
      exact hlow k hk hu
  rw [State.placeBlock, hfind]

/-- A WRITE buffer emptied for a job that grants no credit is freed. -/
theorem State.emptyWriteBuffer_of_freed (hx : (s.link l).live = j :: js) (hs : j.state ≠ .queued)
    (h : ¬ (j.state = .running ∧ 0 < (s.link l).creditRoom j)) (b : BufId) : s.emptyWriteBuffer l b = s.freeBuf b := by
  rw [State.emptyWriteBuffer, State.activeJob_head hx hs]
  exact if_neg h

theorem State.dataFrameArrives_of_open (h : (s.link l).session = .opened) (tag : Byte) (payload : List Byte) :
    s.dataFrameArrives l tag payload = s.dataArrives l tag payload := if_pos h

end

/-- Settles O45: the examination of a DATA frame, and what becomes of its block. -/
theorem dataFramesAreExamined : Obligations.DataFramesAreExamined := by
  intro l tag payload s h0 hlen hbreak hf hg
  have hexec := exec_datFrame h0 ⟨hbreak, hf, hg⟩ tag hlen
  refine ⟨fun hs => ?_, fun hs => ⟨fun hstray => ?_, fun j js hx hq hk htag => ⟨fun hbad => ?_, fun hgood hc hseq b hb hlow u hu => ?_⟩⟩⟩
  · rw [hexec, State.dataFrameArrives, if_neg hs]
  · rw [hexec, State.dataFrameArrives_of_open hs, State.dataArrives_of_stray hstray]
  · rw [hexec, State.dataFrameArrives_of_open hs, State.dataArrives_of_length hx hq hk htag hbad]
  · have hused : s.onLink l (fun x => { x with live := j.consume.retime x.timeout :: js }) = u := by
      rw [hu]
      exact State.onLink_congr (by rw [Job.consume_retime hk]; rfl)
    have hbuffers : u.buffers = s.buffers := by rw [hu, State.onLink_buffers]
    have huse : ∀ k, u.useOf l k = s.useOf l k := fun k => State.useOf_congr (t := u) (s := s) (by rw [hbuffers]) l
    have hplace := State.placeBlock_of_reserved (s := u) (l := l) (b := b) (by rw [huse]; exact hb)
      (fun k hk' => by rw [huse]; exact hlow k hk') j (payload.drop 2)
    rw [hexec, State.dataFrameArrives_of_open hs, State.dataArrives_of_good hx hq hk htag hgood hc hseq, hused, hplace, hbuffers]
    refine ⟨fun hlive hnext => ?_, fun hcancel => ?_, fun hlive hskip => ?_, fun hno hwait => ?_⟩
    · rw [if_neg hlive, if_neg (Nat.not_lt.mpr hnext)]
    · rw [if_pos hcancel]
    · rw [if_neg hlive, if_pos hskip]
    · have hwaitu : u.waitList = [] := by rw [hu, State.onLink_waitList, hwait]
      have hxu := congrArg LinkState.live ((congrArg (State.link · l) hu).trans (State.onLink_link s l _))
      have hfreed : u.emptyWriteBuffer l b = u.freeBuf b ∨ j.state = .cancelling := by
        rcases hno with hcancel | ⟨-, hstop⟩
        · exact .inr hcancel
        · exact .inl (State.emptyWriteBuffer_of_freed hxu hq (fun h => hstop h.1) b)
      by_cases hcancel : j.state = .cancelling
      · rw [if_pos hcancel, State.freeBuf_of_no_wait hwaitu]
      · have hskip : j.nextExpected < j.nextBlock := (hno.resolve_left hcancel).1
        rw [if_neg hcancel, if_pos hskip, hfreed.resolve_right hcancel, State.freeBuf_of_no_wait hwaitu]

/-! The end of a transmission (R165) -/

section
variable {s : State} {l : Link} {e : Entry} {es : List Entry}

/-- The link with the sent entry gone (R165). -/
theorem exec_transmissionEnd (h0 : s.inReset = false) (ht : (s.link l).transmitting = true) (hx : (s.link l).outbound = e :: es)
    (hr : e.isRstpReply = false ∨ (s.link l).session ≠ .resetPending) :
    exec (.transmissionEnd l) s =
      .next ((s.onLink l (fun x => { x with outbound := es, transmitting := false })).placeFreed l e).kick := by
  have hends : ((s.onLink l (fun x => { x with outbound := es, transmitting := false })).link l).endsRstp e = false := by
    rw [State.onLink_link, LinkState.endsRstp]
    rcases hr with hr | hr
    · simp [hr]
    · have : ((s.link l).session == .resetPending) = false := by simpa using hr
      simp [this]
  change Host.Outcome.next (event s _) = _
  rw [event_of_running h0, State.transmissionEnds, ht, hx]
  simp only [hends, Bool.false_eq_true, if_false]

/-- A waiting request is handed on: what it does is its command's outcome. -/
theorem State.handOff_of_request {f : ReqFrame} {rest : List ReqFrame} {r : Request} {c : Instr} (h0 : s.inReset = false)
    (hi : (s.link l).intake = f :: rest) (hcan : (s.link l).canHandOn = true) (hf : f = ⟨BitVec.ofNat 8 r.code, r.payload⟩)
    (hwell : r.wellFormed = true) (hc : r.command l = some c) :
    Host.Outcome.next (s.handOff l).kick = exec c (s.onLink l (fun x => { x with intake := rest })) := by
  have hcan' : ((s.onLink l (fun x => { x with intake := rest })).link l).canHandOn = true := by
    rw [State.onLink_link]
    exact hcan
  have h0' : (s.onLink l (fun x => { x with intake := rest })).inReset = false := by rw [State.onLink_inReset, h0]
  rw [State.handOff, hi]
  simp only [hcan, if_true]
  rw [hf, State.serve_of_parsed (Request.parse_payload hwell), exec_of_handOn h0' hcan' hc]

theorem State.handOff_of_empty (hi : (s.link l).intake = []) : s.handOff l = s := by
  rw [State.handOff, hi]

end

/-- Settles O48: what the class of a freed place does with it, entry by entry. -/
theorem transmissionEndFreesThePlace : Obligations.TransmissionEndFreesThePlace := by
  intro l e es s h0 ht hx u hu
  have hexec : e.isRstpReply = false ∨ (s.link l).session ≠ .resetPending →
      exec (.transmissionEnd l) s = .next (u.placeFreed l e).kick := fun hr => by
    rw [exec_transmissionEnd h0 ht hx hr, hu]
  have hlink : u.link l = { s.link l with outbound := es, transmitting := false } := by rw [hu, State.onLink_link]
  refine ⟨?_, ?_, ?_, fun hreply hs => ?_⟩
  · rintro n rfl
    have hplace : u.placeFreed l (.notice n) = u.onLink l LinkState.overflowNotice := rfl
    rw [hexec (.inl rfl), hplace]
    refine ⟨fun hno => ?_, fun hsome => ?_⟩
    · rw [State.onLink_self]
      rw [LinkState.overflowNotice, hlink, if_pos hno]
    · refine congrArg (fun t : State => Host.Outcome.next t.kick) (State.onLink_congr ?_)
      rw [LinkState.overflowNotice, hlink, if_neg hsome.ne']
      rfl
  · rintro tag sequence size b rfl hwait
    have hplace : u.placeFreed l (.data tag sequence size b) = (u.freeBuf b).settle l := rfl
    rw [hexec (.inl rfl), hplace, State.freeBuf_of_no_wait (by rw [hu, State.onLink_waitList, hwait])]
  · rintro tag n rfl
    rw [hexec (.inl rfl), State.placeFreed]
    refine ⟨fun hno => ?_, fun j hj hsome => ?_⟩
    · split
      next => rfl
      next =>
        rw [State.onLink_self]
        rw [LinkState.pendingCredit, hlink, if_pos hno]
    · have hactive : u.activeJob l = some j := by
        rw [← State.working_iff, hlink]
        exact hj
      rw [hactive]
      refine congrArg (fun t : State => Host.Outcome.next t.kick) (State.onLink_congr ?_)
      rw [LinkState.pendingCredit, hlink, if_neg hsome.ne']
      rfl
  · have hplace : u.placeFreed l e = u.handOff l := by
      cases e with
      | reply | hello => rfl
      | notice | data | credit => cases hreply
    have hint : (u.link l).intake = (s.link l).intake := by rw [hlink]
    rw [hexec (.inr hs), hplace]
    refine ⟨fun hi => ?_, fun r rest c hwell hc hfew hi => ?_⟩
    · rw [State.handOff_of_empty (hint.trans hi)]
    · refine State.handOff_of_request (by rw [hu, State.onLink_inReset, h0]) (hint.trans hi) ?_ rfl hwell hc
      refine LinkState.canHandOn_iff.mpr ⟨?_, by rw [hlink]; exact hs⟩
      rw [hlink]
      exact hfew

end Sys2Proof.Machine
end

section
/-! PROOFS. What a lane does on its own (R11, R33, R34, R37): nothing, its head job's start, or the buffer that its job
needs. -/

namespace Sys2Proof.Machine

/-! The credit place (R41) -/

/-- A CREDIT of the job that waits takes the count. -/
theorem mergeCredit_of_split {tag n count : Nat} {ahead behind : List Entry} (h : ∀ k, Entry.credit tag k ∉ ahead) :
    mergeCredit tag count (ahead ++ .credit tag n :: behind) = some (ahead ++ .credit tag (n + count) :: behind) := by
  induction ahead with
  | nil => exact if_pos rfl
  | cons e ahead ih =>
    have hrest := ih fun k hk => h k (List.mem_cons_of_mem _ hk)
    cases e with
    | credit t k =>
      have hne : t ≠ tag := by
        rintro rfl
        exact h k (List.mem_cons_self ..)
      rw [List.cons_append, mergeCredit, if_neg hne, hrest]
      rfl
    | reply | hello | notice | data =>
      rw [List.cons_append, mergeCredit, hrest] <;> simp

theorem mergeCredit_of_none {tag count : Nat} {es : List Entry} (h : ∀ k, Entry.credit tag k ∉ es) :
    mergeCredit tag count es = none := by
  induction es with
  | nil => rfl
  | cons e es ih =>
    have hrest := ih fun k hk => h k (List.mem_cons_of_mem _ hk)
    cases e with
    | credit t k =>
      have hne : t ≠ tag := by
        rintro rfl
        exact h k (List.mem_cons_self ..)
      rw [mergeCredit, if_neg hne, hrest]
      rfl
    | reply | hello | notice | data =>
      rw [mergeCredit, hrest] <;> simp

section
variable {s t : State} {l m : Link} {b : BufId} {j : Job} {js : List Job} {x : LinkState} {tag n : Nat}

theorem LinkState.offerCredit_of_split {ahead behind : List Entry} (hw : x.waiting = ahead ++ .credit tag n :: behind)
    (h : ∀ k, Entry.credit tag k ∉ ahead) (count : Nat) :
    x.offerCredit tag count = { x with outbound := x.sending ++ (ahead ++ .credit tag (n + count) :: behind) } := by
  rw [LinkState.offerCredit, hw, mergeCredit_of_split h]

theorem LinkState.no_waiting_credit (h : x.creditEntries = 0) (tag k : Nat) : Entry.credit tag k ∉ x.waiting := fun hk => by
  have hpos : 0 < x.creditEntries := List.countP_pos_iff.mpr ⟨_, List.mem_of_mem_drop hk, rfl⟩
  omega

theorem LinkState.offerCredit_of_free (h : x.creditEntries = 0) (tag count : Nat) :
    x.offerCredit tag count = x.push (.credit tag count) := by
  rw [LinkState.offerCredit, mergeCredit_of_none (LinkState.no_waiting_credit h tag)]
  exact if_pos h

theorem LinkState.offerCredit_of_sending (hw : ∀ k, Entry.credit tag k ∉ x.waiting) (h : 0 < x.creditEntries) (count : Nat) :
    x.offerCredit tag count = { x with lane := { x.lane with pendingCredits := x.lane.pendingCredits + count } } := by
  rw [LinkState.offerCredit, mergeCredit_of_none hw]
  exact if_neg h.ne'

/-! The lane's step (R11, R33, R37) -/

theorem State.startCheck_of_busy (h : (s.link l).lane.state ≠ .idle) : s.startCheck l = false := by
  rw [Bool.eq_false_iff, Ne, State.startCheck_iff]
  exact fun hstart => h hstart.1

theorem State.laneStep_of_start (h : s.startCheck l = true) : s.laneStep l = some (s.startJob l) := by
  rw [State.laneStep, if_pos h]

theorem State.laneStep_of_stopping (h : (s.link l).lane.state = .stopping) : s.laneStep l = none := by
  rw [State.laneStep, State.startCheck_of_busy (by simp [h]), if_neg Bool.false_ne_true, h]

theorem State.laneStep_of_idle (h : (s.link l).lane.state = .idle) (hno : s.startCheck l = false) : s.laneStep l = none := by
  rw [State.laneStep, hno, if_neg Bool.false_ne_true, h]

/-- What the lane of a job does while it is BUSY. -/
def State.busyStep (s : State) (l : Link) (j : Job) : Option State :=
  if j.state ≠ .running then none
  else if s.wantsBuffer l && l ∉ s.waitList then some (s.askBuffer l)
  else if s.laneFree l && decide (j.nextBlock < j.total) then (s.readyList l j).map (s.startTransfer l j)
  else none

theorem State.laneStep_of_busy (h : (s.link l).lane.state = .busy) (hj : s.activeJob l = some j) :
    s.laneStep l = s.busyStep l j := by
  rw [State.laneStep, State.startCheck_of_busy (by simp [h]), if_neg Bool.false_ne_true, h, hj]
  rfl

theorem State.laneStep_of_none (h : (s.link l).lane.state = .busy) (hj : s.activeJob l = none) : s.laneStep l = none := by
  rw [State.laneStep, State.startCheck_of_busy (by simp [h]), if_neg Bool.false_ne_true, h, hj]

theorem State.laneStep_of_ask (h : (s.link l).lane.state = .busy) (hj : s.activeJob l = some j) (hs : j.state = .running)
    (hw : s.wantsBuffer l = true) (hl : l ∉ s.waitList) : s.laneStep l = some (s.askBuffer l) := by
  rw [State.laneStep_of_busy h hj, State.busyStep, if_neg (by simp [hs]), if_pos (by simp [hw, hl])]

/-! The buffer that a job needs (R33, R38, R40, R46, R48) -/

theorem State.wantsBuffer_of_active (hj : s.activeJob l = some j) (hs : j.state = .running) (hn : s.jobNeedsBuffer l j = true)
    (hheld : s.heldCount l < 8) : s.wantsBuffer l = true := by
  rw [State.wantsBuffer, hj]
  simp only [hs, hn, Bool.and_eq_true, decide_eq_true_eq]
  exact ⟨hheld, trivial, trivial⟩

/-- The needs of each kind of job, in terms of the uses of the lane's buffers. -/
theorem State.jobNeedsBuffer_of_kind
    (h : (j.kind = .read ∧ j.nextBlock < j.total ∧ (∀ b, s.useOf l b ≠ some .staged) ∧
        (∀ b tag n, s.useOf l b ≠ some (.inTransfer tag n))) ∨
      (j.kind = .copy ∧ (∀ b, s.useOf l b ≠ some .staged) ∧ (∀ b tag n, s.useOf l b ≠ some (.inTransfer tag n)) ∧
        ∀ b tag n, s.useOf l b ≠ some (.loaded tag n)) ∨
      (j.kind = .fill ∧ ∀ b, s.useOf l b ≠ some .pattern) ∨
      (j.kind = .write ∧ j.credits < 4 ∧ (s.link l).lane.blocksCredited < j.total)) : s.jobNeedsBuffer l j = true := by
  rcases h with ⟨hk, hnext, hstaged, htransfer⟩ | ⟨hk, hstaged, htransfer, hloaded⟩ | ⟨hk, hpattern⟩ | ⟨hk, hcredits, hroom⟩
  · have hnone : s.findUse l (fun u => u.isStaged || u.isInTransfer) = none := State.findUse_eq_none.mpr fun b u hu => by
      cases u with
      | staged => exact absurd hu (hstaged b)
      | inTransfer tag n => exact absurd hu (htransfer b tag n)
      | _ => rfl
    simp [State.jobNeedsBuffer, hk, hnext, hnone]
  · have hnone : s.findUse l (fun u => u.isStaged || u.isInTransfer || u.isLoaded) = none :=
      State.findUse_eq_none.mpr fun b u hu => by
        cases u with
        | staged => exact absurd hu (hstaged b)
        | inTransfer tag n => exact absurd hu (htransfer b tag n)
        | loaded tag n => exact absurd hu (hloaded b tag n)
        | _ => rfl
    simp [State.jobNeedsBuffer, hk, hnone]
  · have hnone : s.findUse l BufferUse.isPattern = none := State.findUse_eq_none.mpr fun b u hu => by
      cases u with
      | pattern => exact absurd hu (hpattern b)
      | _ => rfl
    simp [State.jobNeedsBuffer, hk, hnone]
  · have hpos : 0 < min (4 - j.credits) (j.total - (s.link l).lane.blocksCredited) := by omega
    simp only [State.jobNeedsBuffer, hk]
    exact decide_eq_true hpos

theorem State.askBuffer_of_none (h : ∀ b, (s.buffers.get b).holder ≠ .free) (hl : l ∉ s.waitList) :
    s.askBuffer l = { s with waitList := s.waitList ++ [l] } := by
  rw [State.askBuffer, State.freeBuffer?_eq_none.mpr h]
  exact if_neg hl

theorem State.askBuffer_of_free (hb : (s.buffers.get b).holder = .free) (hlow : ∀ k, k < b → (s.buffers.get k).holder ≠ .free)
    (l : Link) : s.askBuffer l = s.assign l b := by
  rw [State.askBuffer, State.freeBuffer?_eq_some.mpr ⟨hb, hlow⟩]

theorem State.assign_staged (hj : s.activeJob l = some j) (hk : j.kind = .read ∨ j.kind = .copy) (b : BufId) :
    s.assign l b = s.setHolder b (.lane l .staged) := by
  rw [State.assign, hj]
  rcases hk with hk | hk <;> simp only [hk]

theorem State.assign_pattern (hj : s.activeJob l = some j) (hk : j.kind = .fill) (b : BufId) :
    s.assign l b = (s.setHolder b (.lane l .pattern)).setBytes b
      ((s.buffers.get b).bytes.load (patternBytes (j.pattern.getD 0) j.blockSize)) := by
  rw [State.assign, hj]
  simp only [hk]

/-- The link that has granted one more credit to its WRITE job, before it is announced (R40, R45). -/
def LinkState.granting (j : Job) (js : List Job) (x : LinkState) : LinkState :=
  { x with
    live := { j with credits := j.credits + 1, dataTimer := .running (x.dataTimeout.getD 1000) } :: js
    lane := { x.lane with blocksCredited := x.lane.blocksCredited + 1 } }

/-- A RUNNING WRITE job's credit runs its data timer. -/
theorem Job.retime_granted (hk : j.kind = .write) (hs : j.state = .running) (n : Nat) :
    ({ j with credits := j.credits + 1 } : Job).retime n = { j with credits := j.credits + 1, dataTimer := .running n } := by
  have htimed : ({ j with credits := j.credits + 1 } : Job).dataTimed = true := by simp [Job.dataTimed, hk, hs]
  rw [Job.retime, htimed]
  rfl

theorem State.assign_reserved (hx : (s.link l).live = j :: js) (hs : j.state = .running) (hk : j.kind = .write) (b : BufId) :
    s.assign l b = (s.setHolder b (.lane l .reserved)).onLink l (fun x => (x.granting j js).offerCredit j.tag 1) := by
  have hx' : ((s.setHolder b (.lane l .reserved)).link l).live = j :: js := by rw [State.setHolder_link]; exact hx
  rw [State.assign, State.activeJob_head hx (by simp [hs])]
  simp only [hk]
  rw [State.grantCredit, State.activeJob_head hx' (by simp [hs])]
  simp only [State.onTimedJob, State.onLink_onLink]
  refine State.onLink_congr ?_
  rw [LinkState.onHead_of_cons hx', Job.retime_granted hk hs]
  rfl

/-! A freed buffer (R34) -/

/-- A buffer freed while lanes wait is offered to the first of them. -/
theorem State.freeBuf_of_wait {rest : List Link} (hw : s.waitList = m :: rest) (hm : m ∉ rest) {u : State}
    (hu : u = { s.setHolder b .free with waitList := rest }) :
    (u.wantsBuffer m = false → s.freeBuf b = u.freeBuf b) ∧
      (u.wantsBuffer m = true → s.freeBuf b =
        if (u.assign m b).wantsBuffer m then { u.assign m b with waitList := rest ++ [m] } else u.assign m b) := by
  have hwait : u.waitList = rest := by rw [hu]
  have hfree : u.setHolder b .free = u := State.setHolder_self (by rw [hu]; exact State.setHolder_holder s b .free)
  have hgive : s.freeBuf b = if u.wantsBuffer m then
      (if (u.assign m b).wantsBuffer m then (u.assign m b).joinWait m else u.assign m b) else giveBuffer rest b u := by
    rw [State.freeBuf, hw, giveBuffer, ← hu]
  refine ⟨fun hno => ?_, fun hyes => ?_⟩
  · rw [hgive, hno, if_neg Bool.false_ne_true, State.freeBuf, hwait, hfree]
  · have hjoin : (u.assign m b).joinWait m = { u.assign m b with waitList := rest ++ [m] } := by
      rw [State.joinWait, State.assign_waitList, hwait, if_neg hm]
    rw [hgive, if_pos hyes, hjoin]

end

/-- Settles O38: the start check, the buffer of each kind of job, and the buffer freed. -/
theorem lanesActOnTheirOwn : Obligations.LanesActOnTheirOwn := by
  intro l s
  have hbuffer : ∀ (j : Job) (js : List Job), (s.link l).live = j :: js → (s.link l).lane.state = .busy →
      j.state = .running → s.heldCount l < 8 → l ∉ s.waitList → s.jobNeedsBuffer l j = true →
      s.activeJob l = some j ∧ s.laneStep l = some (s.askBuffer l) := fun j js hx hbusy hs hheld hl hneed => by
    have hj : s.activeJob l = some j := State.activeJob_head hx (by simp [hs])
    exact ⟨hj, State.laneStep_of_ask hbusy hj hs (State.wantsBuffer_of_active hj hs hneed hheld) hl⟩
  refine ⟨State.laneStep_of_stopping, fun hidle hno => ?_, fun j js hx => ⟨fun hidle hfree hq => ?_, fun hbusy hstop => ?_,
    fun hbusy hs hheld hl hneed => ?_⟩,
    fun b => ⟨fun hw => State.freeBuf_of_no_wait hw b, fun m rest hw hm u hu => ?_⟩⟩
  · refine State.laneStep_of_idle hidle ?_
    rw [Bool.eq_false_iff, Ne, State.startCheck_iff]
    rintro ⟨-, hfree, j, js, hx, -⟩
    rcases hno with hhold | hempty
    · simp [hfree] at hhold
    · simp [hempty] at hx
  · rw [State.laneStep_of_start (State.startCheck_iff.mpr ⟨hidle, hfree, j, js, hx, hq⟩), State.startJob_eq]
    exact congrArg some (State.onLink_congr (LinkState.started_of_cons hx))
  · by_cases hq : j.state = .queued
    · refine State.laneStep_of_none hbusy ?_
      rw [State.activeJob, LinkState.activeJob, hx]
      exact if_pos hq
    · rw [State.laneStep_of_busy hbusy (State.activeJob_head hx hq), State.busyStep, if_pos hstop]
  · obtain ⟨hj, hask⟩ := hbuffer j js hx hbusy hs hheld hl (State.jobNeedsBuffer_of_kind hneed)
    refine ⟨fun hnone => ?_, fun b hb hlow => ⟨fun hk => ?_, fun hk w hp => ?_, ?_⟩⟩
    · rw [hask, State.askBuffer_of_none hnone hl]
    · rw [hask, State.askBuffer_of_free hb hlow, State.assign_staged hj hk]
    · rw [hask, State.askBuffer_of_free hb hlow, State.assign_pattern hj hk, hp]
      rfl
    · rintro hk x hx' granted rfl
      have hgranted : ∀ y, x.offerCredit j.tag 1 = y →
          s.laneStep l = some ((s.setHolder b (.lane l .reserved)).setLink l y) := fun y hy => by
        rw [hask, State.askBuffer_of_free hb hlow, State.assign_reserved hx hs hk]
        refine congrArg some (State.setLink_eq_onLink _ l ?_).symm
        rw [State.setHolder_link, ← hy, hx']
        rfl
      have hwaiting : x.waiting = (s.link l).waiting := by rw [hx']; rfl
      have hentries : x.creditEntries = (s.link l).creditEntries := by rw [hx']; rfl
      refine ⟨fun es n fs hsplit hno => ?_, fun hnone => ?_, fun hno hsome => ?_⟩
      · refine hgranted _ ?_
        rw [LinkState.offerCredit_of_split (hwaiting.trans hsplit) hno, ← List.append_assoc, hx']
        rfl
      · refine hgranted _ ?_
        rw [LinkState.offerCredit_of_free (hentries.trans hnone), hx']
        rfl
      · exact hgranted _ (LinkState.offerCredit_of_sending (hwaiting ▸ hno) (hentries ▸ hsome) 1)
  · obtain ⟨hno, hyes⟩ := State.freeBuf_of_wait hw hm hu
    refine ⟨hno, ?_⟩
    rintro hwant v rfl
    exact hyes hwant

end Sys2Proof.Machine
end

section
/-! PROOFS. How a lane starts the block at its position (R15 to R17, R37). -/

namespace Sys2Proof.Machine

section
variable {s : State} {l : Link} {j : Job} {js : List Job} {i : ListId} {b : Binding} {x : Slot}

/-- A lane with no buffer to ask for starts a block or nothing. -/
theorem State.laneStep_of_fed (h : (s.link l).lane.state = .busy) (hx : (s.link l).live = j :: js) (hs : j.state = .running)
    (hnext : j.nextBlock < j.total) (hfed : s.wantsBuffer l = false ∨ l ∈ s.waitList) :
    s.laneStep l = if s.laneFree l then (s.readyList l j).map (s.startTransfer l j) else none := by
  have hask : (s.wantsBuffer l && decide (l ∉ s.waitList)) = false := by
    rcases hfed with hw | hl
    · simp [hw]
    · simp [hl]
  rw [State.laneStep_of_busy h (State.activeJob_head hx (by simp [hs])), State.busyStep, if_neg (by simp [hs]), hask,
    if_neg Bool.false_ne_true]
  simp [hnext]

theorem State.laneFree_iff : s.laneFree l = true ↔
    s.bus.laneInFlight l = false ∧ s.bus.request l = none ∧ s.bus.laneGranted l = false := by
  simp [State.laneFree, and_assoc]

/-! The list whose block is ready (R37) -/

theorem State.isSome_findUse {p : BufferUse → Bool} (h : ∃ b u, s.useOf l b = some u ∧ p u = true) : (s.findUse l p).isSome = true := by
  rw [Option.isSome_iff_ne_none, Ne, State.findUse_eq_none]
  intro hnone
  obtain ⟨b, u, hu, hp⟩ := h
  simp [hnone b u hu] at hp

theorem State.findUse_staged (h : ∀ b, s.useOf l b ≠ some .staged) : s.findUse l BufferUse.isStaged = none :=
  State.findUse_eq_none.mpr fun b u hu => by
    cases u with
    | staged => exact absurd hu (h b)
    | _ => rfl

theorem State.findUse_pattern (h : ∀ b, s.useOf l b ≠ some .pattern) : s.findUse l BufferUse.isPattern = none :=
  State.findUse_eq_none.mpr fun b u hu => by
    cases u with
    | pattern => exact absurd hu (h b)
    | _ => rfl

theorem State.findUse_loaded (h : ∀ b tag n, s.useOf l b ≠ some (.loaded tag n)) : s.findUse l BufferUse.isLoaded = none :=
  State.findUse_eq_none.mpr fun b u hu => by
    cases u with
    | loaded tag n => exact absurd hu (h b tag n)
    | _ => rfl

theorem State.findUse_filled {k : Nat} (h : ∀ b tag, s.useOf l b ≠ some (.filled tag k)) :
    s.findUse l (BufferUse.isFilledWith (fun n => n == k)) = none :=
  State.findUse_eq_none.mpr fun b u hu => by
    cases u with
    | filled tag n =>
      rw [BufferUse.isFilledWith, beq_eq_false_iff_ne]
      rintro rfl
      exact h b tag hu
    | _ => rfl

theorem State.readyList_eq_none (hread : j.kind = .read → ∀ b, s.useOf l b ≠ some .staged)
    (hwrite : j.kind = .write → ∀ b tag, s.useOf l b ≠ some (.filled tag j.nextBlock))
    (hfill : j.kind = .fill → ∀ b, s.useOf l b ≠ some .pattern)
    (hcopy : j.kind = .copy → ∀ b, s.useOf l b ≠ some .staged ∧ ∀ tag n, s.useOf l b ≠ some (.loaded tag n)) :
    s.readyList l j = none := by
  rw [State.readyList]
  split
  next hk => rw [State.findUse_staged (hread hk)]; rfl
  next hk => rw [State.findUse_filled (hwrite hk)]; rfl
  next hk => rw [State.findUse_pattern (hfill hk)]; rfl
  next hk =>
    rw [State.findUse_staged fun b => (hcopy hk b).1, State.findUse_loaded fun b => (hcopy hk b).2]
    rfl

theorem State.readyList_eq_some
    (h : ((j.kind = .read ∨ j.kind = .copy) ∧ i = .primary ∧ ∃ b, s.useOf l b = some .staged) ∨
      (j.kind = .write ∧ i = .primary ∧ ∃ b, ∃ tag : Nat, s.useOf l b = some (.filled tag j.nextBlock)) ∨
      (j.kind = .fill ∧ i = .primary ∧ ∃ b, s.useOf l b = some .pattern) ∨
      (j.kind = .copy ∧ i = .destination ∧ (∀ b, s.useOf l b ≠ some .staged) ∧
        ∃ b, ∃ tag n : Nat, s.useOf l b = some (.loaded tag n))) : s.readyList l j = some i := by
  rcases h with ⟨hk, rfl, b, hb⟩ | ⟨hk, rfl, b, tag, hb⟩ | ⟨hk, rfl, b, hb⟩ | ⟨hk, rfl, hno, b, tag, n, hb⟩
  · have hfound : (s.findUse l BufferUse.isStaged).isSome = true := State.isSome_findUse ⟨b, _, hb, rfl⟩
    rcases hk with hk | hk <;> simp only [State.readyList, hk, hfound, if_true]
  · have hfound : (s.findUse l (BufferUse.isFilledWith (fun k => k == j.nextBlock))).isSome = true :=
      State.isSome_findUse ⟨b, _, hb, beq_self_eq_true _⟩
    simp only [State.readyList, hk, hfound, if_true]
  · have hfound : (s.findUse l BufferUse.isPattern).isSome = true := State.isSome_findUse ⟨b, _, hb, rfl⟩
    simp only [State.readyList, hk, hfound, if_true]
  · have hfound : (s.findUse l BufferUse.isLoaded).isSome = true := State.isSome_findUse ⟨b, _, hb, rfl⟩
    simp only [State.readyList, hk, State.findUse_staged hno, Option.isSome_none, Bool.false_eq_true, if_false, hfound, if_true]

/-! The block-start check (R17) and the request (R37) -/

theorem JobKind.direction_eq (k : JobKind) (i : ListId) :
    k.direction i = if k = .read ∨ (k = .copy ∧ i = .primary) then .read else .write := by
  cases k <;> cases i <;> rfl

theorem Slot.blockCheck_of_gone (h : x.generation ≠ b.generation) : x.blockCheck b = some .slotGone := if_pos h

theorem Slot.blockCheck_of_not_ready (h : x.generation = b.generation) (hs : x.state ≠ .ready) :
    x.blockCheck b = some .slotNotReady := by
  rw [Slot.blockCheck, if_neg (not_not_intro h), if_pos hs]

theorem Slot.blockCheck_of_ready (h : x.generation = b.generation) (hs : x.state = .ready) : x.blockCheck b = none := by
  rw [Slot.blockCheck, if_neg (not_not_intro h), if_neg (not_not_intro hs)]

theorem State.startBlock_of_error {e : ErrorKind} (h : (s.slot b.slot).blockCheck b = some e) (j : Job) (i : ListId) :
    s.startBlock l j i b = s.segmentError l i e := by
  rw [State.startBlock, h]

theorem State.startBlock_of_ready (h : (s.slot b.slot).blockCheck b = none) (j : Job) (i : ListId) :
    s.startBlock l j i b = s.onBus (fun bus => bus.ask l (j.busRequest i b)) := by
  rw [State.startBlock, h]

theorem State.startTransfer_of_binding (h : j.binding i = some b) : s.startTransfer l j i = s.startBlock l j i b := by
  rw [State.startTransfer, h]

/-- A binding that a decode gives passes the block-start check (R95, R17). -/
theorem Slot.bind_blockCheck {w : Window} {dir : Direction} {a len : Nat} (h : x.bind w l dir a len = .ok b) :
    b.slot = w.slot ∧ x.blockCheck b = none := by
  rw [Slot.bind] at h
  split at h
  next => cases h
  next =>
    split at h
    next => cases h
    next hready =>
      split at h
      next => cases h
      next =>
        simp only at h
        split at h
        next => cases h
        next =>
          split at h
          next => cases h
          next =>
            cases h
            exact ⟨rfl, Slot.blockCheck_of_ready rfl (not_not.mp hready)⟩

theorem State.decode_blockCheck {dir : Direction} {a len : Nat} (h : s.decode l dir a len = .ok b) :
    (s.slot b.slot).blockCheck b = none := by
  rw [State.decode] at h
  split at h
  next => cases h
  next w _ =>
    split at h
    next =>
      obtain ⟨hslot, hcheck⟩ := Slot.bind_blockCheck h
      rw [hslot]
      exact hcheck
    next => cases h
  next => cases h

/-- Segment start (R15): the binding that a decode gives is stored, and its block is requested. -/
theorem State.startTransfer_of_decode (hx : (s.link l).live = j :: js) (hnone : j.binding i = none) {g : Segment}
    (hg : (j.segments i)[(j.position i).segment]? = some g)
    (hd : s.decode l (j.kind.direction i) g.address (g.blocks * j.blockSize) = .ok b) :
    s.startTransfer l j i = (s.onLink l (fun x => { x with live := j.setBinding i (some b) :: js })).onBus
      (fun bus => bus.ask l (j.busRequest i b)) := by
  have hready : ((s.onJob l (fun j => j.setBinding i (some b))).slot b.slot).blockCheck b = none := by
    rw [State.onJob, State.onLink_slot]
    exact State.decode_blockCheck hd
  rw [State.startTransfer, hnone]
  simp only [hg, hd]
  rw [State.startBlock_of_ready hready, State.onJob_of_cons hx]

theorem State.startTransfer_of_decode_error (hnone : j.binding i = none) {g : Segment}
    (hg : (j.segments i)[(j.position i).segment]? = some g) {e : ErrorKind}
    (hd : s.decode l (j.kind.direction i) g.address (g.blocks * j.blockSize) = .error e) :
    s.startTransfer l j i = s.segmentError l i e := by
  rw [State.startTransfer, hnone]
  simp only [hg, hd]

theorem Job.setBinding_eq (j : Job) (i : ListId) (o : Option Binding) :
    j.setBinding i o = if i = .primary then { j with bindPrimary := o } else { j with bindDestination := o } := by
  cases i <;> rfl

end

/-- Settles O40: what keeps a lane from its block, and the segment start and block start that it makes. -/
theorem lanesStartTheirBlocks : Obligations.LanesStartTheirBlocks := by
  intro l j js s hx hbusy hs hnext hfed
  have hstep := State.laneStep_of_fed hbusy hx hs hnext hfed
  refine ⟨fun hwait => ?_, fun hflight hrequest hgrant => ?_⟩
  · rw [hstep, if_neg]
    rw [State.laneFree_iff]
    rintro ⟨hflight, hrequest, hgrant⟩
    rcases hwait with h | h | h
    · simp [hflight] at h
    · exact h hrequest
    · simp [hgrant] at h
  · rw [if_pos (State.laneFree_iff.mpr ⟨hflight, hrequest, hgrant⟩)] at hstep
    refine ⟨fun hread hwrite hfill hcopy => ?_, ?_⟩
    · rw [hstep, State.readyList_eq_none hread hwrite hfill hcopy]
      rfl
    · rintro i hready dir rfl asked rfl
      rw [State.readyList_eq_some hready] at hstep
      have hstep' : s.laneStep l = some (s.startTransfer l j i) := hstep
      simp only [← JobKind.direction_eq]
      refine ⟨fun bind hbind => ?_, fun hnone g hg => ⟨fun e hd => ?_, fun bind hd => ?_⟩⟩
      · rw [hstep', State.startTransfer_of_binding hbind]
        refine ⟨fun hgone => ?_, fun hsame => ⟨fun hnot => ?_, fun hok => ?_⟩⟩
        · rw [State.startBlock_of_error (Slot.blockCheck_of_gone hgone)]
        · rw [State.startBlock_of_error (Slot.blockCheck_of_not_ready hsame hnot)]
        · rw [State.startBlock_of_ready (Slot.blockCheck_of_ready hsame hok)]
          rfl
      · rw [hstep', State.startTransfer_of_decode_error hnone hg hd]
      · rw [hstep', State.startTransfer_of_decode hx hnone hg hd, Job.setBinding_eq]
        rfl

end Sys2Proof.Machine
end

section
/-! PROOFS. The arbiter and the grants (R107, R128 to R130), and the steps of a word cycle (R131 to R135). -/

namespace Sys2Proof.Machine

/-! The arbiter (R128) -/

section
variable {b : Bus} {r : BusRequest} {i : SlotId}

theorem Bus.decide_of_busy (h : b.state ≠ .free) : b.decide = b := by
  rw [Bus.decide]
  split
  next => rfl
  next => rfl
  next hfree => exact absurd hfree h

theorem Bus.decide_of_identify (h : b.state = .free) (hi : b.requestIdentify = some i) :
    b.decide = { b with state := .granted (.identify i), requestIdentify := none } := by
  simp only [Bus.decide, h, hi]

/-- Without an identify request the lane that the pointer names is granted, and the other where it does not ask. -/
theorem Bus.decide_of_lanes (h : b.state = .free) (hi : b.requestIdentify = none) :
    b.decide = match b.request b.pointer, b.request b.pointer.other with
      | some r, _ => b.grantLane b.pointer r
      | none, some r => b.grantLane b.pointer.other r
      | none, none => b := by
  simp only [Bus.decide, h, hi]
  cases b.request b.pointer with
  | some r => rfl
  | none => cases b.request b.pointer.other <;> rfl

/-- The lane that is granted: it asks, and the other does not or does not have the pointer. -/
theorem Bus.decide_of_lane (h : b.state = .free) (hi : b.requestIdentify = none) {l : Link} (hr : b.request l = some r)
    (hp : b.request l.other = none ∨ b.pointer = l) : b.decide = b.grantLane l r := by
  rw [Bus.decide_of_lanes h hi]
  by_cases hl : b.pointer = l
  · rw [hl, hr]
  · have hother : b.pointer = l.other := by cases l <;> cases hb : b.pointer <;> simp_all [Link.other]
    have hnone := hp.resolve_right hl
    rw [hother, hnone, Link_other_other, hr]

theorem Bus.decide_of_none (h : b.state = .free) (hi : b.requestIdentify = none) (hA : b.requestA = none)
    (hB : b.requestB = none) : b.decide = b := by
  have hnone : ∀ l, b.request l = none := fun l => by cases l; exacts [hA, hB]
  rw [Bus.decide_of_lanes h hi, hnone, hnone]

end

/-! The Identify Sequencer's request (R107) -/

section
variable {s : State} {l : Link} {i : SlotId} {j : Job} {js : List Job} {r : BusRequest}

theorem State.identJoin_of_empty (h : s.identQueue = []) : s.identJoin = s := by rw [State.identJoin, h]

theorem State.identJoin_of_stands {rest : List SlotId} (h : s.identQueue = i :: rest)
    (hno : s.bus.requestIdentify ≠ none ∨ s.bus.identifyInFlight = true ∨ s.bus.identifyGranted i = true) : s.identJoin = s := by
  rw [State.identJoin, h]
  refine if_neg ?_
  simp only [Bool.and_eq_true, Option.isNone_iff_eq_none, Bool.not_eq_true']
  rintro ⟨⟨hreq, hfl⟩, hgr⟩
  rcases hno with hno | hno | hno
  · exact hno hreq
  · simp [hfl] at hno
  · simp [hgr] at hno

theorem State.identJoin_of_head {rest : List SlotId} (h : s.identQueue = i :: rest) (hr : s.bus.requestIdentify = none)
    (hf : s.bus.identifyInFlight = false) (hg : s.bus.identifyGranted i = false) :
    s.identJoin = s.onBus (fun bus => { bus with requestIdentify := some i }) := by
  rw [State.identJoin, h]
  exact if_pos (by simp [hr, hf, hg])

theorem Bus.identifyInFlight_iff (b : Bus) : b.identifyInFlight = true ↔ ∃ x, b.state = .inFlight x ∧ x.requester = .identify := by
  rw [Bus.identifyInFlight]
  split <;> simp_all

theorem Bus.identifyGranted_iff (b : Bus) (i : SlotId) : b.identifyGranted i = true ↔ b.state = .granted (.identify i) := by
  rw [Bus.identifyGranted]
  split <;> simp_all

/-! Grants that arrive (R37, R129) -/

theorem exec_grant (h0 : s.inReset = false) : exec .grant s = .next s.grantReaches.kick :=
  congrArg Host.Outcome.next (event_of_running h0 _)

theorem State.grantReaches_lane {withdrawn : Bool} (h : s.bus.state = .granted (.lane l r withdrawn)) :
    s.grantReaches = s.laneGrant l r withdrawn := by rw [State.grantReaches, h]

theorem State.grantReaches_identify (h : s.bus.state = .granted (.identify i)) : s.grantReaches = s.identGrant i := by
  rw [State.grantReaches, h]

/-- The list of the block that a request moves, and its binding. -/
theorem Job.listOf_eq (j : Job) (dir : Direction) :
    j.kind.listOf dir = if j.kind = .copy ∧ dir = .write then .destination else .primary := by
  cases hk : j.kind <;> cases dir <;> rfl

theorem Job.binding_listOf (j : Job) (dir : Direction) :
    j.binding (j.kind.listOf dir) = if j.kind = .copy ∧ dir = .write then j.bindDestination else j.bindPrimary := by
  rw [Job.listOf_eq]
  split <;> rfl

/-- A grant to a RUNNING job meets the slot of its binding. -/
theorem State.laneGrant_of_running (hx : (s.link l).live = j :: js) (hs : j.state = .running) {bind : Binding}
    (hbind : (if j.kind = .copy ∧ r.direction = .write then j.bindDestination else j.bindPrimary) = some bind) :
    s.laneGrant l r false = match (s.slot r.slot).blockCheck bind with
      | none => s.beginTransfer l j r
      | some e => (s.returnGrant.segmentError l (j.kind.listOf r.direction) e).settle l := by
  rw [← Job.binding_listOf] at hbind
  simp only [State.laneGrant, State.activeJob_head hx (by simp [hs] : j.state ≠ .queued), hs, hbind] <;> rfl

theorem State.laneGrant_of_returned {withdrawn : Bool} (h : withdrawn = true ∨ ∀ j, (s.link l).working j → j.state ≠ .running) :
    s.laneGrant l r withdrawn = s.returnGrant.settle l := by
  unfold State.laneGrant
  split
  next j hj =>
    have hstop : j.state ≠ .running := h.resolve_left Bool.false_ne_true j (State.working_iff.mpr hj)
    simp only
    split
    next hrun _ => exact absurd hrun hstop
    next => rfl
  next => rfl

theorem State.returnGrant_eq (s : State) : s.returnGrant = s.onBus (fun bus => Bus.decide { bus with state := .free }) := rfl

/-- The transfer of a grant that a lane takes (R130). -/
theorem State.beginTransfer_of_buffer {d : Identity} {b : BufId} (hd : (s.slot r.slot).identity = some d)
    (hb : s.transferBuffer l j (j.kind.listOf r.direction) = some b) :
    s.beginTransfer l j r =
      (if j.kind = .fill then s else s.setHolder b (.lane l (.inTransfer j.tag j.nextBlock))).goOn
        ((r.transfer l d.dataWidth (some b)).beginAttempt s.bus) := by
  have hwidth : (s.slot r.slot).dataWidth = d.dataWidth := by rw [Slot.dataWidth, hd]
  simp only [State.beginTransfer, hb, hwidth]

theorem State.identGrant_of_head (hq : s.identQueue.head? = some i) (hs : (s.slot i).state = .identifying) :
    s.identGrant i = s.goOn ((identTransfer i).beginAttempt s.bus) := if_pos ⟨hq, hs⟩

theorem State.identGrant_of_returned (h : s.identQueue.head? ≠ some i ∨ (s.slot i).state ≠ .identifying) :
    s.identGrant i = (s.setBusState .free).identStep := if_neg (by tauto)

end

/-- Settles O53: the arbiter's choice, the Identify Sequencer's request, and each way a grant is met. -/
theorem grantsAreMadeTakenOrReturned : Obligations.GrantsAreMadeTakenOrReturned := by
  refine ⟨fun b => ⟨Bus.decide_of_busy, fun hfree => ⟨fun i hi => Bus.decide_of_identify hfree hi, fun hi =>
    ⟨fun r hr hp => Bus.decide_of_lane (l := .A) hfree hi hr hp, fun r hr hp => Bus.decide_of_lane (l := .B) hfree hi hr hp,
      Bus.decide_of_none hfree hi⟩⟩⟩, fun s => ⟨fun hq => ?_, fun i rest hq => ⟨fun hno => ?_, fun hr hg hf => ?_⟩⟩, fun s h0 => ?_⟩
  · rw [State.identStep, State.identJoin_of_empty hq]
  · rw [State.identStep, State.identJoin_of_stands hq]
    rwa [Bus.identifyInFlight_iff, Bus.identifyGranted_iff, or_comm (a := ∃ x, _)]
  · have hf' : s.bus.identifyInFlight = false := by
      rw [Bool.eq_false_iff, Ne, Bus.identifyInFlight_iff]
      rintro ⟨x, hx, hid⟩
      exact hf x hx hid
    have hg' : s.bus.identifyGranted i = false := by
      rw [Bool.eq_false_iff, Ne, Bus.identifyGranted_iff]
      exact hg
    rw [State.identStep, State.identJoin_of_head hq hr hf' hg']
    rfl
  · rw [exec_grant h0]
    refine ⟨fun l r j js bind d b hb hx hs hbind hready hgen hd hbuf x hxt => ?_, fun l r withdrawn hb hno => ?_,
      fun i hb hq hs x hxt => ?_, fun l r j js bind e hb hx hs hbind he => ?_, fun i hb hno regrant hregrant => ?_⟩
    · rw [State.grantReaches_lane hb, State.laneGrant_of_running hx hs hbind, Slot.blockCheck_of_ready hgen hready]
      simp only
      rw [State.beginTransfer_of_buffer hd hbuf]
      have hrecord : (r.transfer l d.dataWidth (some b)).beginAttempt s.bus = x := hxt.symm
      refine ⟨fun hk => ?_, fun hk => ?_⟩
      · rw [if_neg hk, hrecord]
        rfl
      · rw [if_pos hk, hrecord]
        rfl
    · rw [State.grantReaches_lane hb, State.laneGrant_of_returned hno]
      rfl
    · have hrecord : (identTransfer i).beginAttempt s.bus = x := by
        rw [hxt]
        simp [identTransfer, Transfer.beginAttempt, Transfer.beginWord, Transfer.waitNs, Config.identBytes, Config.identWaits,
          Config.identLimit, Config.identRetries]
      rw [State.grantReaches_identify hb, State.identGrant_of_head hq hs, hrecord]
      rfl
    · have hcheck : (s.slot r.slot).blockCheck bind = some e := by
        rcases he with ⟨hgone, rfl⟩ | ⟨hsame, hnot, rfl⟩
        · exact Slot.blockCheck_of_gone hgone
        · exact Slot.blockCheck_of_not_ready hsame hnot
      rw [State.grantReaches_lane hb, State.laneGrant_of_running hx hs hbind, hcheck]
      simp only
      rw [Job.listOf_eq]
      rfl
    · rw [State.grantReaches_identify hb, State.identGrant_of_returned hno, State.identStep]
      refine ⟨fun k hk => ?_, fun hnone => ⟨fun k ks hq => ?_, fun hq => ?_⟩⟩
      · have hstay : (s.setBusState .free).identJoin = s.setBusState .free := by
          cases hq : s.identQueue with
          | nil => exact State.identJoin_of_empty hq
          | cons i is => exact State.identJoin_of_stands (s := s.setBusState .free) hq (.inl (by simp [State.setBusState, hk]))
        rw [hstay, hregrant]
        refine congrArg (fun b => Host.Outcome.next ({ s with bus := b } : State).kick) ?_
        exact Bus.decide_of_identify rfl hk
      · have hask : (s.setBusState .free).identJoin =
            (s.setBusState .free).onBus (fun bus => { bus with requestIdentify := some k }) :=
          State.identJoin_of_head (s := s.setBusState .free) hq hnone rfl rfl
        rw [hask, hregrant]
        refine congrArg (fun b => Host.Outcome.next ({ s with bus := b } : State).kick) ?_
        exact Bus.decide_of_identify rfl rfl
      · rw [State.identJoin_of_empty (s := s.setBusState .free) hq]
        rfl

end Sys2Proof.Machine
end

section
/-! PROOFS. The steps of a word cycle (R131 to R135). -/

namespace Sys2Proof.Machine

section
variable {s u : State} {x : Transfer} {r : Response} {md : Half} {mdp mperr : Bool} {l : Link} {b : BufId}

/-! What the bus events do with the transfer in flight (R131, R132) -/

theorem exec_wordResponse (h0 : s.inReset = false) (r : Response) (md : Half) (mdp mperr : Bool) :
    exec (.wordResponse r md mdp mperr) s = .next (s.onBus (Bus.respond r md mdp mperr)).responseSeen.kick :=
  congrArg Host.Outcome.next (pinEvent_of_running h0 _ _)

theorem State.responseSeen_of_waiting (h : s.bus.state = .inFlight x) (hno : x.phase ≠ .response ∨ s.bus.late = true) :
    s.responseSeen = s := by
  rw [State.responseSeen, h]
  refine if_neg ?_
  rintro ⟨hp, hans⟩
  rcases hno with hno | hno
  · exact hno hp
  · simp [Bus.answers, hno] at hans

theorem State.responseSeen_of_answer (h : s.bus.state = .inFlight x) (hp : x.phase = .response) (hans : s.bus.answers = true) :
    s.responseSeen = s.takeResponse x := by
  rw [State.responseSeen, h]
  exact if_pos ⟨hp, hans⟩

/-- A response that is not late is one that a word may take. -/
theorem Bus.respond_answers (h : r.late = false) (md : Half) (mdp mperr : Bool) (b : Bus) :
    (Bus.respond r md mdp mperr b).answers = true := by
  rw [Bus.answers, Bus.respond, h]
  cases r.lines <;> rfl

/-- A response in time is taken. -/
theorem exec_wordResponse_taken (h0 : s.inReset = false) (h : s.bus.state = .inFlight x) (hp : x.phase = .response)
    (hl : r.late = false) (md : Half) (mdp mperr : Bool) :
    exec (.wordResponse r md mdp mperr) s = .next ((s.onBus (Bus.respond r md mdp mperr)).takeResponse x).kick := by
  rw [exec_wordResponse h0]
  have hstate : (s.onBus (Bus.respond r md mdp mperr)).bus.state = .inFlight x := h
  rw [State.responseSeen_of_answer hstate hp (Bus.respond_answers hl md mdp mperr s.bus)]

theorem State.takeResponse_of_reject (h : s.bus.mrej = true) (x : Transfer) : s.takeResponse x = s.endTransfer x .moduleReject := by
  rw [State.takeResponse, h, if_pos rfl]

theorem State.takeResponse_of_good_read (h : s.bus.mrej = false) (hd : x.direction = .read)
    (hg : parityGood x.dataWidth s.bus.md s.bus.mdp = true) : s.takeResponse x = (s.storeWord x).nextWord x := by
  simp only [State.takeResponse, h, hd, hg, Bool.false_eq_true, if_false, if_true]

theorem State.takeResponse_of_bad_read (h : s.bus.mrej = false) (hd : x.direction = .read)
    (hg : parityGood x.dataWidth s.bus.md s.bus.mdp = false) : s.takeResponse x = s.retryOrEnd x .dataCheck := by
  simp only [State.takeResponse, h, hd, hg, Bool.false_eq_true, if_false]

theorem State.takeResponse_of_good_write (h : s.bus.mrej = false) (hd : x.direction = .write) (hp : s.bus.mperr = false) :
    s.takeResponse x = s.nextWord x := by
  simp only [State.takeResponse, h, hd, hp, Bool.false_eq_true, if_false]

theorem State.takeResponse_of_bad_write (h : s.bus.mrej = false) (hd : x.direction = .write) (hp : s.bus.mperr = true) :
    s.takeResponse x = s.retryOrEnd x .dataCheck := by
  simp only [State.takeResponse, h, hd, hp, Bool.false_eq_true, if_false, if_true]

/-- A word whose check fails, of a read or of a write. -/
theorem State.takeResponse_of_bad (h : s.bus.mrej = false)
    (hbad : (x.direction = .read ∧ parityGood x.dataWidth s.bus.md s.bus.mdp = false) ∨
      (x.direction = .write ∧ s.bus.mperr = true)) : s.takeResponse x = s.retryOrEnd x .dataCheck := by
  rcases hbad with ⟨hd, hg⟩ | ⟨hd, hp⟩
  · exact State.takeResponse_of_bad_read h hd hg
  · exact State.takeResponse_of_bad_write h hd hp

theorem State.retryOrEnd_of_last (h : x.retriesLeft = 0) (o : TransferOutcome) : s.retryOrEnd x o = s.endTransfer x o := by
  rw [State.retryOrEnd, h]

theorem State.retryOrEnd_of_more {n : Nat} (h : x.retriesLeft = n + 1) (o : TransferOutcome) :
    s.retryOrEnd x o = s.goOn (({ x with retriesLeft := n } : Transfer).beginAttempt s.bus) := by
  rw [State.retryOrEnd, h]

theorem State.nextWord_of_more (h : x.wordIndex + 1 < x.wordCount) :
    s.nextWord x = s.goOn (({ x with wordIndex := x.wordIndex + 1 } : Transfer).beginWord s.bus) := if_pos h

theorem State.nextWord_of_last (h : x.wordCount ≤ x.wordIndex + 1) : s.nextWord x = s.endTransfer x .success :=
  if_neg (Nat.not_lt.mpr h)

/-- The bytes of a read word in its buffer (R36, R133). -/
theorem State.storeWord_of_lane (hr : x.requester = .lane l) (hb : x.buffer = some b) {bytes : Memory}
    (h : (x.dataWidth = 16 ∧ bytes = ((s.buffers.get b).bytes.write (2 * x.wordIndex) ((s.bus.md >>> 8).setWidth 8)).write
        (2 * x.wordIndex + 1) (s.bus.md.setWidth 8)) ∨
      (x.dataWidth = 8 ∧ bytes = (s.buffers.get b).bytes.write x.wordIndex (s.bus.md.setWidth 8))) :
    s.storeWord x = s.setBytes b bytes := by
  rw [State.storeWord, hr, hb]
  refine congrArg (s.setBytes b) ?_
  rcases h with ⟨hw, rfl⟩ | ⟨hw, rfl⟩
  · have hoffset : x.offset = 2 * x.wordIndex := by rw [Transfer.offset, hw]; omega
    rw [hoffset, hw]
    rfl
  · have hoffset : x.offset = x.wordIndex := by rw [Transfer.offset, hw]; omega
    rw [hoffset, hw]
    rfl

/-! The phase of the word does not count when its response is taken (R131) -/

theorem State.storeWord_setBusState (s : State) (p : BusState) (x : Transfer) (q : WordPhase) :
    (s.setBusState p).storeWord { x with phase := q } = (s.storeWord x).setBusState p := by
  simp only [State.storeWord]
  cases x.requester with
  | identify => rfl
  | lane l => cases x.buffer <;> rfl

theorem State.nextWord_setBusState (s : State) (p : BusState) (x : Transfer) (q : WordPhase) :
    (s.setBusState p).nextWord { x with phase := q } = s.nextWord x := rfl

theorem State.retryOrEnd_setBusState (s : State) (p : BusState) (x : Transfer) (q : WordPhase) (o : TransferOutcome) :
    (s.setBusState p).retryOrEnd { x with phase := q } o = s.retryOrEnd x o := rfl

theorem State.takeResponse_setBusState (s : State) (p : BusState) (x : Transfer) (q : WordPhase) :
    (s.setBusState p).takeResponse { x with phase := q } = s.takeResponse x := by
  unfold State.takeResponse
  rw [State.storeWord_setBusState, State.nextWord_setBusState, State.nextWord_setBusState, State.retryOrEnd_setBusState]
  rfl

theorem State.waitEnds_of_quiet {ns : Nat} (h : s.bus.state = .inFlight x) (hp : x.phase = .waitTime ns)
    (hno : s.bus.answers = false) : s.waitEnds = s.goOn { x with phase := .response } := by
  simp only [State.waitEnds, h, hp, hno, Bool.false_eq_true, if_false]

theorem State.waitEnds_of_answer {ns : Nat} (h : s.bus.state = .inFlight x) (hp : x.phase = .waitTime ns)
    (hans : s.bus.answers = true) : s.waitEnds = s.takeResponse x := by
  simp only [State.waitEnds, h, hp, hans, if_true]

theorem State.linesReleased_of_release (h : s.bus.state = .inFlight x) (hp : x.phase = .release) :
    s.linesReleased = s.goOn { x with phase := .waitTime x.waitNs } := by
  simp only [State.linesReleased, h, hp, if_true]

theorem State.linesReleased_of_other (h : s.bus.state = .inFlight x) (hp : x.phase ≠ .release) : s.linesReleased = s := by
  simp only [State.linesReleased, h, hp, if_false]

theorem State.watchdogExpires_of_running (h : s.bus.state = .inFlight x) (hw : x.watchdog ≠ .stopped) :
    s.watchdogExpires = s.retryOrEnd x .noResponse := by
  simp only [State.watchdogExpires, h, hw, if_false]

theorem exec_watchdog (h0 : s.inReset = false) (h : s.bus.state = .inFlight x) (hw : x.watchdog ≠ .stopped) :
    exec .responseWatchdogExpiry s = .next (s.retryOrEnd x .noResponse).kick := by
  have hexec : exec .responseWatchdogExpiry s = .next s.watchdogExpires.kick := congrArg Host.Outcome.next (event_of_running h0 _)
  rw [hexec, State.watchdogExpires_of_running h hw]

end

/-- Settles O55: the phases of a word by event, and what is done with a response that is taken. -/
theorem wordsFollowTheirSteps : Obligations.WordsFollowTheirSteps := by
  intro x s h0 hx
  refine ⟨fun r md mdp mperr u hu => ?_, fun ns hp waits hwaits => ⟨fun hquiet => ?_, fun lines hlate hack hrej => ?_⟩,
    fun u hu => ?_, fun n hn hw again hagain => ?_⟩
  · obtain rfl : u = s.onBus (Bus.respond r md mdp mperr) := hu
    have hstate : (s.onBus (Bus.respond r md mdp mperr)).bus.state = .inFlight x := hx
    refine ⟨fun hno => ?_, fun hp hr next hnext => ?_⟩
    · rw [exec_wordResponse h0, State.responseSeen_of_waiting hstate hno]
    · subst hr
      have hmrej : (s.onBus (Bus.respond ⟨.ack, false⟩ md mdp mperr)).bus.mrej = false := rfl
      rw [exec_wordResponse_taken h0 hx hp rfl]
      refine ⟨fun hmore => ⟨fun b hd hreq hb hgood bytes hbytes => ?_, fun hd hok => ?_⟩, fun n hn hbad again hagain => ?_⟩
      · obtain ⟨l, hl⟩ : ∃ l, x.requester = .lane l := by
          cases hrx : x.requester with
          | identify => exact absurd hrx hreq
          | lane l => exact ⟨l, rfl⟩
        rw [State.takeResponse_of_good_read hmrej hd hgood, State.storeWord_of_lane hl hb hbytes, State.nextWord_of_more hmore,
          hnext]
        rfl
      · rw [State.takeResponse_of_good_write hmrej hd hok, State.nextWord_of_more hmore, hnext]
        rfl
      · rw [State.takeResponse_of_bad hmrej hbad, State.retryOrEnd_of_more hn, hagain]
        rfl
  · have hno : s.bus.answers = false := by
      rcases hquiet with ⟨ha, hj⟩ | hl
      · simp [Bus.answers, ha, hj]
      · simp [Bus.answers, hl]
    change Host.Outcome.next (event s _) = _
    rw [event_of_running h0, State.waitEnds_of_quiet hx hp hno, hwaits]
    rfl
  · have hans : s.bus.answers = true := by
      rw [Bus.answers, hack, hrej, hlate]
      cases lines <;> rfl
    have hlevels : waits.onBus (Bus.respond ⟨lines, false⟩ s.bus.md s.bus.mdp s.bus.mperr) = waits := by
      have hbus : Bus.respond ⟨lines, false⟩ s.bus.md s.bus.mdp s.bus.mperr waits.bus = waits.bus := by
        rw [hwaits, Bus.respond, ← hack, ← hrej, ← hlate]
        rfl
      rw [State.onBus, hbus]
    have hw0 : waits.inReset = false := by rw [hwaits]; exact h0
    have hwx : waits.bus.state = .inFlight { x with phase := .response } := by rw [hwaits]; rfl
    rw [exec_wordResponse_taken hw0 hwx rfl rfl, hlevels, hwaits]
    change Host.Outcome.next (event s _) = _
    rw [event_of_running h0, State.waitEnds_of_answer hx hp hans]
    exact congrArg (fun t : State => Host.Outcome.next t.kick) (State.takeResponse_setBusState s _ x .response).symm
  · have hexec : exec .responseLinesReleased s = .next u.linesReleased.kick := by
      rw [hu]
      exact congrArg Host.Outcome.next (pinEvent_of_running h0 _ _)
    have hstate : u.bus.state = .inFlight x := by rw [hu]; exact hx
    refine ⟨fun hp => ?_, fun hp => ?_⟩
    · rw [hexec, State.linesReleased_of_release hstate hp]
      rfl
    · rw [hexec, State.linesReleased_of_other hstate hp]
  · rw [exec_watchdog h0 hx hw, State.retryOrEnd_of_more hn, hagain]
    rfl

end Sys2Proof.Machine
end

section
/-! PROOFS. The end of an identity read (R109, R138), and the end and the abandonment of a lane's block (R135 to R139). -/

namespace Sys2Proof.Machine

section
variable {s u : State} {x : Transfer} {i : SlotId} {l : Link} {f : Slot → Slot} {c : Condition} {o : TransferOutcome}

theorem State.identJoin_eq (s : State) : ∃ g, s.identJoin = s.onBus g ∧ (g s.bus).state = s.bus.state := by
  rw [State.identJoin]
  split
  next => exact ⟨id, rfl, rfl⟩
  next i _ _ =>
    split
    next => exact ⟨_, rfl, rfl⟩
    next => exact ⟨id, rfl, rfl⟩

/-- The Identify Sequencer's request changes the bus alone, and begins no transfer. -/
theorem State.identStep_eq (s : State) :
    ∃ g, s.identStep = s.onBus g ∧ ∀ x, (g s.bus).state = .inFlight x ↔ s.bus.state = .inFlight x := by
  obtain ⟨g, hg, hstate⟩ := State.identJoin_eq s
  refine ⟨fun b => (g b).decide, by rw [State.identStep, hg]; rfl, fun x => ?_⟩
  rw [Bus.decide_flight, hstate]

theorem State.sel_of_quiet (h : ∀ x, s.bus.state ≠ .inFlight x) (i : SlotId) : s.sel i = false := by
  rw [Bool.eq_false_iff, Ne, State.sel_iff]
  rintro ⟨x, hx, -⟩
  exact h x hx

theorem State.raiseBoth_link (s : State) (c : Condition) (m : Link) : (s.raiseBoth c).link m = (s.link m).raise c :=
  State.onLinks_link s m _

/-! The Identify Sequencer's report (R109) -/

/-- The state after an identity read: one slot changed, out of the queue, its condition raised in both links. -/
def State.identEnd (s : State) (i : SlotId) (f : Slot → Slot) (c : Condition) : State :=
  (((({ s with identQueue := s.identQueue.filter (fun k => k != i) } : State).onSlot i f).raiseBoth c).identStep)

theorem State.endTransfer_identify (hr : x.requester = .identify) (o : TransferOutcome) :
    s.endTransfer x o = ((s.setBusState .free).identReport x.slot o).identStep := by
  rw [State.endTransfer, hr]

theorem State.identReport_of_fault {k : FaultKind}
    (h : (o = .noResponse ∧ k = .identNoResponse) ∨ ((o = .moduleReject ∨ o = .dataCheck) ∧ k = .identBad)) :
    (s.identReport i o).identStep = s.identEnd i (Slot.fail k) (.fault i) := by
  rcases h with ⟨rfl, rfl⟩ | ⟨rfl | rfl, rfl⟩ <;> rfl

theorem State.identReport_of_accepted {d : Identity} (h : parseIdentity s.identStore = some d) :
    (s.identReport i .success).identStep = s.identEnd i (Slot.accept d) (.ready i) := by
  rw [State.identReport, h]
  rfl

theorem State.identReport_of_refused (h : parseIdentity s.identStore = none) :
    (s.identReport i .success).identStep = s.identEnd i (Slot.fail .identBad) (.fault i) := by
  rw [State.identReport, h]
  rfl

/-- What an identity read leaves of the part. -/
structure State.Identified (s : State) (i : SlotId) (after : Slot) (c : Condition) (t : State) : Prop where
  slot : t.slot i = after
  others : ∀ k, k ≠ i → t.slot k = s.slot k
  queue : t.identQueue = s.identQueue.filter (· ≠ i)
  links : ∀ m, t.link m = ((s.link m).raise c).kick
  sel : t.sel i = false
  powerWait : t.powerWait = s.powerWait
  ramping : t.ramping = s.ramping
  windows : t.windows = s.windows
  buffers : t.buffers = s.buffers
  latch : t.latch = s.latch

/-- A condition raised in both links and a change of the bus, with the transmitters begun. -/
theorem State.raised_facts (u : State) (c : Condition) (g : Bus → Bus) :
    (∀ k, (((u.raiseBoth c).onBus g).kick).slot k = u.slot k) ∧
      (∀ m, (((u.raiseBoth c).onBus g).kick).link m = ((u.link m).raise c).kick) ∧
      (((u.raiseBoth c).onBus g).kick).bus = g u.bus ∧ (((u.raiseBoth c).onBus g).kick).identQueue = u.identQueue ∧
      (((u.raiseBoth c).onBus g).kick).powerWait = u.powerWait ∧ (((u.raiseBoth c).onBus g).kick).ramping = u.ramping ∧
      (((u.raiseBoth c).onBus g).kick).windows = u.windows ∧ (((u.raiseBoth c).onBus g).kick).buffers = u.buffers ∧
      (((u.raiseBoth c).onBus g).kick).latch = u.latch := by
  refine ⟨fun k => ?_, fun m => ?_, ?_⟩
  · rw [State.kick_slot, State.onBus_slot, State.raiseBoth, State.onLinks_slot]
  · rw [State.kick_link, State.onBus_link, State.raiseBoth_link]
  · simp [State.raiseBoth, State.kick]

/-- The part with one slot changed and out of the identify queue. -/
def State.unqueued (s : State) (i : SlotId) (f : Slot → Slot) : State :=
  ({ s with identQueue := s.identQueue.filter (fun k => k != i) } : State).onSlot i f

theorem State.unqueued_link (s : State) (i : SlotId) (f : Slot → Slot) (m : Link) : (s.unqueued i f).link m = s.link m := by
  cases m <;> rfl

theorem State.identEnd_identified (hfree : s.bus.state = .free) (i : SlotId) (f : Slot → Slot) (c : Condition) :
    s.Identified i (f (s.slot i)) c (s.identEnd i f c).kick := by
  obtain ⟨g, hg, hflight⟩ := State.identStep_eq ((s.unqueued i f).raiseBoth c)
  have hend : s.identEnd i f c = ((s.unqueued i f).raiseBoth c).onBus g := hg
  obtain ⟨hslot, hlink, hbus, hqueue, hwait, hramp, hwin, hbuf, hlatch⟩ := State.raised_facts (s.unqueued i f) c g
  rw [hend]
  refine ⟨(hslot i).trans (State.onSlot_slot _ i f), fun k hk => (hslot k).trans (State.onSlot_slot_ne _ hk f), ?_, fun m => ?_,
    State.sel_of_quiet (fun x hx => ?_) i, hwait, hramp, hwin, hbuf, hlatch⟩
  · rw [hqueue]
    exact List.filter_congr fun k _ => Bool.eq_iff_iff.mpr (by simp)
  · rw [hlink, State.unqueued_link]
  · rw [hbus] at hx
    have hbusy : s.bus.state = .inFlight x := (hflight x).mp hx
    rw [hfree] at hbusy
    cases hbusy

/-- The changes of bus levels and of the identity store before the report do not count. -/
theorem State.Identified.of_read {after : Slot} {t : State} (h : u.Identified i after c t) (hslots : u.slots = s.slots)
    (hqueue : u.identQueue = s.identQueue) (hlink : ∀ m, u.link m = s.link m) (hwait : u.powerWait = s.powerWait)
    (hramp : u.ramping = s.ramping) (hwin : u.windows = s.windows) (hbuf : u.buffers = s.buffers) (hlatch : u.latch = s.latch) :
    s.Identified i after c t where
  slot := h.slot
  others k hk := by rw [h.others k hk, State.slot, hslots]; rfl
  queue := by rw [h.queue, hqueue]
  links m := by rw [h.links, hlink]
  sel := h.sel
  powerWait := h.powerWait.trans hwait
  ramping := h.ramping.trans hramp
  windows := h.windows.trans hwin
  buffers := h.buffers.trans hbuf
  latch := h.latch.trans hlatch

end

/-- Settles O60: the report of an identity read by its outcome. -/
theorem identityReadsDecideTheSlot : Obligations.IdentityReadsDecideTheSlot := by
  rintro x i c s h0 hx hreq rfl hdir hwidth hcount condition after hcase
  have hkeep : ∀ (u : State) (f : Slot → Slot), u.slots = s.slots → u.identQueue = s.identQueue →
      (∀ m, u.link m = s.link m) → u.powerWait = s.powerWait → u.ramping = s.ramping → u.windows = s.windows →
      u.buffers = s.buffers → u.latch = s.latch → u.bus.state = .free →
      s.Identified x.slot (f (s.slot x.slot)) condition (u.identEnd x.slot f condition).kick :=
    fun u f hslots hqueue hlink hwait hramp hwin hbuf hlatch hfree => by
      have hslot : u.slot x.slot = s.slot x.slot := by rw [State.slot, hslots]; rfl
      have hend := State.identEnd_identified hfree x.slot f condition
      rw [hslot] at hend
      exact hend.of_read hslots hqueue hlink hwait hramp hwin hbuf hlatch
  have hgoal : ∃ t, exec c s = .next t ∧ s.Identified x.slot after condition t := by
    rcases hcase with ⟨md, mdp, mperr, rfl, hp, hindex, hgood, hrecord⟩ | ⟨r, md, mdp, mperr, rfl, hp, hlate, hbad, rfl, rfl⟩ |
      ⟨rfl, hw, hlast, rfl, rfl⟩
    · have hmrej : (s.onBus (Bus.respond ⟨.ack, false⟩ md mdp mperr)).bus.mrej = false := rfl
      have hstore : (s.onBus (Bus.respond ⟨.ack, false⟩ md mdp mperr)).storeWord x =
          { s.onBus (Bus.respond ⟨.ack, false⟩ md mdp mperr) with identStore := s.identStore.write 31 (md.setWidth 8) } := by
        have hoffset : x.offset = 31 := by rw [Transfer.offset, hwidth, hindex]
        simp only [State.storeWord, hreq, hoffset, hwidth]
        rfl
      have hexec : exec (.wordResponse ⟨.ack, false⟩ md mdp mperr) s = .next
          (((({ s.onBus (Bus.respond ⟨.ack, false⟩ md mdp mperr) with
              identStore := s.identStore.write 31 (md.setWidth 8) } : State).setBusState .free).identReport x.slot
            .success).identStep).kick := by
        rw [exec_wordResponse_taken h0 hx hp rfl, State.takeResponse_of_good_read hmrej hdir (by rw [hwidth]; exact hgood), hstore,
          State.nextWord_of_last (by rw [hcount, hindex]), State.endTransfer_identify hreq]
      refine ⟨_, hexec, ?_⟩
      rcases hrecord with ⟨d, hd, rfl, rfl⟩ | ⟨hd, rfl, rfl⟩
      · rw [State.identReport_of_accepted hd]
        exact hkeep _ (Slot.accept d) rfl rfl (fun m => by cases m <;> rfl) rfl rfl rfl rfl rfl rfl
      · rw [State.identReport_of_refused hd]
        exact hkeep _ (Slot.fail .identBad) rfl rfl (fun m => by cases m <;> rfl) rfl rfl rfl rfl rfl rfl
    · have hend : ∃ o, (o = .moduleReject ∨ o = .dataCheck) ∧
          (s.onBus (Bus.respond r md mdp mperr)).takeResponse x = (s.onBus (Bus.respond r md mdp mperr)).endTransfer x o := by
        by_cases hack : r.lines = .ack
        · have hmrej : (s.onBus (Bus.respond r md mdp mperr)).bus.mrej = false := by
            change (r.lines != .ack) = false
            rw [hack]
            rfl
          obtain ⟨hparity, hlast⟩ := hbad.resolve_left (not_not_intro hack)
          refine ⟨.dataCheck, .inr rfl, ?_⟩
          rw [State.takeResponse_of_bad_read hmrej hdir (by rw [hwidth]; exact hparity), State.retryOrEnd_of_last hlast]
        · have hmrej : (s.onBus (Bus.respond r md mdp mperr)).bus.mrej = true := bne_iff_ne.mpr hack
          exact ⟨.moduleReject, .inl rfl, State.takeResponse_of_reject hmrej x⟩
      obtain ⟨o, ho, hend⟩ := hend
      refine ⟨_, exec_wordResponse_taken h0 hx hp hlate md mdp mperr, ?_⟩
      rw [hend, State.endTransfer_identify hreq, State.identReport_of_fault (.inr ⟨ho, rfl⟩)]
      exact hkeep _ (Slot.fail .identBad) rfl rfl (fun m => by cases m <;> rfl) rfl rfl rfl rfl rfl rfl
    · refine ⟨_, exec_watchdog h0 hx hw, ?_⟩
      rw [State.retryOrEnd_of_last hlast, State.endTransfer_identify hreq, State.identReport_of_fault (.inl ⟨rfl, rfl⟩)]
      exact hkeep _ (Slot.fail .identNoResponse) rfl rfl (fun m => by cases m <;> rfl) rfl rfl rfl rfl rfl rfl
  obtain ⟨t, ht, hslot, hothers, hqueue, hlinks, hsel, hwait, hramp, hwin, hbuf, hlatch⟩ := hgoal
  exact ⟨t, ht, hslot, hothers, hqueue, hlinks, hsel, hwait, hramp, hwin, hbuf, hlatch⟩

end Sys2Proof.Machine
end

section
/-! PROOFS. The end and the abandonment of a lane's block transfer (R115, R118, R124, R135 to R139). -/

namespace Sys2Proof.Machine

section
variable {s u : State} {x : Transfer} {i : SlotId} {l : Link} {o : TransferOutcome} {r : Response} {md : Half} {mdp mperr : Bool}

/-- An arbiter that has decided has no more to decide (R128). -/
theorem Bus.decide_decide (b : Bus) : b.decide.decide = b.decide := by
  by_cases hfree : b.decide.state = .free
  · have hb : b.decide = b := by
      by_cases h : b.state = .free
      · cases hi : b.requestIdentify with
        | some i =>
          rw [Bus.decide_of_identify h hi] at hfree
          cases hfree
        | none =>
          rw [Bus.decide_of_lanes h hi] at hfree ⊢
          cases hp : b.request b.pointer with
          | some r =>
            simp only [hp] at hfree
            cases hfree
          | none =>
            cases ho : b.request b.pointer.other with
            | some r =>
              simp only [hp, ho] at hfree
              cases hfree
            | none => rfl
      · exact Bus.decide_of_busy h
    rw [hb, hb]
  · exact Bus.decide_of_busy hfree

/-- The lane takes the report of its transfer, the arbiter decides, and the lanes go on (R137, R138). -/
def State.handOn (s : State) (l : Link) (dir : Direction) (r : Report) : State :=
  ((((s.setBusState .free).takeReport l dir r).onBus Bus.decide).settle l)

/-- The slot's count after a transfer, and the end of DRAINING (R115, R136). -/
def Slot.counted (n : Nat) (y : Slot) : Slot :=
  if y.state = .draining then { y.enter .present with noResponse := n } else { y with noResponse := n }

theorem State.endTransfer_lane (hr : x.requester = .lane l) (o : TransferOutcome) :
    s.endTransfer x o = (((((s.setBusState .free).slotEnd x.slot o).takeReport l x.direction o.report).onBus
      Bus.decide).settle l) := by
  rw [State.endTransfer, hr]

/-- The Slot Manager's part in the end of a transfer, but for the third NO_RESPONSE in a row. -/
theorem State.slotEnd_of_counted (h : o ≠ .noResponse ∨ (s.slot i).noResponse ≠ 2) :
    (s.setBusState .free).slotEnd i o = (s.onSlot i (Slot.counted (o.count (s.slot i).noResponse))).setBusState .free := by
  have hno : ¬ (o = .noResponse ∧ o.count (s.slot i).noResponse = Config.noResponseMax ∧
      ((s.slot i).state = .ready ∨ (s.slot i).state = .draining)) := by
    rintro ⟨ho, hn, -⟩
    have hthree : (s.slot i).noResponse + 1 = 3 := by rw [ho] at hn; exact hn
    rcases h with h | h
    · exact h ho
    · omega
  have hset : ∀ f g : Slot → Slot, f (s.slot i) = g (s.slot i) → s.onSlot i f = s.onSlot i g := fun f g hfg => by
    have hfg' : f (s.slots.get i) = g (s.slots.get i) := hfg
    rw [State.onSlot, State.onSlot, hfg']
  have hslot : (s.setBusState .free).slot i = s.slot i := rfl
  rw [State.slotEnd, hslot]
  simp only [if_neg hno]
  split
  next hd =>
    have hcounted : s.onSlot i (fun y => ({ y with noResponse := o.count (s.slot i).noResponse } : Slot).enter .present) =
        s.onSlot i (Slot.counted (o.count (s.slot i).noResponse)) := hset _ _ (by rw [Slot.counted, if_pos hd]; rfl)
    rw [State.onSlot_onSlot]
    exact congrArg (State.setBusState · .free) hcounted
  next hd =>
    have hcounted : s.onSlot i (fun y => { y with noResponse := o.count (s.slot i).noResponse }) =
        s.onSlot i (Slot.counted (o.count (s.slot i).noResponse)) := hset _ _ (by rw [Slot.counted, if_neg hd])
    exact congrArg (State.setBusState · .free) hcounted

/-- The third NO_RESPONSE in a row faults a powered slot (R118). -/
theorem State.slotEnd_of_third (h : (s.slot i).noResponse = 2) (hs : (s.slot i).state = .ready ∨ (s.slot i).state = .draining) :
    (s.setBusState .free).slotEnd i .noResponse =
      ((s.onSlot i (fun y => { y.fail .unresponsive with noResponse := 3 })).raiseBoth (.fault i)).setBusState .free := by
  have hslot : (s.setBusState .free).slot i = s.slot i := rfl
  rw [State.slotEnd, hslot, h]
  simp only [TransferOutcome.count, hs, Config.noResponseMax, and_self, if_true, State.faultSlot]
  rw [State.onSlot_onSlot]
  rfl

theorem State.endTransfer_of_counted (hr : x.requester = .lane l) (h : o ≠ .noResponse ∨ (s.slot x.slot).noResponse ≠ 2) :
    s.endTransfer x o = (s.onSlot x.slot (Slot.counted (o.count (s.slot x.slot).noResponse))).handOn l x.direction o.report := by
  rw [State.endTransfer_lane hr, State.slotEnd_of_counted h]
  rfl

/-! Abandonment at a removal and a trip (R104, R117, R124, R139) -/

/-- A slot in none of the sequencers' lists leaves them as they are. -/
theorem State.leaveSequencers_of_unlisted (hw : i ∉ s.powerWait) (hramp : s.ramping ≠ some i) (hq : i ∉ s.identQueue)
    (hreq : s.bus.requestIdentify ≠ some i) : s.leaveSequencers i = s := by
  have hkeep : ∀ is : List SlotId, i ∉ is → is.filter (fun k => k != i) = is := fun is his =>
    List.filter_eq_self.mpr fun k hk => bne_iff_ne.mpr fun hki => his (hki ▸ hk)
  rw [State.leaveSequencers, hkeep _ hw, hkeep _ hq, if_neg hramp, if_neg hreq]

theorem State.rampAfter_of_other {p : SlotPhase} (h : p ≠ .ramping) (s : State) : s.rampAfter p = s := if_neg h

/-- The block in flight to a slot is abandoned: its lane takes the error, then the arbiter decides. -/
theorem State.abandonTransfer_of_lane (hx : s.bus.state = .inFlight x) (hi : x.slot = i) (hr : x.requester = .lane l)
    (e : ErrorKind) : s.abandonTransfer i e =
      (((s.setBusState .free).takeReport l x.direction (.error e)).identStep).settle l := by
  rw [State.abandonTransfer, hx]
  simp only [hi, if_true, hr]
  have htwice : ∀ t : State, t.identStep.onBus Bus.decide = t.identStep := fun t => by
    rw [State.identStep]
    exact congrArg (fun b => ({ t.identJoin with bus := b } : State)) (Bus.decide_decide _)
  rw [htwice]

/-- A READY or DRAINING slot that stands in no list. -/
structure State.unlisted (s : State) (i : SlotId) : Prop where
  state : (s.slot i).state = .ready ∨ (s.slot i).state = .draining
  powerWait : i ∉ s.powerWait
  ramping : s.ramping ≠ some i
  queue : i ∉ s.identQueue
  request : s.bus.requestIdentify ≠ some i

/-- A powered slot with a lane's block in flight is left: what becomes of the slot, and the abandonment. -/
theorem State.left_of_unlisted (h : s.unlisted i) (hx : s.bus.state = .inFlight x) (hi : x.slot = i) (hr : x.requester = .lane l)
    (f : Slot → Slot) (c : Condition) (e : ErrorKind) :
    ((((s.onSlot i f).leaveSequencers i).raiseBoth c).rampAfter (s.slot i).state).abandonTransfer i e =
      (((((s.onSlot i f).raiseBoth c).setBusState .free).takeReport l x.direction (.error e)).identStep).settle l := by
  have hleave : (s.onSlot i f).leaveSequencers i = s.onSlot i f :=
    State.leaveSequencers_of_unlisted (s := s.onSlot i f) h.powerWait h.ramping h.queue h.request
  have hramp : (s.slot i).state ≠ .ramping := by rcases h.state with hs | hs <;> simp [hs]
  have hx' : ((s.onSlot i f).raiseBoth c).bus.state = .inFlight x := hx
  rw [hleave, State.rampAfter_of_other hramp, State.abandonTransfer_of_lane hx' hi hr]

theorem exec_presDeassert_of_unlisted (h0 : s.inReset = false) (h : s.unlisted i) (hx : s.bus.state = .inFlight x)
    (hi : x.slot = i) (hr : x.requester = .lane l) :
    exec (.presDeassert i) s = .next ((((((s.onSlot i (fun y => { y.enter .empty with presPin := false })).raiseBoth
      (.removed i)).setBusState .free).takeReport l x.direction (.error .slotGone)).identStep).settle l).kick := by
  have hpin : ((s.onSlot i (fun y => { y with presPin := false })).slot i).state = (s.slot i).state := by rw [State.onSlot_slot]
  have hun : (s.onSlot i (fun y => { y with presPin := false })).unlisted i :=
    ⟨by rw [hpin]; exact h.state, h.powerWait, h.ramping, h.queue, h.request⟩
  have hremove : (s.onSlot i (fun y => { y with presPin := false })).presDeasserted i =
      (s.onSlot i (fun y => { y with presPin := false })).remove i := by
    rw [State.presDeasserted, hpin]
    rcases h.state with hs | hs <;> rw [hs]
  have hexec : exec (.presDeassert i) s = .next ((s.onSlot i (fun y => { y with presPin := false })).presDeasserted i).kick :=
    congrArg Host.Outcome.next (pinEvent_of_running h0 _ _)
  rw [hexec, hremove, State.remove, State.left_of_unlisted hun hx hi hr, State.onSlot_onSlot]
  rfl

theorem exec_trip_of_unlisted (h0 : s.inReset = false) (h : s.unlisted i) (hx : s.bus.state = .inFlight x)
    (hi : x.slot = i) (hr : x.requester = .lane l) :
    exec (.trip i true) s = .next ((((((s.onSlot i (fun y => { y.fail .overcurrent with tripPin := true })).raiseBoth
      (.fault i)).setBusState .free).takeReport l x.direction (.error .slotFault)).identStep).settle l).kick := by
  have hpin : ((s.onSlot i (fun y => { y with tripPin := true })).slot i).state = (s.slot i).state := by rw [State.onSlot_slot]
  have hun : (s.onSlot i (fun y => { y with tripPin := true })).unlisted i :=
    ⟨by rw [hpin]; exact h.state, h.powerWait, h.ramping, h.queue, h.request⟩
  have hpowered : ((s.onSlot i (fun y => { y with tripPin := true })).slot i).state.powered = true := by
    rw [hpin]
    rcases h.state with hs | hs <;> rw [hs] <;> rfl
  have hexec : exec (.trip i true) s = .next ((s.onSlot i (fun y => { y with tripPin := true })).tripped i).kick := by
    refine (congrArg Host.Outcome.next (pinEvent_of_running h0 _ _)).trans ?_
    rw [hpowered]
    rfl
  rw [hexec, State.tripped, State.left_of_unlisted hun hx hi hr, State.onSlot_onSlot]
  rfl

end

/-- Settles O56: how a lane's block ends, word by word, and what is handed on. -/
theorem transferEndsAreHandedOn : Obligations.TransferEndsAreHandedOn := by
  rintro l x s h0 hx hr handedOn rfl counted rfl
  refine ⟨fun r md mdp mperr hp hlate u hu => ?_, fun hw hlast => ⟨fun hno => ?_, fun hthird hs => ?_⟩,
    fun hs hwait hramp hq hreq abandoned habandoned => ?_⟩
  · obtain rfl : u = s.onBus (Bus.respond r md mdp mperr) := by
      rw [hu]
      refine congrArg (fun f => s.onBus f) (funext fun b => ?_)
      rw [Bus.respond, hlate]
    have hexec := exec_wordResponse_taken h0 hx hp hlate md mdp mperr
    refine ⟨fun hack => ?_, fun hack => ?_⟩
    · have hmrej : (s.onBus (Bus.respond r md mdp mperr)).bus.mrej = true := bne_iff_ne.mpr hack
      rw [hexec, State.takeResponse_of_reject hmrej, State.endTransfer_of_counted hr (.inl (by decide))]
      rfl
    · have hmrej : (s.onBus (Bus.respond r md mdp mperr)).bus.mrej = false := by
        change (r.lines != .ack) = false
        rw [hack]
        rfl
      refine ⟨fun hlast hbad => ?_, fun hend => ⟨fun hd hok => ?_, fun b hd hgood hb bytes hbytes => ?_⟩⟩
      · rw [hexec, State.takeResponse_of_bad hmrej hbad, State.retryOrEnd_of_last hlast,
          State.endTransfer_of_counted hr (.inl (by decide))]
        rfl
      · rw [hexec, State.takeResponse_of_good_write hmrej hd hok, State.nextWord_of_last hend,
          State.endTransfer_of_counted hr (.inl (by decide))]
        rfl
      · rw [hexec, State.takeResponse_of_good_read hmrej hd hgood, State.storeWord_of_lane hr hb hbytes,
          State.nextWord_of_last hend, State.endTransfer_of_counted hr (.inl (by decide))]
        rfl
  · rw [exec_watchdog h0 hx hw, State.retryOrEnd_of_last hlast, State.endTransfer_of_counted hr (.inr hno)]
    rfl
  · rw [exec_watchdog h0 hx hw, State.retryOrEnd_of_last hlast, State.endTransfer_lane hr,
      State.slotEnd_of_third hthird (by simpa using hs)]
    rfl
  · have hun : s.unlisted x.slot := ⟨by simpa using hs, hwait, hramp, hq, by simp [hreq]⟩
    rw [habandoned, exec_presDeassert_of_unlisted h0 hun hx rfl hr, exec_trip_of_unlisted h0 hun hx rfl hr]
    exact ⟨rfl, rfl⟩

end Sys2Proof.Machine
end

section
/-! PROOFS. What the transmit line carries (O47): the frame of the oldest entry, and its items and codes. -/

namespace Sys2Proof.Machine

section
variable {l : Link} {s : State}

theorem lineFrame_of_head {e : Entry} {es : List Entry} (ht : (s.link l).transmitting = true)
    (ho : (s.link l).outbound = e :: es) :
    lineFrame s l = some (frameBytes (entryFrame s l e).1 (entryFrame s l e).2.1 (entryFrame s l e).2.2) := by
  rw [lineFrame, ht, ho]

theorem State.txLevel_of_char {bytes : List Byte} (h : lineFrame s l = some bytes) {k : Nat} {b : Byte}
    (hb : bytes[k]? = some b) {i : Nat} (hi : i < 10) : s.txLevel l (10 * k + i) = (serialOf b).getLsbD i := by
  have hdiv : (10 * k + i) / 10 = k := by omega
  have hmod : (10 * k + i) % 10 = i := by omega
  simp [State.txLevel, h, hdiv, hmod, hb]

theorem State.txLevel_behind {bytes : List Byte} (h : lineFrame s l = some bytes) {n : Nat}
    (hn : 10 * bytes.length ≤ n) : s.txLevel l n = true := by
  have hnone : bytes[n / 10]? = none := List.getElem?_eq_none (by omega)
  simp [State.txLevel, h, hnone]

end

theorem beBytes_one (n : Nat) : beBytes 1 n = [BitVec.ofNat 8 n] := rfl

theorem boolCode_eq (b : Bool) : boolCode b = if b then 1 else 0 := by cases b <;> rfl

theorem boolCode_two (b : Bool) : 2 * boolCode b = if b then 2 else 0 := by cases b <;> rfl

theorem beBytes_four (n : Nat) : beBytes 4 n =
    [BitVec.ofNat 8 (n / 16777216), BitVec.ofNat 8 (n / 65536), BitVec.ofNat 8 (n / 256), BitVec.ofNat 8 n] := by
  simp [beBytes, Nat.div_div_eq_div_mul]

/-- The set of a CONDITION notice, as the bytes of a 32-bit word (R183). -/
theorem beBytes_conditions (c : ConditionSet) (w : Word) (hw : w = c.setWidth 32) :
    beBytes 4 c.toNat = [(w >>> 24).setWidth 8, (w >>> 16).setWidth 8, (w >>> 8).setWidth 8, w.setWidth 8] := by
  have hc := c.isLt
  have hbyte : ∀ k : Nat, BitVec.ofNat 8 (c.toNat / 2 ^ k) = (w >>> k).setWidth 8 := fun k => by
    refine BitVec.eq_of_toNat_eq ?_
    have hw' : w.toNat = c.toNat := by rw [hw, BitVec.toNat_setWidth]; omega
    simp [hw', Nat.shiftRight_eq_div_pow]
  rw [beBytes_four, ← hbyte 24, ← hbyte 16, ← hbyte 8, ← BitVec.ushiftRight_zero (x := w), ← hbyte 0]
  simp

/-- The bytes of a block of `n` from a buffer, one by one. -/
theorem Memory.bytes_getElem? (m : Memory) {n i : Nat} (hi : i < n) : (m.bytes n)[i]? = some (m.read i) := by
  simp [Memory.bytes, hi]

theorem presence_byte (pins : BitVec 4) : beBytes 1 pins.toNat = [pins.setWidth 8] := by
  simp [beBytes]

/-- Settles O47: the line bit by bit, the payload of each kind of entry, and the codes of the tables. -/
theorem sentFramesCarryTheirEntries : Obligations.SentFramesCarryTheirEntries := by
  rintro one two four rfl rfl rfl
  refine ⟨fun s => rfl, fun l s => ⟨fun ht => ?_, fun bytes hline => ⟨?_, fun n hn => State.txLevel_behind hline hn,
    fun k b hb => ?_⟩, fun e es ht ho => ?_⟩, fun n k l o a c i p b r g bytes => ?_, rfl, rfl, rfl, rfl, rfl, rfl, rfl, rfl, rfl,
    fun m => rfl, rfl, rfl, rfl, rfl, rfl, rfl⟩
  · have hidle := lineFrame_of_idle ht
    exact ⟨hidle, by rw [State.frameBits, hidle]; rfl, State.txLevel_of_idle hidle⟩
  · rw [State.frameBits, hline]
    rfl
  · obtain ⟨hstart, hdata, hstop⟩ := serialOf_levels b
    refine ⟨(State.txLevel_of_char hline hb (i := 0) (by decide)).trans hstart,
      (State.txLevel_of_char hline hb (by decide)).trans hstop, fun i hi => ?_⟩
    rw [Nat.add_assoc, State.txLevel_of_char hline hb (by omega), Nat.add_comm 1 i, hdata i hi]
  · refine ⟨_, _, _, _, (lineFrame_of_head ht ho).trans (congrArg some (frameBytes_eq _ _ _)), rfl, ?_, ?_, ?_, ?_, ?_⟩
    · rintro code r items rfl
      exact ⟨rfl, rfl, rfl⟩
    · rintro n rfl
      refine ⟨rfl, ?_, ?_, ?_, ?_, ?_, ?_⟩
      · rintro set rfl
        refine ⟨rfl, _, rfl, ?_⟩
        simp [entryFrame, Notice.items, itemsBytes, Item.bytes, itemBytes, Item.keyValue, beBytes_conditions set _ rfl]
      · rintro job host latch next completed rfl
        refine ⟨rfl, ?_⟩
        simp [entryFrame, Notice.items, itemsBytes, Item.bytes, itemBytes, Item.keyValue, beBytes_four, beBytes_one,
          boolCode_two, boolCode_eq host]
      · rintro job next completed rfl
        refine ⟨rfl, ?_⟩
        simp [entryFrame, Notice.items, itemsBytes, Item.bytes, itemBytes, Item.keyValue, beBytes_four, beBytes_one]
      · rintro job index completed (_ | ⟨kind, block⟩) rfl <;> exact ⟨rfl, rfl⟩
      · rintro job outcome completed failed (_ | first) rfl
        · refine ⟨rfl, ?_⟩
          simp [entryFrame, Notice.items, itemsBytes, Item.bytes, itemBytes, Item.keyValue, beBytes_four, beBytes_one]
        · refine ⟨rfl, ?_⟩
          simp [entryFrame, Notice.items, itemsBytes, Item.bytes, itemBytes, Item.keyValue, beBytes_four, beBytes_one,
            beBytes_two]
      · rintro count rfl
        exact ⟨rfl, rfl⟩
    · rintro job n rfl
      exact ⟨rfl, rfl, rfl⟩
    · rintro job k size b rfl
      refine ⟨rfl, rfl, ?_, rfl, fun i hi => ?_⟩
      · simp [entryFrame, Memory.bytes]
      · rw [← Memory.bytes_getElem? _ hi]
        simp [entryFrame, beBytes_two, Nat.add_comm 2 i]
    · rintro cause a pins rfl
      refine ⟨rfl, rfl, ?_⟩
      cases l <;> cases a <;>
        simp [entryFrame, itemsBytes, Item.bytes, itemBytes, Item.keyValue, presence_byte, linkCode, latchCode, Config.revision] <;> rfl
  · have hcapacity : capacityValue = [8, 8, 8, 4, 16, 8, 0, 8, 4, 4, 12, 2, 0] := rfl
    simp +contextual [Item.bytes, itemBytes, Item.keyValue, beBytes_one, beBytes_two, beBytes_four, boolCode_eq b, boolCode_two,
      hcapacity]

end Sys2Proof.Machine
end

section
/-! PROOFS. Slots that settle, ramp in turn and are identified (O49). -/

namespace Sys2Proof.Machine

section
variable {s : State} {i k : SlotId} {is rest : List SlotId}

theorem State.onSlot_congr {f g : Slot → Slot} (h : f (s.slot i) = g (s.slot i)) : s.onSlot i f = s.onSlot i g :=
  congrArg (fun x => ({ s with slots := s.slots.set i.val x i.isLt } : State)) h

/-- A SETTLING slot holds nothing and runs no ramp timer, so it leaves with the state and the settle timer alone. -/
theorem Slot.settling_enter {x : Slot} (hx : x.Law) (hs : x.state = .settling) :
    ({ x with presPin := false } : Slot).enter .empty =
      { x with presPin := false, state := .empty, settleTimer := .stopped } := by
  obtain ⟨hfault, hident, -, hramp, -, -⟩ := hx
  simp_all [Slot.enter]

/-! The Ramp Sequencer's check, whole (R106) -/

/-- The slots given faulted with OVERCURRENT, one after another (R106, R99). -/
def State.failAll (s : State) (is : List SlotId) : State := is.foldl (fun u n => u.onSlot n (Slot.fail .overcurrent)) s

theorem State.failAll_powerWait (s : State) (is w : List SlotId) :
    ({ s with powerWait := w } : State).failAll is = { s.failAll is with powerWait := w } := by
  induction is generalizing s with
  | nil => rfl
  | cons n is ih => exact ih (s.onSlot n (Slot.fail .overcurrent))

theorem State.fail_tripPin (s : State) (n k : SlotId) (e : FaultKind) :
    ((s.onSlot n (Slot.fail e)).slot k).tripPin = (s.slot k).tripPin := by
  by_cases hk : k = n
  · rw [hk, State.onSlot_slot]
    rfl
  · rw [State.onSlot_slot_ne s hk]

theorem rampFrom_of_all_tripped (h : ∀ n ∈ is, (s.slot n).tripPin = true) :
    rampFrom is s = ({ s.failAll is with powerWait := [] }, is) := by
  induction is generalizing s with
  | nil => rfl
  | cons n is ih =>
    have hrest := ih (s := ({ s with powerWait := is } : State).onSlot n (Slot.fail .overcurrent)) fun k hk =>
      (State.fail_tripPin _ n k _).trans (h k (List.mem_cons_of_mem _ hk))
    rw [rampFrom_of_tripped (h n List.mem_cons_self), hrest]
    exact Prod.ext (congrArg (fun t : State => { t with powerWait := [] })
      (State.failAll_powerWait (s.onSlot n (Slot.fail .overcurrent)) is is)) rfl

theorem rampFrom_of_first_sound (h : ∀ n ∈ is, (s.slot n).tripPin = true) (hk : (s.slot k).tripPin = false) :
    rampFrom (is ++ k :: rest) s =
      (({ s.failAll is with powerWait := rest, ramping := some k } : State).onSlot k Slot.rampStart, is) := by
  induction is generalizing s with
  | nil => exact rampFrom_of_sound hk
  | cons n is ih =>
    have hrest := ih (s := ({ s with powerWait := is ++ k :: rest } : State).onSlot n (Slot.fail .overcurrent))
      (fun m hm => (State.fail_tripPin _ n m _).trans (h m (List.mem_cons_of_mem _ hm)))
      ((State.fail_tripPin _ n k _).trans hk)
    rw [List.cons_append, rampFrom_of_tripped (h n List.mem_cons_self), hrest]
    have hcomm := congrArg (fun t : State => ({ t with powerWait := rest, ramping := some k } : State).onSlot k Slot.rampStart)
      (State.failAll_powerWait (s.onSlot n (Slot.fail .overcurrent)) is (is ++ k :: rest))
    exact Prod.ext hcomm rfl

theorem State.rampStep_of_busy (h : s.ramping ≠ none) : s.rampStep = s := by
  rw [State.rampStep, State.rampCheck_of_busy h]
  rfl

theorem State.rampStep_of_all_tripped (hr : s.ramping = none) (h : ∀ n ∈ s.powerWait, (s.slot n).tripPin = true) :
    s.rampStep = ({ s.failAll s.powerWait with powerWait := [] } : State).raiseFaults s.powerWait := by
  rw [State.rampStep, State.rampCheck_of_free hr, rampFrom_of_all_tripped h]

theorem State.rampStep_of_first_sound (hr : s.ramping = none) (hw : s.powerWait = is ++ k :: rest)
    (h : ∀ n ∈ is, (s.slot n).tripPin = true) (hk : (s.slot k).tripPin = false) :
    s.rampStep = (({ s.failAll is with powerWait := rest, ramping := some k } : State).onSlot k Slot.rampStart).raiseFaults is := by
  rw [State.rampStep, State.rampCheck_of_free hr, hw, rampFrom_of_first_sound h hk]

/-- What the Ramp Sequencer's check leaves of the part. -/
structure State.RampKept (s t : State) : Prop where
  queue : t.identQueue = s.identQueue
  bus : t.bus = s.bus
  windows : t.windows = s.windows
  buffers : t.buffers = s.buffers
  latch : t.latch = s.latch
  slot : ∀ k, k ∉ s.powerWait → t.slot k = s.slot k

theorem rampFrom_kept (w : List SlotId) (s : State) :
    ∃ slots waits r, (rampFrom w s).1 = { s with slots := slots, powerWait := waits, ramping := r } := by
  induction w generalizing s with
  | nil => exact ⟨_, _, _, rfl⟩
  | cons i rest ih =>
    unfold rampFrom
    simp only
    split
    next =>
      obtain ⟨slots, waits, r, h⟩ := ih (({ s with powerWait := rest } : State).onSlot i (Slot.fail .overcurrent))
      exact ⟨slots, waits, r, h⟩
    next => exact ⟨_, _, _, rfl⟩

theorem State.raiseFaults_kept (s : State) (is : List SlotId) :
    ∃ a b, s.raiseFaults is = { s with linkA := a, linkB := b } := by
  induction is generalizing s with
  | nil => exact ⟨_, _, rfl⟩
  | cons n is ih =>
    obtain ⟨a, b, h⟩ := ih (s.raiseBoth (.fault n))
    exact ⟨a, b, h⟩

theorem State.RampKept.rampStep (s : State) : s.RampKept s.rampStep := by
  obtain ⟨a, b, hfaults⟩ := State.raiseFaults_kept s.rampCheck.1 s.rampCheck.2
  have hstep : s.rampStep = { s.rampCheck.1 with linkA := a, linkB := b } := hfaults
  rw [hstep]
  by_cases hr : s.ramping = none
  · obtain ⟨-, hslot⟩ := rampFrom_rest s.powerWait s
    obtain ⟨slots, waits, r, h⟩ := rampFrom_kept s.powerWait s
    rw [State.rampCheck_of_free hr]
    exact ⟨by rw [h], by rw [h], by rw [h], by rw [h], by rw [h], hslot⟩
  · rw [State.rampCheck_of_busy hr]
    exact ⟨rfl, rfl, rfl, rfl, rfl, fun _ _ => rfl⟩

/-! Settling and the end of a ramp (R103, R106, R107) -/

theorem exec_settleExpiry (h0 : s.inReset = false) (h : (s.slot i).settleTimer ≠ .stopped) :
    exec (.settleTimerExpiry i) s = .next (s.settleExpires i).kick := by
  refine (congrArg Host.Outcome.next (event_of_running h0 _)).trans ?_
  rw [if_neg h]

theorem State.settleExpires_of_manual (h : (s.slot i).autoBringup = false) :
    s.settleExpires i = (s.onSlot i (Slot.enter .present)).raiseBoth (.inserted i) := by
  rw [State.settleExpires, h]
  rfl

theorem State.settleExpires_of_auto (h : (s.slot i).autoBringup = true) :
    s.settleExpires i = (((s.onSlot i (Slot.enter .present)).raiseBoth (.inserted i)).queueForPower i).rampStep := by
  rw [State.settleExpires, h]
  rfl

theorem State.queueForPower_entered (s : State) (i : SlotId) (p : SlotPhase) :
    (s.onSlot i (Slot.enter p)).queueForPower i =
      ({ s with powerWait := s.powerWait ++ [i] } : State).onSlot i (Slot.enter .queuedForPower) :=
  congrArg (fun t : State => ({ t with powerWait := s.powerWait ++ [i] } : State)) (State.onSlot_onSlot s i _ _)

theorem State.raiseBoth_queueForPower (s : State) (c : Condition) (i : SlotId) :
    (s.raiseBoth c).queueForPower i = (s.queueForPower i).raiseBoth c := rfl

theorem State.settleExpires_of_busy (h : (s.slot i).autoBringup = true) (hr : s.ramping ≠ none) :
    s.settleExpires i = (({ s with powerWait := s.powerWait ++ [i] } : State).onSlot i
      (Slot.enter .queuedForPower)).raiseBoth (.inserted i) := by
  rw [State.settleExpires_of_auto h, State.raiseBoth_queueForPower, State.queueForPower_entered]
  exact State.rampStep_of_busy hr

theorem State.rampStart_entered (s : State) (i : SlotId) (p : SlotPhase) :
    ({ s.onSlot i (Slot.enter p) with ramping := some i } : State).onSlot i Slot.rampStart =
      ({ s with ramping := some i } : State).onSlot i Slot.rampStart :=
  State.onSlot_onSlot ({ s with ramping := some i } : State) i _ _

theorem State.settleExpires_of_free (h : (s.slot i).autoBringup = true) (hr : s.ramping = none) (hw : s.powerWait = [])
    (ht : (s.slot i).tripPin = false) :
    s.settleExpires i = (({ s with ramping := some i } : State).onSlot i Slot.rampStart).raiseBoth (.inserted i) := by
  have htrip : ((s.onSlot i (Slot.enter .present)).slot i).tripPin = false := by
    rw [State.onSlot_slot]
    exact ht
  have hcheck : ∀ u : State, u.ramping = none → u.powerWait = [] → (u.slot i).tripPin = false →
      ((u.raiseBoth (.inserted i)).queueForPower i).rampStep =
        (({ u with ramping := some i } : State).onSlot i Slot.rampStart).raiseBoth (.inserted i) := fun u hr hw ht => by
    have hu : ((u.raiseBoth (.inserted i)).slot i).tripPin = false := ht
    rw [State.rampStep, State.rampCheck_queueForPower (s := u.raiseBoth (.inserted i)) hr hw, hu]
    rfl
  rw [State.settleExpires_of_auto h, hcheck (s.onSlot i (Slot.enter .present)) hr hw htrip, State.rampStart_entered]

/-- The slot that has ramped is IDENTIFYING at the tail of the identify queue, and the Ramp Sequencer is free (R106). -/
def State.ramped (s : State) (i : SlotId) : State :=
  { s.onSlot i (Slot.enter .identifying) with identQueue := s.identQueue ++ [i], ramping := none }

theorem exec_rampExpiry (h0 : s.inReset = false) (h : (s.slot i).rampTimer ≠ .stopped) :
    exec (.rampTimerExpiry i) s = .next ((s.ramped i).rampStep.identStep).kick := by
  refine (congrArg Host.Outcome.next (event_of_running h0 _)).trans ?_
  rw [if_neg h]
  rfl

theorem State.ramped_slot (s : State) (i : SlotId) : (s.ramped i).slot i = (s.slot i).enter .identifying :=
  State.onSlot_slot s i _

theorem State.ramped_slot_ne (s : State) (h : k ≠ i) : (s.ramped i).slot k = s.slot k := State.onSlot_slot_ne s h _

theorem State.ramped_rampStep_of_empty (hw : s.powerWait = []) : (s.ramped i).rampStep = s.ramped i := by
  have hw' : (s.ramped i).powerWait = [] := hw
  rw [State.rampStep_of_all_tripped rfl (fun n hn => absurd (hw' ▸ hn) List.not_mem_nil), hw']
  exact congrArg (fun w => ({ s.ramped i with powerWait := w } : State)) hw'.symm

theorem State.ramped_rampStep_of_head (hw : s.powerWait = k :: rest) (hk : k ≠ i) (ht : (s.slot k).tripPin = false) :
    (s.ramped i).rampStep = ({ s.ramped i with powerWait := rest, ramping := some k } : State).onSlot k Slot.rampStart :=
  State.rampStep_of_first_sound (s := s.ramped i) (is := []) rfl hw (fun n hn => absurd hn List.not_mem_nil)
    (by rw [State.ramped_slot_ne s hk]; exact ht)

/-- The head of the identify queue is granted a FREE bus at once (R107, R128). -/
theorem State.identStep_of_free (hf : s.bus.state = .free) (hr : s.bus.requestIdentify = none) (hq : s.identQueue = [i]) :
    s.identStep.bus.state = .granted (.identify i) := by
  have hflight : s.bus.identifyInFlight = false := by rw [Bus.identifyInFlight, hf]
  have hgranted : s.bus.identifyGranted i = false := by rw [Bus.identifyGranted, hf]
  rw [State.identStep, State.identJoin_of_head hq hr hflight hgranted]
  exact congrArg Bus.state (Bus.decide_of_identify (b := { s.bus with requestIdentify := some i }) hf rfl)

end

/-- Settles O49: presence, settling and the Ramp Sequencer's turns, case by case. -/
theorem slotsSettleAndRampInTurn : Obligations.SlotsSettleAndRampInTurn := by
  intro i s h0
  have hpin : ∀ b, ((s.onSlot i (fun x => { x with presPin := b })).slot i).state = (s.slot i).state := fun b => by
    rw [State.onSlot_slot]
  have hassert : exec (.presAssert i) s = .next ((s.onSlot i (fun x => { x with presPin := true })).presAsserted i).kick :=
    congrArg Host.Outcome.next (pinEvent_of_running h0 _ _)
  have hdeassert : exec (.presDeassert i) s =
      .next ((s.onSlot i (fun x => { x with presPin := false })).presDeasserted i).kick :=
    congrArg Host.Outcome.next (pinEvent_of_running h0 _ _)
  refine ⟨fun hs => ⟨?_, ?_⟩, fun hs => ?_, fun hs hlaw => ?_, fun hw => ?_, fun hw => ⟨fun ha => ?_, fun ha hr => ?_,
    fun ha hr hp ht => ?_⟩, fun hw => ?_, fun hw hwait => ?_, fun tripped k rest hr hp hnodup htripped ht => ?_,
    fun hr hnodup htripped => ?_⟩
  · rw [hassert, State.presAsserted, hpin, if_pos hs, State.onSlot_onSlot]
    rfl
  · rw [hdeassert, State.presDeasserted, hpin, hs]
  · rw [hassert, State.presAsserted, hpin, if_neg hs]
  · rw [hdeassert, State.presDeasserted, hpin, hs]
    have hslot := Slot.law_iff.mp hlaw
    have hempty : s.onSlot i (fun x => ({ x with presPin := false } : Slot).enter .empty) =
        s.onSlot i (fun x => { x with presPin := false, state := .empty, settleTimer := .stopped }) :=
      State.onSlot_congr (Slot.settling_enter hslot hs)
    exact congrArg (fun t : State => Host.Outcome.next t.kick) ((State.onSlot_onSlot s i _ _).trans hempty)
  · exact (congrArg Host.Outcome.next (event_of_running h0 _)).trans (by rw [if_pos hw])
  · rw [exec_settleExpiry h0 hw, State.settleExpires_of_manual ha]
  · rw [exec_settleExpiry h0 hw, State.settleExpires_of_busy ha hr]
  · rw [exec_settleExpiry h0 hw, State.settleExpires_of_free ha hr hp ht]
    rfl
  · exact (congrArg Host.Outcome.next (event_of_running h0 _)).trans (by rw [if_pos hw])
  · have hkept := State.RampKept.rampStep (s.ramped i)
    obtain ⟨g, hg, -⟩ := State.identStep_eq (s.ramped i).rampStep
    have hin : i ∉ (s.ramped i).powerWait := hwait
    rw [exec_rampExpiry h0 hw]
    refine ⟨_, rfl, ?_, ?_, ?_, ?_, ?_, fun hempty => ?_, fun k ks hk hki ht => ?_, fun hf hr hq => ?_⟩
    · rw [State.kick_slot, hg, State.onBus_slot, hkept.slot i hin, State.ramped_slot]
    · change (s.ramped i).rampStep.identStep.identQueue = _
      rw [hg]
      exact hkept.queue
    · rw [State.kick_windows, hg]
      exact hkept.windows
    · rw [State.kick_buffers, hg]
      exact hkept.buffers
    · change (s.ramped i).rampStep.identStep.latch = _
      rw [hg]
      exact hkept.latch
    · rw [hg, State.ramped_rampStep_of_empty hempty]
      refine ⟨rfl, fun k hk => ?_, fun m => ?_⟩
      · rw [State.kick_slot, State.onBus_slot, State.ramped_slot_ne s hk]
      · rw [State.kick_link, State.onBus_link]
        cases m <;> rfl
    · rw [hg, State.ramped_rampStep_of_head hk hki ht]
      have hslot := State.onSlot_slot ({ s.ramped i with powerWait := ks, ramping := some k } : State) k Slot.rampStart
      refine ⟨rfl, rfl, ?_, ?_, fun m => ?_⟩
      · rw [State.kick_slot, State.onBus_slot, hslot]
        rfl
      · rw [State.kick_slot, State.onBus_slot, hslot]
        rfl
      · rw [State.kick_link, State.onBus_link, State.onSlot_link]
        cases m <;> rfl
    · rw [State.kick_bus]
      refine State.identStep_of_free ?_ ?_ ?_
      · rw [hkept.bus]
        exact hf
      · rw [hkept.bus]
        exact hr
      · rw [hkept.queue]
        exact congrArg (· ++ [i]) hq
  · exact State.rampStep_of_first_sound hr hp htripped ht
  · exact State.rampStep_of_all_tripped hr htripped

end Sys2Proof.Machine
end

section
/-! PROOFS. Slots that lose their power: removals, trips (O50) and SPWR off (O27). -/

namespace Sys2Proof.Machine

section
variable {s : State} {b : Bus} {i k : SlotId} {x : Transfer} {e : ErrorKind} {f : Slot → Slot} {c : Condition}

/-! A slot out of every list, and the bus behind it (R104, R107, R139) -/

theorem Bus.slotInFlight_iff : b.slotInFlight i = true ↔ ∃ x, b.state = .inFlight x ∧ x.slot = i := by
  rw [Bus.slotInFlight]
  split <;> simp_all

theorem Bus.decide_requestIdentify_ne (h : b.requestIdentify ≠ some i) : b.decide.requestIdentify ≠ some i := by
  rcases Bus.decide_requestIdentify b with hd | hd
  · rwa [hd]
  · rw [hd]
    simp

theorem State.identJoin_requestIdentify (h : s.bus.requestIdentify ≠ some i) (hq : i ∉ s.identQueue) :
    s.identJoin.bus.requestIdentify ≠ some i := by
  rw [State.identJoin]
  split
  next => exact h
  next k rest hk =>
    split
    next =>
      have hki : k ≠ i := fun hki => hq (hk ▸ hki ▸ List.mem_cons_self)
      exact fun heq => hki (Option.some.inj heq)
    next => exact h

theorem State.identStep_busy (h : s.bus.state ≠ .free) : s.identStep.bus.state = s.bus.state := by
  obtain ⟨g, hg, hstate⟩ := State.identJoin_eq s
  have hjoin : s.identJoin.bus.state = s.bus.state := by rw [hg]; exact hstate
  change s.identJoin.bus.decide.state = _
  rw [Bus.decide_of_busy (by rw [hjoin]; exact h), hjoin]

/-- Behind a grant for another slot, and with no request waiting, the head of the queue asks (R107). -/
theorem State.identStep_of_granted {rest : List SlotId} (h : s.bus.state = .granted (.identify i))
    (hr : s.bus.requestIdentify = none) (hq : s.identQueue = k :: rest) (hk : k ≠ i) :
    s.identStep.bus.requestIdentify = some k ∧ s.identStep.bus.state = s.bus.state := by
  have hflight : s.bus.identifyInFlight = false := by rw [Bus.identifyInFlight, h]
  have hgranted : s.bus.identifyGranted k = false := by
    rw [Bool.eq_false_iff, Ne, Bus.identifyGranted_iff, h]
    rintro hki
    cases hki
    exact hk rfl
  have hstep : s.identStep = s.onBus (fun b => Bus.decide { b with requestIdentify := some k }) := by
    rw [State.identStep, State.identJoin_of_head hq hr hflight hgranted]
    rfl
  have hbusy : ({ s.bus with requestIdentify := some k } : Bus).state ≠ .free := by
    change s.bus.state ≠ _
    rw [h]
    simp
  rw [hstep]
  change (Bus.decide { s.bus with requestIdentify := some k }).requestIdentify = _ ∧
    (Bus.decide { s.bus with requestIdentify := some k }).state = _
  rw [Bus.decide_of_busy hbusy]
  exact ⟨rfl, rfl⟩

/-- The bus behind a slot that has left it: no identify request of the slot, and no transfer to it. -/
structure Bus.Left (i : SlotId) (b c : Bus) : Prop where
  request : c.requestIdentify ≠ some i
  quiet : c.slotInFlight i = false
  kept : b.slotInFlight i = false → ∀ x, b.state = .inFlight x → c.state = b.state

/-- No block of a lane is in flight to the slot. -/
def State.noBlockTo (s : State) (i : SlotId) : Prop :=
  ∀ x m, s.bus.state = .inFlight x → x.slot = i → x.requester ≠ .lane m

/-- An identity read in flight to the slot ends; the Identify Sequencer goes on with its head (R107, R139). -/
theorem State.abandonTransfer_of_no_block (h : s.noBlockTo i) (e : ErrorKind) :
    s.abandonTransfer i e = (if s.bus.slotInFlight i then s.setBusState .free else s).identStep := by
  have htwice : ∀ t : State, t.identStep.onBus Bus.decide = t.identStep := fun t =>
    congrArg (fun b => ({ t.identJoin with bus := b } : State)) (Bus.decide_decide _)
  rw [State.abandonTransfer]
  split
  next x hx =>
    split
    next hi =>
      have hid : x.requester = .identify := by
        cases hr : x.requester with
        | identify => rfl
        | lane m => exact absurd hr (h x m hx hi)
      rw [hid, if_pos (Bus.slotInFlight_iff.mpr ⟨x, hx, hi⟩)]
      exact htwice _
    next hi =>
      rw [if_neg (fun hfl => ?_)]
      obtain ⟨y, hy, hyi⟩ := Bus.slotInFlight_iff.mp hfl
      obtain rfl : x = y := BusState.inFlight.inj (hx.symm.trans hy)
      exact hi hyi
  next hb => simp [Bus.slotInFlight, hb]
  next hb => simp [Bus.slotInFlight, hb]

theorem State.abandonTransfer_left (h : s.noBlockTo i) (hreq : s.bus.requestIdentify ≠ some i) (hq : i ∉ s.identQueue)
    (e : ErrorKind) : ∃ b, s.abandonTransfer i e = { s with bus := b } ∧ s.bus.Left i b ∧
      ∀ k rest, s.bus.state = .granted (.identify i) → s.bus.requestIdentify = none → s.identQueue = k :: rest →
        b.requestIdentify = some k ∧ b.state = s.bus.state := by
  rw [State.abandonTransfer_of_no_block h]
  split
  next hfl =>
    obtain ⟨x, hx, -⟩ := Bus.slotInFlight_iff.mp hfl
    obtain ⟨g, hg, hflight⟩ := State.identStep_eq (s.setBusState .free)
    refine ⟨_, hg, ⟨?_, ?_, fun hno => absurd hno (by simp [hfl])⟩, fun k rest hgr => by rw [hx] at hgr; cases hgr⟩
    · have hjoin := State.identJoin_requestIdentify (s := s.setBusState .free) hreq hq
      have hbus : (s.setBusState .free).identStep.bus = g (s.setBusState .free).bus := by rw [hg]; rfl
      rw [← hbus]
      exact Bus.decide_requestIdentify_ne hjoin
    · rw [Bool.eq_false_iff, Ne, Bus.slotInFlight_iff]
      rintro ⟨y, hy, -⟩
      cases (hflight y).mp hy
  next hfl =>
    obtain ⟨g, hg, hflight⟩ := State.identStep_eq s
    have hbus : s.identStep.bus = g s.bus := by rw [hg]; rfl
    refine ⟨_, hg, ⟨?_, ?_, fun _ x hx => ?_⟩, fun k rest hgr hr hk => ?_⟩
    · rw [← hbus]
      exact Bus.decide_requestIdentify_ne (State.identJoin_requestIdentify hreq hq)
    · rw [Bool.eq_false_iff, Ne, Bus.slotInFlight_iff]
      rintro ⟨y, hy, hi⟩
      exact hfl (Bus.slotInFlight_iff.mpr ⟨y, (hflight y).mp hy, hi⟩)
    · rw [← hbus]
      exact State.identStep_busy (by rw [hx]; simp)
    · have hki : k ≠ i := fun hki => hq (hk ▸ hki ▸ List.mem_cons_self)
      rw [← hbus]
      exact State.identStep_of_granted hgr hr hk hki

/-! A slot that leaves the sequencers (R104, R107, R127) -/

theorem State.rampStep_of_none_waiting (hw : s.powerWait = []) : s.rampStep = s := by
  by_cases hr : s.ramping = none
  · rw [State.rampStep_of_all_tripped hr (fun n hn => absurd (hw ▸ hn) List.not_mem_nil), hw]
    exact congrArg (fun w => ({ s with powerWait := w } : State)) hw.symm
  · exact State.rampStep_of_busy hr

theorem filter_bne_eq (is : List SlotId) (i : SlotId) : is.filter (fun k => k != i) = is.filter (· ≠ i) :=
  List.filter_congr fun k _ => Bool.eq_iff_iff.mpr (by simp)

theorem State.leaveSequencers_requestIdentify (s : State) (i : SlotId) :
    (s.leaveSequencers i).bus.requestIdentify ≠ some i := by
  change (if s.bus.requestIdentify = some i then none else s.bus.requestIdentify) ≠ some i
  split
  next => simp
  next h => exact h

theorem State.leaveSequencers_identQueue (s : State) (i : SlotId) :
    (s.leaveSequencers i).identQueue = s.identQueue.filter (· ≠ i) := filter_bne_eq _ _

theorem State.leaveSequencers_powerWait (s : State) (i : SlotId) :
    (s.leaveSequencers i).powerWait = s.powerWait.filter (· ≠ i) := filter_bne_eq _ _

/-- A slot leaves the sequencers, its condition is raised, and a transfer to it that is no lane's ends. -/
theorem State.leave_facts (h : s.noBlockTo i) {p : SlotPhase} (hp : p = .ramping → s.powerWait = []) (c : Condition)
    (e : ErrorKind) :
    ∃ b, (((s.leaveSequencers i).raiseBoth c).rampAfter p).abandonTransfer i e =
        { (s.leaveSequencers i).raiseBoth c with bus := b } ∧ s.bus.Left i b ∧
      ∀ k rest, s.bus.state = .granted (.identify i) → s.bus.requestIdentify = none →
        s.identQueue.filter (· ≠ i) = k :: rest → b.requestIdentify = some k ∧ b.state = s.bus.state := by
  have hramp : ((s.leaveSequencers i).raiseBoth c).rampAfter p = (s.leaveSequencers i).raiseBoth c := by
    rw [State.rampAfter]
    split
    next hr =>
      refine State.rampStep_of_none_waiting (s := (s.leaveSequencers i).raiseBoth c) ?_
      change s.powerWait.filter (fun k => k != i) = []
      rw [hp hr]
      rfl
    next => rfl
  have hqueue := State.leaveSequencers_identQueue s i
  obtain ⟨b, hb, hleft, hnext⟩ := State.abandonTransfer_left (s := (s.leaveSequencers i).raiseBoth c) h
    (State.leaveSequencers_requestIdentify s i) (fun hmem => by
      have hmem' : i ∈ (s.leaveSequencers i).identQueue := hmem
      rw [hqueue] at hmem'
      simp at hmem') e
  rw [hramp]
  refine ⟨b, hb, ⟨hleft.request, hleft.quiet, hleft.kept⟩, fun k rest hg hr hk => hnext k rest hg ?_ (hqueue.trans hk)⟩
  change (if s.bus.requestIdentify = some i then none else s.bus.requestIdentify) = none
  rw [hr]
  rfl

theorem exec_presDeassert_of_removed (h0 : s.inReset = false) (he : (s.slot i).state ≠ .empty)
    (hs : (s.slot i).state ≠ .settling) :
    exec (.presDeassert i) s = .next (((((s.onSlot i (fun y => ({ y with presPin := false } : Slot).enter .empty)).leaveSequencers
      i).raiseBoth (.removed i)).rampAfter (s.slot i).state).abandonTransfer i .slotGone).kick := by
  have hpin : ((s.onSlot i (fun y => { y with presPin := false })).slot i).state = (s.slot i).state := by rw [State.onSlot_slot]
  have hremove : (s.onSlot i (fun y => { y with presPin := false })).presDeasserted i =
      (s.onSlot i (fun y => { y with presPin := false })).remove i := by
    rw [State.presDeasserted, hpin]
    cases hp : (s.slot i).state <;> simp_all
  refine (congrArg Host.Outcome.next (pinEvent_of_running h0 _ _)).trans ?_
  rw [hremove, State.remove, hpin, State.onSlot_onSlot]

theorem exec_trip_of_powered (h0 : s.inReset = false) (hp : (s.slot i).state.powered = true) :
    exec (.trip i true) s = .next (((((s.onSlot i (fun y => ({ y with tripPin := true } : Slot).fail .overcurrent)).leaveSequencers
      i).raiseBoth (.fault i)).rampAfter (s.slot i).state).abandonTransfer i .slotFault).kick := by
  have hpin : ((s.onSlot i (fun y => { y with tripPin := true })).slot i).state = (s.slot i).state := by rw [State.onSlot_slot]
  refine (congrArg Host.Outcome.next (pinEvent_of_running h0 _ _)).trans ?_
  rw [hpin, hp]
  change Host.Outcome.next ((s.onSlot i _).tripped i).kick = _
  rw [State.tripped, hpin, State.onSlot_onSlot]

/-- The part behind a slot that has left the sequencers: its condition raised, the bus as given, the transmitters begun. -/
theorem State.leave_kick (u : State) (i : SlotId) (c : Condition) (b : Bus) {t : State}
    (ht : t = ({ (u.leaveSequencers i).raiseBoth c with bus := b } : State).kick) :
    (∀ k, t.slot k = u.slot k) ∧ (∀ m, t.link m = ((u.link m).raise c).kick) ∧ t.bus = b ∧
      t.powerWait = u.powerWait.filter (· ≠ i) ∧ t.identQueue = u.identQueue.filter (· ≠ i) ∧
      t.ramping = (if u.ramping = some i then none else u.ramping) ∧
      t.windows = u.windows ∧ t.buffers = u.buffers ∧ t.latch = u.latch := by
  obtain ⟨hslot, hlink, hbus, hqueue, hwait, hramp, hwin, hbuf, hlatch⟩ :=
    State.raised_facts (u.leaveSequencers i) c (fun _ => b)
  rw [ht]
  refine ⟨hslot, fun m => (hlink m).trans ?_, hbus, hwait.trans (State.leaveSequencers_powerWait u i),
    hqueue.trans (State.leaveSequencers_identQueue u i), hramp, hwin, hbuf, hlatch⟩
  cases m <;> rfl

end

/-- Settles O50: the slot, the lists and the bus behind a removal and behind a trip, and the TRIPs levels that are none. -/
theorem slotsLoseTheirPower : Obligations.SlotsLoseTheirPower := by
  refine fun i s h0 => ⟨fun c condition after hcase hno hramp => ?_, fun asserted hno => ?_⟩
  · have hexec : ∃ g e, g (s.slot i) = after ∧ after.state.powered = false ∧ exec c s = .next
        (((((s.onSlot i g).leaveSequencers i).raiseBoth condition).rampAfter (s.slot i).state).abandonTransfer i e).kick := by
      rcases hcase with ⟨rfl, rfl, he, hs, rfl⟩ | ⟨rfl, rfl, hp, rfl⟩
      · exact ⟨_, _, rfl, rfl, exec_presDeassert_of_removed h0 he hs⟩
      · exact ⟨_, _, rfl, rfl, exec_trip_of_powered h0 ((SlotPhase.powered_iff _).mpr hp)⟩
    obtain ⟨g, e, hg, hoff, hexec⟩ := hexec
    obtain ⟨b, hb, hleft, hnext⟩ := State.leave_facts (s := s.onSlot i g) hno hramp condition e
    rw [hexec, hb]
    generalize ht : State.kick _ = t
    obtain ⟨hslot, hlink, hbus, hwait, hqueue, hramping, hwin, hbuf, hlatch⟩ := State.leave_kick _ i condition b ht.symm
    have hafter : t.slot i = after := by rw [hslot, State.onSlot_slot, hg]
    refine ⟨t, rfl, hafter, fun k hk => by rw [hslot, State.onSlot_slot_ne s hk], hwait, hqueue, hramping, ?_,
      fun k ks hgr hr hk => ?_, ?_, ?_, fun m => by rw [hlink, State.onSlot_link], hwin, hbuf, hlatch, fun x hx hi => ?_⟩
    · rw [hbus]
      exact hleft.request
    · rw [hbus]
      exact hnext k ks hgr hr hk
    · rw [State.pwren, hafter]
      exact hoff
    · rw [State.sel, hbus]
      exact hleft.quiet
    · rw [hbus]
      refine hleft.kept ?_ x hx
      rw [Bool.eq_false_iff, Ne, Bus.slotInFlight_iff]
      rintro ⟨y, hy, hyi⟩
      obtain rfl : x = y := BusState.inFlight.inj (hx.symm.trans hy)
      exact hi hyi
  · have hpin : ((s.onSlot i (fun y => { y with tripPin := asserted })).slot i).state = (s.slot i).state := by
      rw [State.onSlot_slot]
    refine (congrArg Host.Outcome.next (pinEvent_of_running h0 _ _)).trans ?_
    rw [hpin, if_neg]
    rw [Bool.and_eq_true, SlotPhase.powered_iff]
    rintro ⟨ha, hp⟩
    rcases hno with hno | hno
    · rw [hno] at ha
      cases ha
    · exact hno hp

end Sys2Proof.Machine
end

section
/-! PROOFS. SPWR off (O27): the slot's state, its use, and the Ramp Sequencer's next slot (R106, R112 to R115). -/

namespace Sys2Proof.Machine

section
variable {s : State} {l : Link} {i k : SlotId} {is rest : List SlotId} {force : Bool}

/-! A slot in use (R113) -/

theorem State.jobTransferTo_iff :
    s.jobTransferTo i = true ↔ ∃ x m, s.bus.state = .inFlight x ∧ x.slot = i ∧ x.requester = .lane m := by
  rw [State.jobTransferTo, Bool.and_eq_true, Bus.slotInFlight_iff, Bool.not_eq_true', Bool.eq_false_iff, Ne,
    Bus.identifyInFlight_iff]
  constructor
  · rintro ⟨⟨x, hx, hi⟩, hno⟩
    cases hr : x.requester with
    | lane m => exact ⟨x, m, hx, hi, hr⟩
    | identify => exact absurd ⟨x, hx, hr⟩ hno
  · rintro ⟨x, m, hx, hi, hr⟩
    refine ⟨⟨x, hx, hi⟩, ?_⟩
    rintro ⟨y, hy, hid⟩
    obtain rfl : x = y := BusState.inFlight.inj (hx.symm.trans hy)
    rw [hr] at hid
    cases hid

theorem Slot.boundBy_iff {x : Slot} {o : Option Binding} :
    x.boundBy i o = true ↔ ∃ b, o = some b ∧ b.slot = i ∧ b.generation = x.generation := by
  cases o <;> simp [Slot.boundBy]

theorem State.boundByLink_iff {m : Link} : s.boundByLink i m = true ↔ ∃ j b, (s.link m).working j ∧
    (j.bindPrimary = some b ∨ j.bindDestination = some b) ∧ b.slot = i ∧ b.generation = (s.slot i).generation := by
  simp only [State.working_iff]
  rw [State.boundByLink]
  cases ha : s.activeJob m with
  | none => simp
  | some j =>
    simp only [Bool.or_eq_true, Slot.boundBy_iff]
    constructor
    · rintro (⟨b, hb, h⟩ | ⟨b, hb, h⟩)
      · exact ⟨j, b, rfl, .inl hb, h⟩
      · exact ⟨j, b, rfl, .inr hb, h⟩
    · rintro ⟨_, b, ⟨⟩, hb | hb, h⟩
      · exact .inl ⟨b, hb, h⟩
      · exact .inr ⟨b, hb, h⟩

theorem State.slotInUse_iff : s.slotInUse i = true ↔ s.inUse i := by
  rw [State.slotInUse, Bool.or_eq_true, Bool.or_eq_true, State.jobTransferTo_iff, State.boundByLink_iff,
    State.boundByLink_iff, State.inUse, or_assoc]
  refine or_congr .rfl ⟨?_, ?_⟩
  · rintro (h | h)
    · exact ⟨.A, h⟩
    · exact ⟨.B, h⟩
  · rintro ⟨_ | _, h⟩
    · exact .inl h
    · exact .inr h

/-! The slot powered off, and the Ramp Sequencer's next (R106, R112) -/

theorem State.powerDown_eq (hq : i ∉ s.identQueue) (hr : s.bus.requestIdentify ≠ some i) :
    s.powerDown i = { s.onSlot i (Slot.enter .present) with
      powerWait := s.powerWait.filter (· ≠ i)
      ramping := if s.ramping = some i then none else s.ramping } := by
  have hqueue : s.identQueue.filter (fun k => k != i) = s.identQueue :=
    List.filter_eq_self.mpr fun k hk => bne_iff_ne.mpr fun hki => hq (hki ▸ hk)
  have hleave : ∀ u : State, u.identQueue.filter (fun k => k != i) = u.identQueue → u.bus.requestIdentify ≠ some i →
      u.leaveSequencers i = { u with
        powerWait := u.powerWait.filter (· ≠ i)
        ramping := if u.ramping = some i then none else u.ramping } := fun u hqueue hr => by
    rw [State.leaveSequencers, hqueue, if_neg hr, filter_bne_eq]
  exact hleave (s.onSlot i (Slot.enter .present)) hqueue hr

theorem State.powerDown_slot (s : State) (i : SlotId) : (s.powerDown i).slot i = (s.slot i).enter .present :=
  State.onSlot_slot s i _

theorem State.failAll_slot (h : i ∉ is) : (s.failAll is).slot i = s.slot i := by
  induction is generalizing s with
  | nil => rfl
  | cons n is ih =>
    rw [List.mem_cons, not_or] at h
    exact (ih h.2).trans (State.onSlot_slot_ne s h.1 _)

theorem State.failAll_rest (s : State) (is w : List SlotId) (r : Option SlotId) :
    ({ s with powerWait := w, ramping := r } : State).failAll is = { s.failAll is with powerWait := w, ramping := r } := by
  induction is generalizing s with
  | nil => rfl
  | cons n is ih => exact ih (s.onSlot n (Slot.fail .overcurrent))

/-- The slots that wait behind a RAMPING slot powered off, and what the Ramp Sequencer makes of them (R106, R112). -/
theorem State.stopRamp_eq {u : State} (h : (s.powerDown i).rampCheck = (u, is)) (hu : (u.slot i).state = .present) :
    s.stopRamp l i = (u.reply l 0x40 .ok [.slot i.val, .slotState .present]).raiseFaults is := by
  rw [State.stopRamp, h]
  simp only [State.replySlot, hu]

theorem State.powerDown_of_ramping (hr : s.ramping = some i) (hi : i ∉ s.powerWait) (hq : i ∉ s.identQueue)
    (hreq : s.bus.requestIdentify ≠ some i) :
    s.powerDown i = { s.onSlot i (Slot.enter .present) with powerWait := s.powerWait, ramping := none } := by
  have hwait : s.powerWait.filter (· ≠ i) = s.powerWait :=
    List.filter_eq_self.mpr fun k hk => decide_eq_true fun hki => hi (hki ▸ hk)
  rw [State.powerDown_eq hq hreq, hwait, if_pos hr]

theorem State.present_tripPin (s : State) (i n : SlotId) :
    ((s.onSlot i (Slot.enter .present)).slot n).tripPin = (s.slot n).tripPin := by
  by_cases hn : n = i
  · rw [hn, State.onSlot_slot]
    rfl
  · rw [State.onSlot_slot_ne s hn]

theorem State.present_failAll (s : State) (h : i ∉ is) :
    ((s.onSlot i (Slot.enter .present)).failAll is).slot i = (s.slot i).enter .present := by
  rw [State.failAll_slot h, State.onSlot_slot]

theorem State.stopRamp_of_all_tripped (hr : s.ramping = some i) (hi : i ∉ s.powerWait) (hq : i ∉ s.identQueue)
    (hreq : s.bus.requestIdentify ≠ some i) (ht : ∀ n ∈ s.powerWait, (s.slot n).tripPin = true) :
    s.stopRamp l i = (({ (s.onSlot i (Slot.enter .present)).failAll s.powerWait with
      powerWait := [], ramping := none } : State).reply l 0x40 .ok [.slot i.val, .slotState .present]).raiseFaults s.powerWait := by
  refine State.stopRamp_eq ?_ (congrArg Slot.state (State.present_failAll s hi))
  have hramp := rampFrom_of_all_tripped
    (s := { s.onSlot i (Slot.enter .present) with powerWait := s.powerWait, ramping := none })
    (fun n hn => (State.present_tripPin s i n).trans (ht n hn))
  rw [State.failAll_rest] at hramp
  rw [State.powerDown_of_ramping hr hi hq hreq]
  exact hramp

theorem State.stopRamp_of_first_sound (hr : s.ramping = some i) (hw : s.powerWait = is ++ k :: rest) (hi : i ∉ s.powerWait)
    (hq : i ∉ s.identQueue) (hreq : s.bus.requestIdentify ≠ some i) (ht : ∀ n ∈ is, (s.slot n).tripPin = true)
    (hk : (s.slot k).tripPin = false) :
    s.stopRamp l i = ((({ (s.onSlot i (Slot.enter .present)).failAll is with
      powerWait := rest, ramping := some k } : State).onSlot k Slot.rampStart).reply l 0x40 .ok
        [.slot i.val, .slotState .present]).raiseFaults is := by
  have hmem := hi
  rw [hw, List.mem_append, List.mem_cons, not_or, not_or] at hmem
  obtain ⟨his, hik, -⟩ := hmem
  refine State.stopRamp_eq ?_ ?_
  · have hramp := rampFrom_of_first_sound (rest := rest)
      (s := { s.onSlot i (Slot.enter .present) with powerWait := s.powerWait, ramping := none })
      (fun n hn => (State.present_tripPin s i n).trans (ht n hn)) ((State.present_tripPin s i k).trans hk)
    rw [State.failAll_rest, ← hw] at hramp
    rw [State.powerDown_of_ramping hr hi hq hreq]
    exact hramp
  · rw [State.onSlot_slot_ne _ hik]
    exact congrArg Slot.state (State.present_failAll s his)

/-! The owner's answers (R112 to R115) -/

theorem State.spwrOffSlot_of_refused (h : (s.slot i).state ∈ [SlotPhase.empty, .settling, .faulted]) :
    s.spwrOffSlot l i force = s.reply l 0x40 .slotState [] := by
  rw [State.spwrOffSlot]
  cases hp : (s.slot i).state <;> simp [hp] at h <;> rfl

theorem State.spwrOffSlot_of_idle (h : (s.slot i).state ∈ [SlotPhase.present, .draining]) :
    s.spwrOffSlot l i force = s.replySlot l 0x40 i := by
  rw [State.spwrOffSlot]
  cases hp : (s.slot i).state <;> simp [hp] at h <;> rfl

theorem State.replySlot_of_present {u : State} (h : (u.slot i).state = .present) :
    u.replySlot l 0x40 i = u.reply l 0x40 .ok [.slot i.val, .slotState .present] := by
  rw [State.replySlot, h]

theorem State.spwrOffSlot_of_ready (h : (s.slot i).state = .ready) :
    s.spwrOffSlot l i force =
      if s.slotInUse i then
        if force then (s.forceOff i).replySlot l 0x40 i else s.reply l 0x40 .slotBusy []
      else (s.onSlot i (Slot.enter .present)).reply l 0x40 .ok [.slot i.val, .slotState .present] := by
  have hpresent : ((s.onSlot i (Slot.enter .present)).slot i).state = .present := by
    rw [State.onSlot_slot]
    rfl
  rw [State.spwrOffSlot, h]
  simp only
  rw [State.replySlot_of_present hpresent]
  rfl

/-- A reply on a bus that is given, and the transmitters begun. -/
theorem State.reply_bus_kick (u : State) (b : Bus) (items : List Item) {t : State}
    (ht : t = ({ u.reply l 0x40 .ok items with bus := b } : State).kick) :
    t.slots = u.slots ∧ t.identQueue = u.identQueue ∧ t.bus = b ∧ t.link l = ((u.link l).push (.reply 0x40 .ok items)).kick ∧
      t.link l.other = (u.link l.other).kick ∧ t.windows = u.windows ∧ t.buffers = u.buffers ∧ t.latch = u.latch := by
  subst ht
  cases l <;> exact ⟨rfl, rfl, rfl, rfl, rfl, rfl, rfl, rfl⟩

/-- An IDENTIFYING slot powered off leaves the identify queue, and a read of it in flight ends (R112, R124). -/
theorem State.spwrOffSlot_of_identifying (h : (s.slot i).state = .identifying) (hlaw : s.flightLaw = true) :
    ∃ b, s.spwrOffSlot l i force =
        { (s.powerDown i).reply l 0x40 .ok [.slot i.val, .slotState .present] with bus := b } ∧ s.bus.Left i b := by
  have hpresent : ((s.powerDown i).slot i).state = .present := by
    rw [State.powerDown_slot]
    rfl
  have hno : s.noBlockTo i := by
    rintro x m hx rfl hr
    simp [State.flightLaw, hx, hr, h] at hlaw
  have hqueue : i ∉ (s.powerDown i).identQueue := by
    rw [State.powerDown, State.leaveSequencers_identQueue]
    simp
  have hreq : (s.powerDown i).bus.requestIdentify ≠ some i := State.leaveSequencers_requestIdentify _ i
  have hflight : (s.powerDown i).bus.state = s.bus.state := rfl
  generalize hu : (s.powerDown i).reply l 0x40 .ok [.slot i.val, .slotState .present] = u
  have hbus : u.bus = (s.powerDown i).bus := by rw [← hu, State.reply, State.onLink_bus]
  have hqueue' : u.identQueue = (s.powerDown i).identQueue := by rw [← hu, State.reply, State.onLink_identQueue]
  have hstate : u.bus.state = s.bus.state := by rw [hbus, hflight]
  obtain ⟨b, hb, hleft, -⟩ := State.abandonTransfer_left (s := u) (fun x m hx => hno x m (hstate ▸ hx)) (hbus ▸ hreq)
    (hqueue' ▸ hqueue) .slotGone
  refine ⟨b, ?_, hleft.request, hleft.quiet, fun hq x hx => ?_⟩
  · rw [State.spwrOffSlot, h]
    simp only
    rw [State.replySlot_of_present hpresent, hu, hb]
  · have hquiet : u.bus.slotInFlight i = false := by rw [Bus.slotInFlight, hstate]; exact hq
    rw [hleft.kept hquiet x (hstate.trans hx), hstate]

end

/-- Settles O27: SPWR off by the slot that the number names, its state and its use. -/
theorem spwrOffFollowsTheSlotState : Obligations.SpwrOffFollowsTheSlotState := by
  rintro l i force s hready down rfl
  have hoff : exec (.spwrOff l i.val force) s = .next (s.spwrOffSlot l i force).kick := by
    have howner : s.takeRequest l (.spwr i.val 0 force) = s.spwrOffSlot l i force := by
      change s.takeSpwrOff l i.val force = _
      rw [State.takeSpwrOff, slotOf_val]
    rw [← howner]
    exact exec_of_ready hready (.spwr i.val 0 force) rfl
  refine ⟨fun n hn => ?_, fun hs => ?_, fun hs => ?_, fun hs hr hq hreq => ?_, fun hs hr hw hq hreq => ?_,
    fun tripped rest hs hr hw hnodup hi hq hreq ht faulted hfaulted replied hreplied => ⟨fun hrest => ?_, fun k ks hrest hk => ?_⟩,
    fun hs hlaw => ?_, fun hs hu => ?_, fun hs hu hf => ?_, fun hs hu hf => ⟨fun hx => ?_, fun hx => ?_⟩⟩
  · refine exec_reply hready (.spwr n 0 force) rfl (t := s) ?_
    change s.takeSpwrOff l n force = _
    rw [State.takeSpwrOff, slotOf_of_gt hn]
    rfl
  · rw [hoff, State.spwrOffSlot_of_refused hs]
    rfl
  · rw [hoff, State.spwrOffSlot_of_idle hs]
    rfl
  · rw [hoff, State.spwrOffSlot, hs]
    simp only
    rw [State.replySlot_of_present (congrArg Slot.state (State.powerDown_slot s i)), State.powerDown_eq hq hreq, if_neg hr]
    rfl
  · rw [hoff, State.spwrOffSlot, hs]
    simp only
    rw [State.stopRamp_of_all_tripped hr (by simp [hw]) hq hreq (by simp [hw]), hw]
    exact congrArg (fun w => Host.Outcome.next (({ s.onSlot i (Slot.enter .present) with
      powerWait := w, ramping := none } : State).reply l 0x40 .ok [.slot i.val, .slotState .present]).kick) hw.symm
  · rw [hoff, State.spwrOffSlot, hs]
    simp only
    rw [hrest, List.append_nil] at hw
    rw [State.stopRamp_of_all_tripped hr hi hq hreq (by simpa [hw] using ht), hreplied, hfaulted, hw]
    rfl
  · rw [hoff, State.spwrOffSlot, hs]
    simp only
    rw [State.stopRamp_of_first_sound hr (hrest ▸ hw) hi hq hreq ht hk, hreplied, hfaulted]
    rfl
  · obtain ⟨b, hb, hleft⟩ := State.spwrOffSlot_of_identifying (l := l) (force := force) hs hlaw
    rw [hoff, hb]
    generalize ht : State.kick _ = t
    obtain ⟨hslots, hqueue, hbus, hself, hother, hwin, hbuf, hlatch⟩ := State.reply_bus_kick (s.powerDown i) b _ ht.symm
    have hlink : ∀ m, (s.powerDown i).link m = s.link m := fun m => by cases m <;> rfl
    rw [hlink] at hself hother
    exact ⟨t, rfl, hslots, hqueue.trans (State.leaveSequencers_identQueue _ i), hbus ▸ hleft.request, hbus ▸ hleft.quiet,
      hbus ▸ hleft.kept, hself, hother, hwin, hbuf, hlatch⟩
  · rw [hoff, State.spwrOffSlot_of_ready hs, if_neg (mt State.slotInUse_iff.mp hu)]
    rfl
  · rw [hoff, State.spwrOffSlot_of_ready hs, if_pos (State.slotInUse_iff.mpr hu), hf]
    rfl
  · have hforce : s.forceOff i = s.onSlot i (fun x => { x with state := .draining }) :=
      if_pos (State.jobTransferTo_iff.mpr hx)
    rw [hoff, State.spwrOffSlot_of_ready hs, if_pos (State.slotInUse_iff.mpr hu), hf, hforce, if_pos rfl, State.replySlot,
      State.onSlot_slot]
    rfl
  · have hforce : s.forceOff i = s.onSlot i (Slot.enter .present) := if_neg (mt State.jobTransferTo_iff.mp hx)
    rw [hoff, State.spwrOffSlot_of_ready hs, if_pos (State.slotInUse_iff.mpr hu), hf, hforce, if_pos rfl, State.replySlot,
      State.onSlot_slot]
    rfl

end Sys2Proof.Machine
end

section
/-! PROOFS. What a lane's doing leaves of the other lane: while a lane wants no buffer, all that the other lane does on its
own leaves its link, its buffers, its wait, its request and its grant (R33, R34, R127). -/

namespace Sys2Proof.Machine

section
variable {s t u : State} {l m : Link} {b : BufId} {f : LinkState → LinkState} {bs : List BufId} {w : List Link}

/-- `t` is `s` as far as the lane of `l` goes. -/
structure State.Aside (l : Link) (s t : State) : Prop where
  link : t.link l = s.link l
  use : ∀ b, t.useOf l b = s.useOf l b
  wait : l ∉ s.waitList → l ∉ t.waitList
  request : s.bus.request l = none → t.bus.request l = none
  grant : s.bus.request l = none → ∀ r withdrawn, s.bus.state = .granted (.lane l r withdrawn) → t.bus.state = s.bus.state

theorem State.Aside.refl (l : Link) (s : State) : s.Aside l s := ⟨rfl, fun _ => rfl, id, id, fun _ _ _ _ => rfl⟩

theorem State.Aside.trans (h : s.Aside l t) (k : t.Aside l u) : s.Aside l u where
  link := k.link.trans h.link
  use b := (k.use b).trans (h.use b)
  wait hw := k.wait (h.wait hw)
  request hr := k.request (h.request hr)
  grant hr r withdrawn hg := by
    have ht := h.grant hr r withdrawn hg
    rw [k.grant (h.request hr) r withdrawn (ht.trans hg), ht]

theorem State.useOf_link_congr (h : t.buffers = s.buffers) (l : Link) (b : BufId) : t.useOf l b = s.useOf l b := by
  simp only [State.useOf, h]

theorem State.Aside.of_bus (hlink : t.link l = s.link l) (hbuf : ∀ b, t.useOf l b = s.useOf l b)
    (hwait : l ∉ s.waitList → l ∉ t.waitList) (hbus : t.bus = s.bus) : s.Aside l t :=
  ⟨hlink, hbuf, hwait, fun h => hbus ▸ h, fun _ _ _ _ => by rw [hbus]⟩

theorem State.Aside.onLink (hm : l ≠ m) (s : State) (f : LinkState → LinkState) : s.Aside l (s.onLink m f) :=
  .of_bus (State.onLink_ne s hm f) (State.useOf_link_congr (State.onLink_buffers s m f) l)
    (by rw [State.onLink_waitList]; exact id) (State.onLink_bus s m f)

theorem State.Aside.setHolder (hb : s.useOf l b = none) {a : Holder} (ha : ∀ u, a ≠ .lane l u) : s.Aside l (s.setHolder b a) := by
  refine .of_bus (State.setHolder_link s b a l) (fun c => ?_) id rfl
  by_cases hc : c = b
  · rw [hc, hb, Option.eq_none_iff_forall_ne_some]
    intro u hu
    rw [State.useOf_eq_some, State.setHolder_holder] at hu
    exact ha u hu
  · exact State.useOf_setHolder_ne s hc a l

theorem State.Aside.setBytes (s : State) (b : BufId) (x : Memory) : s.Aside l (s.setBytes b x) := by
  refine .of_bus (State.setBytes_link s b x l) (fun c => State.useOf_congr ?_ l) id rfl
  by_cases hc : c = b
  · rw [hc, State.setBytes_holder]
  · rw [State.setBytes_ne s hc]

theorem State.Aside.waits (s : State) (h : l ∉ s.waitList → l ∉ w) : s.Aside l { s with waitList := w } :=
  .of_bus (by cases l <;> rfl) (fun _ => rfl) h rfl

theorem State.Aside.withdrawWait (s : State) (m : Link) : s.Aside l (s.withdrawWait m) :=
  .waits s fun h hin => h (List.mem_of_mem_filter hin)

theorem State.Aside.joinWait (hm : l ≠ m) (s : State) : s.Aside l (s.joinWait m) := by
  unfold State.joinWait
  split
  next => exact .refl l s
  next => exact .waits s fun h hin => (List.mem_append.mp hin).elim h fun hl => hm (List.mem_singleton.mp hl)

/-! The bus (R127, R128) -/

theorem Bus.setRequest_request_ne (hm : l ≠ m) (b : Bus) (r : Option BusRequest) : (b.setRequest m r).request l = b.request l := by
  cases m with
  | A => cases l with
    | A => exact absurd rfl hm
    | B => rfl
  | B => cases l with
    | A => rfl
    | B => exact absurd rfl hm

theorem Bus.setRequest_request (b : Bus) (l : Link) (r : Option BusRequest) : (b.setRequest l r).request l = r := by
  cases l <;> rfl

theorem Bus.withState_request (b : Bus) (x : BusState) (p : Link) (l : Link) :
    ({ b with state := x, pointer := p } : Bus).request l = b.request l := by
  cases l <;> rfl

theorem Bus.withdraw_request (b : Bus) (m l : Link) : (b.withdraw m).request l = (b.setRequest m none).request l := by
  unfold Bus.withdraw
  simp only
  split
  next =>
    split
    next => exact Bus.withState_request _ _ _ l
    next => rfl
  next => rfl
  next => rfl
  next => rfl

/-- A grant to a lane is marked by that lane's withdrawal alone (R127, R129). -/
theorem Bus.withdraw_granted {r : BusRequest} {withdrawn : Bool} {b : Bus} (h : b.state = .granted (.lane l r withdrawn)) (m : Link) :
    (b.withdraw m).state = .granted (.lane l r (if l = m then true else withdrawn)) := by
  have hset : (b.setRequest m none).state = .granted (.lane l r withdrawn) := (Bus.setRequest_state b m none).trans h
  unfold Bus.withdraw
  simp only [hset]
  split
  next => rfl
  next => exact hset

theorem Bus.decide_request_none {b : Bus} (h : b.request l = none) : b.decide.request l = none := by
  have hgrant : ∀ m r, (b.grantLane m r).request l = none := fun m r => by
    rw [Bus.grantLane, Bus.withState_request]
    by_cases hm : l = m
    · rw [hm, Bus.setRequest_request]
    · rw [Bus.setRequest_request_ne hm, h]
  unfold Bus.decide
  split
  next => exact h
  next => exact h
  next =>
    split
    next => cases l <;> exact h
    next => exact hgrant _ _
    next => exact hgrant _ _
    next => exact h

theorem State.Aside.withdraw (hm : l ≠ m) (s : State) : s.Aside l (s.onBus (fun b => b.withdraw m)) where
  link := State.onBus_link s _ l
  use _ := rfl
  wait := id
  request h := by
    change (s.bus.withdraw m).request l = none
    rw [Bus.withdraw_request, Bus.setRequest_request_ne hm, h]
  grant _ r withdrawn hg := by
    change (s.bus.withdraw m).state = _
    rw [Bus.withdraw_granted hg, if_neg hm, hg]

theorem State.Aside.ask (hm : l ≠ m) (s : State) (r : BusRequest) : s.Aside l (s.onBus (fun b => b.ask m r)) where
  link := State.onBus_link s _ l
  use _ := rfl
  wait := id
  request h := Bus.decide_request_none ((Bus.setRequest_request_ne hm _ _).trans h)
  grant _ r' withdrawn hg := by
    have hset : (s.bus.setRequest m (some r)).state = s.bus.state := Bus.setRequest_state _ _ _
    change (s.bus.setRequest m (some r)).decide.state = _
    rw [Bus.decide_of_busy (by rw [hset, hg]; simp), hset]

theorem State.Aside.withdrawAll (hm : l ≠ m) (s : State) : s.Aside l (s.withdrawAll m) :=
  (State.Aside.withdrawWait s m).trans (.withdraw hm _)

/-! Buffers (R33, R34, R40, R44) -/

theorem State.wantsBuffer_congr (hlink : t.link l = s.link l) (huse : ∀ b, t.useOf l b = s.useOf l b) :
    t.wantsBuffer l = s.wantsBuffer l := by
  have hholds : t.holds l = s.holds l := funext fun b => by
    rw [Bool.eq_iff_iff, State.holds_iff, State.holds_iff]
    simp only [← State.useOf_eq_some, huse]
  have hfind : ∀ p, t.findUse l p = s.findUse l p := fun p => by simp only [State.findUse, huse]
  have hjob : t.activeJob l = s.activeJob l := by rw [State.activeJob, hlink]; rfl
  have hneeds : ∀ j, t.jobNeedsBuffer l j = s.jobNeedsBuffer l j := fun j => by
    simp only [State.jobNeedsBuffer, hfind, hlink]
  rw [State.wantsBuffer, State.wantsBuffer, State.heldCount, State.heldCount, hholds, hjob]
  simp only [hneeds]

theorem State.Aside.wantsBuffer (h : s.Aside l t) : t.wantsBuffer l = s.wantsBuffer l := State.wantsBuffer_congr h.link h.use

theorem State.Aside.grantCredit (hm : l ≠ m) (s : State) : s.Aside l (s.grantCredit m) := by
  unfold State.grantCredit
  split
  next => exact .refl l s
  next => exact (State.Aside.onLink hm s _).trans (.onLink hm _ _)

theorem State.Aside.dropIdleWait (s : State) (m : Link) : s.Aside l (s.dropIdleWait m) := by
  unfold State.dropIdleWait
  split
  next => exact .refl l s
  next =>
    split
    next => exact .withdrawWait s m
    next => exact .refl l s

theorem Holder.lane_ne (hm : l ≠ m) (v u : BufferUse) : Holder.lane m v ≠ .lane l u := fun h => by
  cases h
  exact hm rfl

theorem State.Aside.take (hm : l ≠ m) (hb : s.useOf l b = none) (v : BufferUse) : s.Aside l (s.setHolder b (.lane m v)) :=
  .setHolder hb (Holder.lane_ne hm v)

theorem State.Aside.assign (hm : l ≠ m) (hb : s.useOf l b = none) : s.Aside l (s.assign m b) := by
  unfold State.assign
  split
  next => exact .refl l s
  next =>
    split
    next => exact .take hm hb _
    next => exact .take hm hb _
    next => exact (State.Aside.take hm hb _).trans (.setBytes _ _ _)
    next => exact (State.Aside.take hm hb _).trans (.grantCredit hm _)

theorem State.Aside.giveBuffer (hno : s.wantsBuffer l = false) (hb : s.useOf l b = none) (hw : l ∉ s.waitList → l ∉ w) :
    s.Aside l (giveBuffer w b s) := by
  induction w generalizing s with
  | nil => exact .waits s fun _ => List.not_mem_nil
  | cons m rest ih =>
    have hrest : s.Aside l { s with waitList := rest } := .waits s fun h hin => hw h (List.mem_cons_of_mem _ hin)
    have hno' : ({ s with waitList := rest } : State).wantsBuffer l = false := hrest.wantsBuffer.trans hno
    unfold Machine.giveBuffer
    simp only
    split
    next hwant =>
      have hm : l ≠ m := fun h => by
        rw [← h, hno'] at hwant
        cases hwant
      have hassign : s.Aside l (({ s with waitList := rest } : State).assign m b) :=
        hrest.trans (.assign hm ((hrest.use b).trans hb))
      split
      next => exact hassign.trans (.joinWait hm _)
      next => exact hassign
    next => exact hrest.trans (ih hno' ((hrest.use b).trans hb) id)

theorem State.Aside.freeBuf (hno : s.wantsBuffer l = false) (hb : s.useOf l b = none) : s.Aside l (s.freeBuf b) := by
  have hfree : s.Aside l (s.setHolder b .free) := .setHolder hb fun u h => by cases h
  exact hfree.trans (.giveBuffer (hfree.wantsBuffer.trans hno) ((hfree.use b).trans hb) id)

theorem State.Aside.freeBufs (hno : s.wantsBuffer l = false) (hb : ∀ b ∈ bs, s.useOf l b = none) : s.Aside l (s.freeBufs bs) := by
  induction bs generalizing s with
  | nil => exact .refl l s
  | cons b bs ih =>
    have hfree : s.Aside l (s.freeBuf b) := .freeBuf hno (hb b List.mem_cons_self)
    exact hfree.trans (ih (hfree.wantsBuffer.trans hno) fun c hc => (hfree.use c).trans (hb c (List.mem_cons_of_mem _ hc)))

theorem State.Aside.emptyWriteBuffer (hm : l ≠ m) (hno : s.wantsBuffer l = false) (hb : s.useOf l b = none) :
    s.Aside l (s.emptyWriteBuffer m b) := by
  unfold State.emptyWriteBuffer
  split
  next => exact .freeBuf hno hb
  next =>
    split
    next => exact ((State.Aside.take hm hb _).trans (.grantCredit hm _)).trans (.dropIdleWait _ m)
    next => exact .freeBuf hno hb

theorem State.Aside.emptyAll (hm : l ≠ m) (hno : s.wantsBuffer l = false) (hb : ∀ b ∈ bs, s.useOf l b = none) :
    s.Aside l (bs.foldl (fun t b => t.emptyWriteBuffer m b) s) := by
  induction bs generalizing s with
  | nil => exact .refl l s
  | cons b bs ih =>
    have hempty : s.Aside l (s.emptyWriteBuffer m b) := .emptyWriteBuffer hm hno (hb b List.mem_cons_self)
    exact hempty.trans (ih (hempty.wantsBuffer.trans hno) fun c hc => (hempty.use c).trans (hb c (List.mem_cons_of_mem _ hc)))

theorem State.useOf_of_free {m : Link} (h : s.freeBuffer? = some b) : s.useOf m b = none := by
  have hfree := List.find?_some (p := fun b => decide ((s.buffers.get b).holder = .free)) h
  exact State.useOf_free (of_decide_eq_true hfree) m

theorem State.Aside.askBuffer (hm : l ≠ m) (s : State) : s.Aside l (s.askBuffer m) := by
  unfold State.askBuffer
  split
  next b hb => exact .assign hm (State.useOf_of_free hb)
  next => exact .joinWait hm s

theorem State.useOf_of_mem_allUses (hm : l ≠ m) {p : BufferUse → Bool} (h : b ∈ s.allUses m p) : s.useOf l b = none := by
  obtain ⟨u, hu, -⟩ := State.mem_allUses.mp h
  exact State.useOf_other hu hm

/-! Jobs, errors and blocks of the other lane (R15 to R20, R23, R37) -/

theorem State.Aside.offers (hm : l ≠ m) (s : State) (ns : List Notice) : s.Aside l (s.offers m ns) := by
  induction ns generalizing s with
  | nil => exact .refl l s
  | cons n ns ih => exact (State.Aside.onLink hm s _).trans (ih _)

theorem State.Aside.endJob (hm : l ≠ m) (hno : s.wantsBuffer l = false) (o : JobOutcome) : s.Aside l (s.endJob m o) := by
  cases h : s.activeJob m with
  | none =>
    rw [State.endJob, h]
    exact .refl l s
  | some j =>
    have hended : s.Aside l (s.ended m j o) := (State.Aside.withdrawAll hm s).trans (.onLink hm _ _)
    rw [State.endJob_eq h]
    exact hended.trans (.freeBufs (hended.wantsBuffer.trans hno) fun b hb => State.useOf_of_mem_allUses hm hb)

theorem State.Aside.unloadCopy (hm : l ≠ m) (s : State) : s.Aside l (s.unloadCopy m) := by
  unfold State.unloadCopy
  split
  next => exact .refl l s
  next b hb =>
    obtain ⟨u, hu, -⟩ := State.useOf_of_findUse hb
    exact .take hm (State.useOf_other hu hm) _

theorem State.Aside.discardSkipped (hm : l ≠ m) (hno : s.wantsBuffer l = false) (j : Job) : s.Aside l (s.discardSkipped m j) := by
  unfold State.discardSkipped
  split
  next => exact .refl l s
  next => exact .refl l s
  next => exact .unloadCopy hm s
  next => exact .emptyAll hm hno fun b hb => State.useOf_of_mem_allUses hm hb

theorem State.Aside.segmentError (hm : l ≠ m) (hno : s.wantsBuffer l = false) (i : ListId) (e : ErrorKind) :
    s.Aside l (s.segmentError m i e) := by
  unfold State.segmentError
  split
  next => exact .refl l s
  next j _ =>
    split
    next =>
      exact (State.Aside.onLink hm s _).trans (.endJob hm ((State.Aside.onLink hm s _).wantsBuffer.trans hno) .failed)
    next =>
      unfold State.abandonSegment
      have hskip := (State.Aside.onLink hm s (fun x => x.onHead (fun _ => j.abandon i e (j.restOfSegment i)))).trans
        (.offers hm _ (j.abandonNotices i e (j.restOfSegment i)))
      simp only
      split
      next => exact hskip.trans (.endJob hm (hskip.wantsBuffer.trans hno) _)
      next => exact hskip.trans (.discardSkipped hm (hskip.wantsBuffer.trans hno) _)

theorem State.Aside.startBlock (hm : l ≠ m) (hno : s.wantsBuffer l = false) (j : Job) (i : ListId) (x : Binding) :
    s.Aside l (s.startBlock m j i x) := by
  unfold State.startBlock
  split
  next => exact .segmentError hm hno i _
  next => exact .ask hm s _

theorem State.Aside.startTransfer (hm : l ≠ m) (hno : s.wantsBuffer l = false) (j : Job) (i : ListId) :
    s.Aside l (s.startTransfer m j i) := by
  unfold State.startTransfer
  split
  next => exact .startBlock hm hno j i _
  next =>
    split
    next => exact .refl l s
    next =>
      split
      next => exact .segmentError hm hno i _
      next => exact (State.Aside.onLink hm s _).trans (.startBlock hm ((State.Aside.onLink hm s _).wantsBuffer.trans hno) j i _)

theorem State.Aside.laneStep (hm : l ≠ m) (hno : s.wantsBuffer l = false) (h : s.laneStep m = some t) : s.Aside l t := by
  rcases State.laneStep_cases h with ⟨-, rfl⟩ | ⟨j, -, -, -, ⟨-, -, rfl⟩ | ⟨-, -, -, i, -, rfl⟩⟩
  · exact .onLink hm s _
  · exact .askBuffer hm s
  · exact .startTransfer hm hno j i

/-! A lane that does nothing on its own, whatever the other does -/

/-- The lane starts no job, wants no buffer and has no block to start. -/
structure State.Passive (l : Link) (s : State) : Prop where
  start : s.startCheck l = false
  wants : s.wantsBuffer l = false
  busy : ∀ j, s.activeJob l = some j → j.state = .running → s.bus.laneInFlight l = true

theorem Bus.laneInFlight_iff (b : Bus) (l : Link) :
    b.laneInFlight l = true ↔ ∃ x, b.state = .inFlight x ∧ x.requester = .lane l := by
  rw [Bus.laneInFlight]
  split <;> simp_all

theorem Bus.laneInFlight_congr {b c : Bus} (h : ∀ x, c.state = .inFlight x ↔ b.state = .inFlight x) (l : Link) :
    c.laneInFlight l = b.laneInFlight l := by
  rw [Bool.eq_iff_iff, Bus.laneInFlight_iff, Bus.laneInFlight_iff]
  simp only [h]

theorem State.Passive.aside (h : s.Passive l) (ha : s.Aside l t) (hf : LaneFrame s t) : t.Passive l := by
  have hjob : t.activeJob l = s.activeJob l := by rw [State.activeJob, ha.link]; rfl
  refine ⟨?_, ha.wantsBuffer.trans h.wants, fun j hj hr => ?_⟩
  · rw [State.startCheck, ha.link, hf.latchHold]
    exact h.start
  · rw [Bus.laneInFlight_congr hf.flight]
    exact h.busy j (hjob ▸ hj) hr

theorem State.Passive.laneStep (h : s.Passive l) : s.laneStep l = none := by
  rw [Option.eq_none_iff_forall_ne_some]
  intro t ht
  rcases State.laneStep_cases ht with ⟨hc, -⟩ | ⟨j, hj, hr, -, ⟨hw, -, -⟩ | ⟨-, hfree, -⟩⟩
  · rw [h.start] at hc
    cases hc
  · rw [h.wants] at hw
    cases hw
  · simp [State.laneFree, h.busy j hj hr] at hfree

theorem State.Passive.settleFrom (h : s.Passive l) (k : Link) (n : Nat) : s.Aside l (settleFrom k n s) := by
  have hstep : ∀ (m : Link) (s t : State), s.Passive l → s.laneStep m = some t → s.Aside l t := fun m s t h ht =>
    State.Aside.laneStep (fun hm => by rw [← hm, h.laneStep] at ht; cases ht) h.wants ht
  induction n generalizing s with
  | zero => exact .refl l s
  | succ n ih =>
    unfold Machine.settleFrom
    split
    next t ht => exact (hstep k s t h ht).trans (ih (h.aside (hstep k s t h ht) (.laneStep ht)))
    next =>
      split
      next t ht => exact (hstep k.other s t h ht).trans (ih (h.aside (hstep k.other s t h ht) (.laneStep ht)))
      next => exact .refl l s

/-- After an event that leaves a lane passive, the lanes' going on leaves it as it is. -/
theorem State.Passive.settle (h : s.Passive l) (k : Link) : s.Aside l (s.settle k) := h.settleFrom k _

/-- A lane without jobs is passive. -/
theorem State.Passive.of_no_jobs (h : (s.link l).live = []) : s.Passive l := by
  have hidle : s.activeJob l = none := by rw [State.activeJob, LinkState.activeJob, h]
  refine ⟨?_, State.wantsBuffer_idle hidle, fun j hj => ?_⟩
  · rw [State.startCheck, h, Bool.and_false]
  · rw [hidle] at hj
    cases hj

end

end Sys2Proof.Machine
end

section
/-! PROOFS. The teardown of a session and the link reset (O16, O17). -/

namespace Sys2Proof.Machine

section
variable {s t u : State} {l : Link} {b : BufId}

/-! A lane without jobs, behind an event -/

/-- `t` is `u` with the lanes gone on and the transmitters begun, as far as link `l`, the slots, the windows and the latch
go, and the other link's session, intake and conditions. -/
structure State.Rested (l : Link) (u t : State) : Prop where
  link : t.link l = (u.link l).kick
  use : ∀ b, t.useOf l b = u.useOf l b
  wait : l ∉ u.waitList → l ∉ t.waitList
  request : u.bus.request l = none → t.bus.request l = none
  grant : u.bus.request l = none → ∀ r withdrawn, u.bus.state = .granted (.lane l r withdrawn) → t.bus.state = u.bus.state
  flight : ∀ x, t.bus.state = .inFlight x ↔ u.bus.state = .inFlight x
  windows : t.windows = u.windows
  slots : t.slots = u.slots
  latch : t.latch = u.latch
  latchHold : t.latchHold = u.latchHold
  rate : t.rate = u.rate
  session : (t.link l.other).session = (u.link l.other).session
  intake : (t.link l.other).intake = (u.link l.other).intake
  conditions : (t.link l.other).conditions = (u.link l.other).conditions
  mask : (t.link l.other).mask = (u.link l.other).mask

theorem State.Passive.rested (h : u.Passive l) (k : Link) : u.Rested l (u.settle k).kick := by
  have ha := h.settle k
  have hf := LaneFrame.settle u k
  have hother := hf.link l.other
  have hkick : ∀ v : State, v.kick.buffers = v.buffers := fun v => rfl
  exact {
    link := by rw [State.kick_link, ha.link]
    use := fun b => (State.useOf_link_congr (hkick _) l b).trans (ha.use b)
    wait := ha.wait
    request := ha.request
    grant := ha.grant
    flight := hf.flight
    windows := hf.windows
    slots := hf.slots
    latch := hf.latch
    latchHold := hf.latchHold
    rate := hf.rate
    session := by rw [State.kick_link]; exact hother.session
    intake := by rw [State.kick_link]; exact hother.intake
    conditions := by rw [State.kick_link]; exact hother.conditions
    mask := by rw [State.kick_link]; exact hother.mask }

/-! The buffers of a lane without jobs (R12, R54, R55) -/

theorem State.activeJob_of_no_jobs (h : (s.link l).live = []) : s.activeJob l = none := by
  rw [State.activeJob, LinkState.activeJob, h]

/-- A buffer freed by a lane without jobs is not offered to it. -/
theorem State.freeBuf_wait_idle (h : s.activeJob l = none) (hw : l ∉ s.waitList) (b : BufId) : l ∉ (s.freeBuf b).waitList := by
  have hidle : (s.setHolder b .free).activeJob l = none := by rw [State.activeJob, State.setHolder_link]; exact h
  have hgive : (s.setHolder b .free).Aside l (s.freeBuf b) :=
    .giveBuffer (State.wantsBuffer_idle hidle) (State.useOf_setHolder_free s b l) id
  exact hgive.wait hw

theorem State.freeBufs_wait_idle (h : s.activeJob l = none) (hw : l ∉ s.waitList) (bs : List BufId) :
    l ∉ (s.freeBufs bs).waitList := by
  induction bs generalizing s with
  | nil => exact hw
  | cons b bs ih =>
    refine ih (s := s.freeBuf b) ?_ (State.freeBuf_wait_idle h hw b)
    rw [State.activeJob, State.freeBuf_link_idle h]
    exact h

/-- What a lane without jobs keeps of its buffers when it frees all but the OUTBOUND ones and that of its transfer. -/
theorem State.freeBufs_freedAtEnd (h : s.activeJob l = none) (f : Bool) (b : BufId) :
    (s.freeBufs (s.allUses l (BufferUse.freedAtEnd f))).useOf l b =
      (s.useOf l b).filter (fun u => u.isOutbound || (f && u.isInTransfer)) := by
  rw [State.freeBufs_useOf_idle h]
  cases hu : s.useOf l b with
  | none => simp
  | some v =>
    have hmem : b ∈ s.allUses l (BufferUse.freedAtEnd f) ↔ (v.isOutbound || (f && v.isInTransfer)) = false := by
      rw [State.mem_allUses, hu, ← Bool.not_eq_true', Bool.not_or]
      exact ⟨fun ⟨w, hw, hfreed⟩ => Option.some.inj hw ▸ hfreed, fun h => ⟨v, rfl, h⟩⟩
    rw [Option.filter_some]
    cases hv : (v.isOutbound || (f && v.isInTransfer)) with
    | true => rw [if_neg (by rw [hmem, hv]; simp), if_pos rfl]
    | false => rw [if_pos (hmem.mpr hv), if_neg (by simp)]

/-! The teardown (R170) -/

/-- The part of a teardown before buffers are freed. -/
def State.closing (s : State) (l : Link) : State :=
  ((s.withdrawAll l).onLink l (LinkState.closeSession (s.bus.laneInFlight l))).freeWindows l

theorem State.closing_link (s : State) (l : Link) : (s.closing l).link l = (s.link l).closeSession (s.bus.laneInFlight l) := by
  rw [State.closing, State.freeWindows_link, State.onLink_link, State.withdrawAll_link]

theorem State.closing_idle (s : State) (l : Link) : (s.closing l).activeJob l = none :=
  State.activeJob_of_no_jobs (by rw [State.closing_link]; rfl)

theorem State.closing_wait (s : State) (l : Link) : l ∉ (s.closing l).waitList := by
  rw [State.closing, State.freeWindows_waitList, State.onLink_waitList]
  simp [State.withdrawAll, State.withdrawWait, State.onBus]

theorem State.teardown_eq (s : State) (l : Link) :
    s.teardown l =
      if ((s.closing l).link l).lane.state = .idle then
        ((s.closing l).freeBufs (s.link l).removedBuffers).freeBufs
          (((s.closing l).freeBufs (s.link l).removedBuffers).allUses l (BufferUse.freedAtEnd false))
      else (s.closing l).freeBufs (s.link l).removedBuffers := rfl

/-- What a teardown leaves, but for the other lane. -/
structure State.TornDown (l : Link) (s t : State) : Prop where
  link : t.link l = (s.link l).closeSession (s.bus.laneInFlight l)
  use : ∀ b, t.useOf l b = if b ∈ (s.link l).removedBuffers then none else
    (s.useOf l b).filter (fun u => u.isOutbound || (t.link l).lane.state == .stopping)
  wait : l ∉ t.waitList
  bus : t.bus = s.bus.withdraw l
  frame : LaneFrame (s.closing l) t

theorem State.closing_useOf (s : State) (l : Link) (b : BufId) : (s.closing l).useOf l b = s.useOf l b :=
  State.useOf_link_congr (by rw [State.closing, State.freeWindows_buffers, State.onLink_buffers]; rfl) l b

theorem State.closing_bus (s : State) (l : Link) : (s.closing l).bus = s.bus.withdraw l := by
  rw [State.closing, State.freeWindows_bus, State.onLink_bus]
  rfl

theorem State.teardown_tornDown (s : State) (l : Link) : s.TornDown l (s.teardown l) := by
  have hidle := State.closing_idle s l
  have hlink := State.freeBufs_link_idle hidle (s.link l).removedBuffers
  have huse : ∀ b, ((s.closing l).freeBufs (s.link l).removedBuffers).useOf l b =
      if b ∈ (s.link l).removedBuffers then none else s.useOf l b := fun b => by
    rw [State.freeBufs_useOf_idle hidle, State.closing_useOf]
  have hwait := State.freeBufs_wait_idle hidle (State.closing_wait s l) (s.link l).removedBuffers
  have hframe := LaneFrame.freeBufs (s.closing l) (s.link l).removedBuffers
  have hbus : ((s.closing l).freeBufs (s.link l).removedBuffers).bus = s.bus.withdraw l := by
    rw [State.freeBufs_bus, State.closing_bus]
  rw [State.teardown_eq]
  generalize (s.closing l).freeBufs (s.link l).removedBuffers = k at *
  have hkidle : k.activeJob l = none := by rw [State.activeJob, hlink]; exact hidle
  split
  next hs =>
    have hlink' := State.freeBufs_link_idle hkidle (k.allUses l (BufferUse.freedAtEnd false))
    refine ⟨by rw [hlink', hlink, State.closing_link], fun b => ?_, State.freeBufs_wait_idle hkidle hwait _,
      by rw [State.freeBufs_bus, hbus], hframe.trans (LaneFrame.freeBufs _ _)⟩
    rw [hlink', hlink, hs, State.freeBufs_freedAtEnd hkidle, huse]
    split
    next => rfl
    next => rfl
  next hs =>
    have hstop : (k.link l).lane.state = .stopping := by
      rw [hlink, State.closing_link] at *
      exact (LaneState.afterTeardown_cases (s.bus.laneInFlight l) (s.link l).lane.state).resolve_right hs
    refine ⟨by rw [hlink, State.closing_link], fun b => ?_, hwait, hbus, hframe⟩
    rw [huse, hstop]
    split
    next => rfl
    next => cases s.useOf l b <;> simp [Option.filter_some]

theorem State.TornDown.request (h : s.TornDown l t) : t.bus.request l = none := by
  rw [h.bus, Bus.withdraw_request, Bus.setRequest_request]

theorem State.TornDown.flight (h : s.TornDown l t) (x : Transfer) : t.bus.state = .inFlight x ↔ s.bus.state = .inFlight x := by
  rw [h.bus]
  exact Bus.withdraw_flight _ _ _

theorem State.TornDown.grant (h : s.TornDown l t) {r : BusRequest} {withdrawn : Bool}
    (hg : s.bus.state = .granted (.lane l r withdrawn)) : t.bus.state = .granted (.lane l r true) := by
  rw [h.bus, Bus.withdraw_granted hg, if_pos rfl]

theorem LaneState.afterTeardown_eq (f : Bool) (a : LaneState) :
    a.afterTeardown f = if a = .stopping ∨ (a = .busy ∧ f = true) then .stopping else .idle := by
  cases a <;> cases f <;> rfl

/-- What is left of a session torn down, its reply or HELLO queued, the lanes gone on and the transmitters begun. -/
structure State.SessionGone (l : Link) (s t : State) : Prop where
  use : ∀ b, t.useOf l b = (if b ∈ (s.link l).waiting.filterMap Entry.buffer? then none else (s.useOf l b).filter
    (fun u => u.isOutbound || (t.link l).lane.state == .stopping))
  lane : (t.link l).lane = ⟨if (s.link l).lane.state = .stopping ∨
    ((s.link l).lane.state = .busy ∧ s.bus.laneInFlight l = true) then .stopping else .idle, 0, 0⟩
  wait : l ∉ t.waitList
  request : t.bus.request l = none
  flight : ∀ x, s.bus.state = .inFlight x → t.bus.state = .inFlight x
  grant : ∀ r withdrawn, s.bus.state = .granted (.lane l r withdrawn) → t.bus.state = .granted (.lane l r true)
  windows : ∀ i : Fin 8, t.windows.get i = match s.windows.get i with
    | none => none
    | some w => if w.owner = l then none else some w

/-- The link of a torn-down session as it stands when the lanes have gone on, and the rest of the part. -/
theorem State.TornDown.gone (h : s.TornDown l t) (g : LinkState → LinkState) (hlane : (g (t.link l)).lane = (t.link l).lane)
    (hlive : (g (t.link l)).live = []) (k : Link) :
    s.SessionGone l (((t.onLink l g).settle k).kick) ∧ (t.onLink l g).Rested l ((t.onLink l g).settle k).kick := by
  have hrest := (State.Passive.of_no_jobs (s := t.onLink l g) (l := l) (by rw [State.onLink_link]; exact hlive)).rested k
  have hlane' : ((((t.onLink l g).settle k).kick).link l).lane = (t.link l).lane := by
    rw [hrest.link, State.onLink_link]
    exact hlane
  refine ⟨⟨fun b => ?_, ?_, hrest.wait ?_, hrest.request ?_, fun x hx => (hrest.flight x).mpr ?_, fun r withdrawn hg => ?_,
    fun i => ?_⟩, hrest⟩
  · rw [hrest.use, hlane', State.useOf_link_congr (State.onLink_buffers t l g), h.use]
    rfl
  · rw [hlane', h.link, ← LaneState.afterTeardown_eq]
    rfl
  · rw [State.onLink_waitList]
    exact h.wait
  · rw [State.onLink_bus]
    exact h.request
  · rw [State.onLink_bus]
    exact (h.flight x).mpr hx
  · have hgrant := h.grant hg
    have hreq : (t.onLink l g).bus.request l = none := by rw [State.onLink_bus]; exact h.request
    rw [hrest.grant hreq r true (by rw [State.onLink_bus]; exact hgrant), State.onLink_bus, hgrant]
  · have hwindows : (s.closing l).windows = (s.freeWindows l).windows := by
      have hon : ∀ u : State, (u.freeWindows l).windows = Vector.ofFn (fun i => match u.windows.get i with
          | none => none
          | some w => if w.owner = l then none else some w) := fun _ => rfl
      rw [State.closing, hon, State.onLink_windows]
      rfl
    rw [hrest.windows, State.onLink_windows, h.frame.windows, hwindows, State.freeWindows_get]
    cases s.windows.get i with
    | none => rfl
    | some w => by_cases hw : w.owner = l <;> simp [hw]

/-- What a teardown leaves of the rest of the part. -/
theorem State.TornDown.rest (h : s.TornDown l t) : t.slots = s.slots ∧ t.latch = s.latch ∧ t.latchHold = s.latchHold ∧
    t.rate = s.rate ∧ LinkFrame (s.link l.other) (t.link l.other) := by
  have hother : (s.closing l).link l.other = s.link l.other := by
    rw [State.closing, State.freeWindows_link, State.onLink_ne _ (Link_other_ne l), State.withdrawAll_link]
  have hclosing : (s.closing l).slots = s.slots ∧ (s.closing l).latch = s.latch ∧ (s.closing l).latchHold = s.latchHold ∧
      (s.closing l).rate = s.rate := by cases l <;> exact ⟨rfl, rfl, rfl, rfl⟩
  obtain ⟨hslots, hlatch, hhold, hrate⟩ := hclosing
  exact ⟨h.frame.slots.trans hslots, h.frame.latch.trans hlatch, h.frame.latchHold.trans hhold, h.frame.rate.trans hrate,
    hother ▸ h.frame.link l.other⟩

end

/-- Settles O16: the teardown, the reply behind it, and what the other lane's going on leaves. -/
theorem closeTearsTheSessionDown : Obligations.CloseTearsTheSessionDown := by
  intro l s hready
  have hdown := State.teardown_tornDown s l
  obtain ⟨hslots, hlatch, hhold, hrate, hother⟩ := hdown.rest
  obtain ⟨hgone, hrest⟩ := hdown.gone (LinkState.push (.reply 0x11 .ok [])) rfl (by rw [hdown.link]; rfl) l.other
  generalize ht : State.kick _ = t at hgone hrest
  have hlink : t.link l = (((s.link l).closeSession (s.bus.laneInFlight l)).push (.reply 0x11 .ok [])).kick := by
    rw [hrest.link, State.onLink_link, hdown.link]
  have hotherLink : ((s.teardown l).onLink l (LinkState.push (.reply 0x11 .ok []))).link l.other = (s.teardown l).link l.other :=
    State.onLink_ne _ (Link_other_ne l) _
  refine ⟨t, (exec_of_ready hready .closeSession rfl).trans (congrArg Host.Outcome.next ht), ?_⟩
  refine ⟨by rw [hlink]; rfl, by rw [hlink]; rfl, by rw [hlink]; rfl, by rw [hlink]; rfl, by rw [hlink]; rfl, by rw [hlink]; rfl,
    by rw [hlink]; rfl, by rw [hlink]; rfl, by rw [hlink]; rfl, by rw [hlink]; rfl, hgone.lane, hgone.use, hgone.wait, hgone.request,
    hgone.flight, hgone.grant, by rw [hlink]; rfl, hgone.windows, ?_, ?_, ?_, ?_, ?_, ?_, ?_, ?_⟩
  · rw [hrest.slots, State.onLink_slots, hslots]
  · rw [hrest.latch, State.onLink_latch, hlatch]
  · rw [hrest.latchHold, State.onLink_latchHold, hhold]
  · rw [hrest.rate, State.onLink_rate, hrate]
  · rw [hrest.session, hotherLink, hother.session]
  · rw [hrest.intake, hotherLink, hother.intake]
  · rw [hrest.conditions, hotherLink, hother.conditions]
  · rw [hrest.mask, hotherLink, hother.mask]

end Sys2Proof.Machine
end

section
/-! PROOFS. The link reset (O17): at its link, and what it leaves of the rest of the part. -/

namespace Sys2Proof.Machine

section
variable {s t k : State} {l : Link} {cause : ResetCause}

/-- The framer hunts, and the HELLO joins the queue (R171, R176). -/
def LinkState.greeting (cause : ResetCause) (a : LatchState) (pins : BitVec 4) (x : LinkState) : LinkState :=
  ({ x with framer := .hunt, gapTimer := .stopped } : LinkState).push (.hello cause a pins)

/-- What the emptying of the queues or the teardown of a link reset leaves for the HELLO (R171). -/
structure State.Silenced (l : Link) (s k : State) : Prop where
  session : (k.link l).session = .closed
  intake : (k.link l).intake = []
  outbound : (k.link l).outbound = (s.link l).sending
  breakDetected : (k.link l).breakDetected = (s.link l).breakDetected
  live : (k.link l).live = []
  slots : k.slots = s.slots
  latch : k.latch = s.latch
  latchHold : k.latchHold = s.latchHold
  rate : k.rate = s.rate
  other : LinkFrame (s.link l.other) (k.link l.other)

theorem State.TornDown.silenced (h : s.TornDown l k) : s.Silenced l k := by
  obtain ⟨hslots, hlatch, hhold, hrate, hother⟩ := h.rest
  exact ⟨by rw [h.link]; rfl, by rw [h.link]; rfl, by rw [h.link]; rfl, by rw [h.link]; rfl, by rw [h.link]; rfl, hslots, hlatch,
    hhold, hrate, hother⟩

theorem State.emptyQueues_link (h : (s.link l).live = []) : (s.emptyQueues l).link l = (s.link l).emptyQueues := by
  rw [State.emptyQueues, State.freeBufs_link_idle, State.onLink_link]
  exact State.activeJob_of_no_jobs (by rw [State.onLink_link]; exact h)

theorem State.emptyQueues_useOf (h : (s.link l).live = []) (b : BufId) :
    (s.emptyQueues l).useOf l b = if b ∈ (s.link l).removedBuffers then none else s.useOf l b := by
  have hidle : (s.onLink l LinkState.emptyQueues).activeJob l = none :=
    State.activeJob_of_no_jobs (by rw [State.onLink_link]; exact h)
  rw [State.emptyQueues, State.freeBufs_useOf_idle hidle, State.useOf_link_congr (State.onLink_buffers s l _)]

theorem State.emptyQueues_silenced (hs : (s.link l).session = .closed) (h : (s.link l).live = []) :
    s.Silenced l (s.emptyQueues l) := by
  have hlink := State.emptyQueues_link h
  have hframe := LaneFrame.freeBufs (s.onLink l LinkState.emptyQueues) (s.link l).removedBuffers
  have hother := hframe.link l.other
  rw [State.onLink_ne _ (Link_other_ne l)] at hother
  exact ⟨by rw [hlink]; exact hs, by rw [hlink]; rfl, by rw [hlink]; rfl, by rw [hlink]; rfl, by rw [hlink]; exact h,
    hframe.slots.trans (State.onLink_slots _ _ _), hframe.latch.trans (State.onLink_latch _ _ _),
    hframe.latchHold.trans (State.onLink_latchHold _ _ _), hframe.rate.trans (State.onLink_rate _ _ _), hother⟩

theorem State.Silenced.greeted (h : s.Silenced l k) :
    (k.onLink l (fun x => { x with framer := .hunt, gapTimer := .stopped })).hello l cause =
      k.onLink l (LinkState.greeting cause s.latch s.presence) := by
  have hpresence : (k.onLink l (fun x => { x with framer := .hunt, gapTimer := .stopped })).presence = s.presence :=
    State.presence_congr fun i => by rw [State.onLink_slot, State.slot, h.slots]; rfl
  rw [State.hello, hpresence, State.onLink_latch, h.latch, State.onLink_onLink]
  rfl

/-- What a link reset leaves, the lanes gone on and the transmitters begun (R171, R176). -/
structure State.LinkReset (l : Link) (cause : ResetCause) (s t : State) : Prop where
  session : (t.link l).session = .closed
  framer : (t.link l).framer = .hunt
  gapTimer : (t.link l).gapTimer = .stopped
  intake : (t.link l).intake = []
  outbound : (t.link l).outbound = (s.link l).sending ++ [.hello cause s.latch s.presence]
  breakDetected : (t.link l).breakDetected = (s.link l).breakDetected
  slots : t.slots = s.slots
  latch : t.latch = s.latch
  latchHold : t.latchHold = s.latchHold
  rate : t.rate = s.rate
  otherSession : (t.link l.other).session = (s.link l.other).session
  otherIntake : (t.link l.other).intake = (s.link l.other).intake
  otherConditions : (t.link l.other).conditions = (s.link l.other).conditions
  otherMask : (t.link l.other).mask = (s.link l.other).mask
  torn : (s.link l).session ≠ .closed → (t.link l).dataTimeout = none ∧ (t.link l).holdLimit = none ∧
    (t.link l).conditions = 0 ∧ (t.link l).mask = 0 ∧ (t.link l).overflow = 0 ∧ (t.link l).live = [] ∧
    (t.link l).history = [] ∧ s.SessionGone l t
  closed : (s.link l).session = .closed → t.windows = s.windows ∧ (t.link l).lane = (s.link l).lane ∧
    ∀ b, t.useOf l b = if b ∈ (s.link l).waiting.filterMap Entry.buffer? then none else s.useOf l b

/-- What holds of a link reset, whether there was a session or not. -/
theorem State.Silenced.reset (h : s.Silenced l k)
    (hrest : (k.onLink l (LinkState.greeting cause s.latch s.presence)).Rested l t)
    (htorn : (s.link l).session ≠ .closed → (k.link l).dataTimeout = none ∧ (k.link l).holdLimit = none ∧
      (k.link l).conditions = 0 ∧ (k.link l).mask = 0 ∧ (k.link l).overflow = 0 ∧ (k.link l).history = [] ∧ s.SessionGone l t)
    (hclosed : (s.link l).session = .closed → k.windows = s.windows ∧ (k.link l).lane = (s.link l).lane ∧
      ∀ b, k.useOf l b = if b ∈ (s.link l).waiting.filterMap Entry.buffer? then none else s.useOf l b) :
    s.LinkReset l cause t := by
  have hlink : t.link l = ((k.link l).greeting cause s.latch s.presence).kick := by rw [hrest.link, State.onLink_link]
  have hotherLink := State.onLink_ne k (Link_other_ne l) (LinkState.greeting cause s.latch s.presence)
  refine ⟨by rw [hlink]; exact h.session, by rw [hlink]; rfl, by rw [hlink]; rfl, by rw [hlink]; exact h.intake, ?_,
    by rw [hlink]; exact h.breakDetected, ?_, ?_, ?_, ?_, ?_, ?_, ?_, ?_, fun hs => ?_, fun hs => ?_⟩
  · rw [hlink, ← h.outbound]
    rfl
  · rw [hrest.slots, State.onLink_slots, h.slots]
  · rw [hrest.latch, State.onLink_latch, h.latch]
  · rw [hrest.latchHold, State.onLink_latchHold, h.latchHold]
  · rw [hrest.rate, State.onLink_rate, h.rate]
  · rw [hrest.session, hotherLink, h.other.session]
  · rw [hrest.intake, hotherLink, h.other.intake]
  · rw [hrest.conditions, hotherLink, h.other.conditions]
  · rw [hrest.mask, hotherLink, h.other.mask]
  · obtain ⟨hdata, hhold, hconditions, hmask, hoverflow, hhistory, hgone⟩ := htorn hs
    rw [hlink]
    exact ⟨hdata, hhold, hconditions, hmask, hoverflow, h.live, hhistory, hgone⟩
  · obtain ⟨hwindows, hlane, huse⟩ := hclosed hs
    refine ⟨by rw [hrest.windows, State.onLink_windows, hwindows], by rw [hlink]; exact hlane, fun b => ?_⟩
    rw [hrest.use, State.useOf_link_congr (State.onLink_buffers k l _), huse]

theorem State.linkReset_reset (hlaw : (s.link l).session = .closed → (s.link l).live = []) (cause : ResetCause) :
    s.LinkReset l cause (s.linkReset l cause).kick := by
  by_cases hs : (s.link l).session = .closed
  · have hsilent := State.emptyQueues_silenced hs (hlaw hs)
    have hlink := State.emptyQueues_link (hlaw hs)
    have hframe := LaneFrame.freeBufs (s.onLink l LinkState.emptyQueues) (s.link l).removedBuffers
    have hreset : s.linkReset l cause = ((s.emptyQueues l).onLink l (LinkState.greeting cause s.latch s.presence)).settle l.other := by
      rw [State.linkReset, if_pos hs]
      exact congrArg (fun u : State => u.settle l.other) hsilent.greeted
    rw [hreset]
    refine hsilent.reset (State.Passive.rested (.of_no_jobs ?_) l.other) (fun hno => absurd hs hno) fun _ => ⟨?_, ?_, ?_⟩
    · rw [State.onLink_link]
      exact hsilent.live
    · exact hframe.windows.trans (State.onLink_windows _ _ _)
    · rw [hlink]
      rfl
    · exact State.emptyQueues_useOf (hlaw hs)
  · have hdown := State.teardown_tornDown s l
    have hsilent := hdown.silenced
    have hreset : s.linkReset l cause = ((s.teardown l).onLink l (LinkState.greeting cause s.latch s.presence)).settle l.other := by
      rw [State.linkReset, if_neg hs]
      exact congrArg (fun u : State => u.settle l.other) hsilent.greeted
    obtain ⟨hgone, hrest⟩ := hdown.gone (LinkState.greeting cause s.latch s.presence) rfl hsilent.live l.other
    rw [hreset]
    refine hsilent.reset hrest (fun _ => ?_) fun hc => absurd hc hs
    rw [hdown.link]
    exact ⟨rfl, rfl, rfl, rfl, rfl, rfl, hgone⟩

end

/-- Settles O17: RSTL and BREAK_ENDS take one link reset, of the link as it is and with its BREAK over. -/
theorem linkResetAnnouncesItself : Obligations.LinkResetAnnouncesItself := by
  intro l c cause s h0 hlaw hcase
  have hlive : (s.link l).session = .closed → (s.link l).live = [] := fun hs => by
    simp only [LinkState.closedLaw, hs, if_true, Bool.and_eq_true, List.isEmpty_iff] at hlaw
    exact hlaw.1.2
  have hexec : ∃ d, exec c s = .next (((s.onLink l (fun x => { x with breakDetected := d })).linkReset l cause)).kick ∧
      (c = .breakEnds l → d = false) := by
    rcases hcase with ⟨rfl, rfl, hs, hr⟩ | ⟨rfl, rfl⟩
    · refine ⟨(s.link l).breakDetected, ?_, fun h => by cases h⟩
      rw [State.onLink_self rfl]
      exact exec_of_open h0 hr hs (fun _ => rfl) (r := .rstl) rfl
    · exact ⟨false, congrArg Host.Outcome.next (event_of_running h0 _), fun _ => rfl⟩
  obtain ⟨d, hexec, hd⟩ := hexec
  have hreset := State.linkReset_reset (s := s.onLink l (fun x => { x with breakDetected := d })) (l := l)
    (by rw [State.onLink_link]; exact hlive) cause
  generalize State.kick _ = t at hexec hreset
  have hlink : (s.onLink l (fun x => { x with breakDetected := d })).link l = { s.link l with breakDetected := d } :=
    State.onLink_link s l _
  have hother := State.onLink_ne s (Link_other_ne l) (fun x => { x with breakDetected := d })
  have huse : ∀ b, (s.onLink l (fun x => { x with breakDetected := d })).useOf l b = s.useOf l b :=
    State.useOf_link_congr (State.onLink_buffers s l _) l
  have hpresence : (s.onLink l (fun x => { x with breakDetected := d })).presence = s.presence :=
    State.presence_congr fun i => by rw [State.onLink_slot]
  refine ⟨t, hexec, hreset.session, hreset.framer, hreset.gapTimer, hreset.intake, ?_, ?_, ?_, ?_, ?_, fun hc => ?_, ?_, ?_, ?_, ?_,
    fun hs => ?_, fun hs => ?_⟩
  · rw [hreset.outbound, hpresence, State.onLink_latch, hlink]
    rfl
  · rw [hreset.slots, State.onLink_slots]
  · rw [hreset.latch, State.onLink_latch]
  · rw [hreset.latchHold, State.onLink_latchHold]
  · rw [hreset.rate, State.onLink_rate]
  · rw [hreset.breakDetected, hlink]
    exact hd hc
  · rw [hreset.otherSession, hother]
  · rw [hreset.otherIntake, hother]
  · rw [hreset.otherConditions, hother]
  · rw [hreset.otherMask, hother]
  · obtain ⟨hdata, hhold, hconditions, hmask, hoverflow, hlive, hhistory, hgone⟩ := hreset.torn (by rw [hlink]; exact hs)
    refine ⟨hdata, hhold, hconditions, hmask, hoverflow, hlive, hhistory, fun i => ?_, ?_, fun b => ?_, hgone.wait, hgone.request,
      fun x hx => hgone.flight x (by rw [State.onLink_bus]; exact hx),
      fun r withdrawn hg => hgone.grant r withdrawn (by rw [State.onLink_bus]; exact hg)⟩
    · have hwindow := hgone.windows i
      rw [State.onLink_windows] at hwindow
      exact hwindow
    · rw [hgone.lane, hlink, State.onLink_bus]
    · rw [hgone.use, huse, hlink]
      rfl
  · obtain ⟨hwindows, hlane, hbuffers⟩ := hreset.closed (by rw [hlink]; exact hs)
    refine ⟨by rw [hwindows, State.onLink_windows], by rw [hlane, hlink], fun b => ?_⟩
    rw [hbuffers, huse, hlink]
    rfl

end Sys2Proof.Machine
end

section
/-! PROOFS. RSTP, and the part reset behind its reply (O18). -/

namespace Sys2Proof.Machine

section
variable {s u : State} {l m : Link} {b : BufId} {cause : ResetCause}

/-- The part at a part reset, before its HELLOs (R173). -/
def State.partHeld (s : State) : State := s.poolReset.blocksReset.onLinks LinkState.partReset

theorem State.partHeld_presence (s : State) : s.partHeld.presence = s.presence :=
  (State.presence_congr fun i =>
    congrArg Slot.presPin (State.onLinks_slot s.poolReset.blocksReset LinkState.partReset i)).trans
    (State.blocksReset_presence s.poolReset)

theorem State.partReset_eq (s : State) (cause : ResetCause) :
    s.partReset cause = s.partHeld.onLinks (LinkState.push (.hello cause (latchOf s.latchPin) s.presence)) := by
  rw [← State.partHeld_presence]
  exact State.hellos_eq s.partHeld cause

theorem State.partHeld_link (s : State) (m : Link) : s.partHeld.link m = (s.link m).partReset := by
  rw [State.partHeld, State.onLinks_link, State.blocksReset_link, State.poolReset_link]

theorem State.partReset_link (s : State) (cause : ResetCause) (m : Link) : (s.partReset cause).kick.link m =
    (((s.link m).partReset).push (.hello cause (latchOf s.latchPin) s.presence)).kick := by
  rw [State.partReset_eq, State.kick_link, State.onLinks_link, State.partHeld_link]

theorem State.partReset_slot (s : State) (cause : ResetCause) (i : SlotId) :
    (s.partReset cause).kick.slot i = (s.slot i).sampled := by
  rw [State.partReset_eq, State.kick_slot, State.onLinks_slot, State.partHeld, State.onLinks_slot, State.blocksReset_slot]
  rfl

theorem State.partReset_buffers (s : State) (cause : ResetCause) : (s.partReset cause).kick.buffers = s.poolReset.buffers := by
  rw [State.partReset_eq]
  rfl

theorem State.partReset_blocks (s : State) (cause : ResetCause) {t : State} (ht : t = (s.partReset cause).kick) :
    t.latch = latchOf s.latchPin ∧ t.latchHold = (!s.latchPin) ∧ t.rate = s.rate ∧ (∀ i, t.windows.get i = none) ∧
      t.powerWait = [] ∧ t.ramping = none ∧ t.identQueue = [] ∧ t.waitList = [] ∧ t.bus = s.bus.held := by
  rw [State.partReset_eq] at ht
  subst ht
  refine ⟨rfl, rfl, ?_, fun i => ?_, rfl, rfl, rfl, rfl, rfl⟩
  · rw [State.kick, State.onLinks_rate, State.onLinks_rate, State.partHeld, State.onLinks_rate,
      State.blocksReset, State.poolReset]
  · change (Vector.ofFn (fun _ : Fin 8 => (none : Option Window))).get i = none
    rw [get_ofFn]

/-- The pool behind a part reset, where only the other link has a frame on its line (R32, R56). -/
theorem State.poolReset_get (h : (s.link l).sending = []) (b : BufId) : s.poolReset.buffers.get b =
    if b ∈ (s.link l.other).sending.filterMap Entry.buffer? then s.buffers.get b else ⟨.free, (s.buffers.get b).bytes⟩ := by
  have hkept : s.linkA.sending ++ s.linkB.sending = (s.link l.other).sending := by
    cases l with
    | A => exact congrArg (· ++ s.linkB.sending) h
    | B => exact (congrArg (s.linkA.sending ++ ·) h).trans (List.append_nil _)
  rw [State.poolReset, hkept]
  exact get_ofFn _ b

theorem partCauseOf_eq (l : Link) : partCauseOf l = if l = .A then .partResetA else .partResetB := by cases l <;> rfl

end

/-- Settles O18: RSTP's reply and its pending reset, and the part reset at the end of the last such reply. -/
theorem rstpEndsInAPartReset : Obligations.RstpEndsInAPartReset := by
  refine fun l s => ⟨fun hready => ?_, fun items es h0 ht ho hlast hs => ?_⟩
  · refine (exec_of_ready hready .rstp rfl).trans (congrArg (fun u : State => Host.Outcome.next u.kick) ?_)
    change s.takeRstp l = _
    rw [State.takeRstp, State.reply, State.onLink_onLink]
    rfl
  · generalize hu : s.onLink l (fun x => { x with outbound := es, transmitting := false }) = u
    have hlink : u.link l = { s.link l with outbound := es, transmitting := false } := by rw [← hu, State.onLink_link]
    have hother : u.link l.other = s.link l.other := by rw [← hu, State.onLink_ne _ (Link_other_ne l)]
    have hslot : ∀ i, u.slot i = s.slot i := fun i => by rw [← hu, State.onLink_slot]
    have hpresence : u.presence = s.presence := State.presence_congr fun i => by rw [hslot]
    have hpin : u.latchPin = s.latchPin := by rw [← hu, State.onLink_latchPin]
    have hrate : u.rate = s.rate := by rw [← hu, State.onLink_rate]
    have hbuffers : u.buffers = s.buffers := by rw [← hu, State.onLink_buffers]
    have hsending : (u.link l).sending = [] := by rw [hlink]; rfl
    have hends : (u.link l).endsRstp (.reply 0x13 .ok items) = true := by
      have hany : es.any Entry.isRstpReply = false := List.any_eq_false.mpr fun e he => by simp [hlast e he]
      have hreply : (Entry.reply 0x13 .ok items).isRstpReply = true := rfl
      rw [LinkState.endsRstp, hlink, hreply]
      simp [hs, hany]
    have hexec : exec (.transmissionEnd l) s = .next (u.partReset (partCauseOf l)).kick := by
      have htransmission : s.transmissionEnds l = u.partReset (partCauseOf l) := by
        simp only [State.transmissionEnds, ht, ho, hu, hends, if_true]
      rw [← htransmission]
      exact congrArg Host.Outcome.next (event_of_running h0 _)
    generalize ht : (u.partReset (partCauseOf l)).kick = t at hexec
    obtain ⟨hlatch, hhold, hrate', hwindows, hwait, hramp, hqueue, hwaits, hbus⟩ := State.partReset_blocks u _ ht.symm
    have hlinks : ∀ m, t.link m = (((u.link m).partReset).push (.hello (partCauseOf l) (latchOf s.latchPin) s.presence)).kick :=
      fun m => by rw [← ht, State.partReset_link, hpin, hpresence]
    refine ⟨t, _, hexec, partCauseOf_eq l, fun m => ?_, ?_, ?_, by rw [hlatch, hpin], by rw [hhold, hpin], by rw [hrate', hrate],
      hwindows, hwait, hramp, hqueue, hwaits, by rw [hbus]; rfl, by rw [hbus]; rfl, by rw [hbus]; rfl, by rw [hbus]; rfl,
      by rw [hbus]; rfl, fun i => ?_, fun b => ?_⟩
    · rw [hlinks]
      exact ⟨rfl, rfl, rfl, rfl, rfl, rfl, rfl, rfl, rfl, rfl, rfl⟩
    · rw [hlinks, hlink]
      rfl
    · rw [hlinks, hother]
      rfl
    · rw [← ht, State.partReset_slot, hslot]
      obtain ⟨hstate, htimer, hgen, hauto, hwp, hid, hfault, hcount⟩ := Slot.sampled_facts (s.slot i)
      exact ⟨hstate, hgen, hauto, hwp, hid, hfault, hcount, htimer⟩
    · rw [← ht, State.partReset_buffers, State.poolReset_get hsending, hother, hbuffers]

end Sys2Proof.Machine
end

section
/-! PROOFS. The end of a job, at its link and in the pool (O43). -/

namespace Sys2Proof.Machine

section
variable {s t u : State} {l : Link} {b : BufId} {j k : Job} {js : List Job} {o : JobOutcome}

/-! What the end of a job leaves at its link (R23, R24, R54) -/

/-- The entries that stay in the queue when a job ends: all but a CREDIT of a WRITE that waits. -/
def Entry.outlives (j : Job) : Entry → Bool
  | .credit tag _ => j.kind != JobKind.write || tag != j.tag
  | .reply _ _ _ => true
  | .hello _ _ _ => true
  | .notice _ => true
  | .data _ _ _ _ => true

theorem LinkState.removeCredit_of_write {j : Job} (hk : j.kind = .write) (x : LinkState) :
    x.removeCredit j.tag = { x with outbound := x.sending ++ x.waiting.filter (Entry.outlives j) } := by
  refine congrArg (fun p => { x with outbound := x.sending ++ x.waiting.filter p }) (funext fun e => ?_)
  cases e <;> simp [Entry.outlives, hk]

/-- The link after the end of its head job, before its lane comes to rest. -/
def LinkState.concluded (j : Job) (js : List Job) (o : JobOutcome) (x : LinkState) : LinkState :=
  ({ x with live := js, history := addHistory x.history (j.entry o) } : LinkState).offer (j.endedNotice o)

theorem LinkState.ending_of_cons {x : LinkState} (hx : x.live = j :: js) (o : JobOutcome) (f : Bool) :
    LinkState.ending j o f x = { x.concluded j js o with
      lane := ⟨if f then .stopping else .idle, 0, 0⟩
      outbound := (x.concluded j js o).sending ++ (x.concluded j js o).waiting.filter (Entry.outlives j) } := by
  have hpop : (x.pop (j.entry o)).offer (j.endedNotice o) = x.concluded j js o := by
    rw [LinkState.pop, hx]
    rfl
  rw [LinkState.ending, hpop]
  generalize x.concluded j js o = y
  by_cases hk : j.kind = .write
  · rw [if_pos hk, LinkState.removeCredit_of_write hk]
    rfl
  · have hall : y.waiting.filter (Entry.outlives j) = y.waiting :=
      List.filter_eq_self.mpr fun e _ => by cases e <;> simp [Entry.outlives, hk]
    rw [if_neg hk, hall, LinkState.sending_append_waiting]
    rfl

theorem State.ended_link (s : State) (l : Link) (j : Job) (o : JobOutcome) :
    (s.ended l j o).link l = LinkState.ending j o (s.bus.laneInFlight l) (s.link l) := by
  rw [State.ended, State.onLink_link, State.withdrawAll_link]

/-- What a lane holds and waits for, and what else stands, when a job with only QUEUED ones behind it has ended. -/
structure State.JobEnded (l : Link) (j : Job) (js : List Job) (o : JobOutcome) (s t : State) : Prop where
  link : t.link l = LinkState.ending j o (s.bus.laneInFlight l) (s.link l)
  use : ∀ b, t.useOf l b = (s.useOf l b).filter (fun u => u.isOutbound || (s.bus.laneInFlight l && u.isInTransfer))
  wait : l ∉ t.waitList
  bus : t.bus = s.bus.withdraw l
  frame : LaneFrame s t

theorem LinkState.ending_live {x : LinkState} (hx : x.live = j :: js) (o : JobOutcome) (f : Bool) :
    (LinkState.ending j o f x).live = js := by
  rw [LinkState.ending_of_cons hx]
  exact LinkState.offer_live _ _

theorem State.endJob_jobEnded (hx : (s.link l).live = j :: js) (hs : j.state ≠ .queued) (hq : ∀ m ∈ js, m.state = .queued)
    (o : JobOutcome) : s.JobEnded l j js o (s.endJob l o) := by
  have hlink := State.ended_link s l j o
  have hidle : (s.ended l j o).activeJob l = none := by
    rw [State.activeJob, hlink]
    exact LinkState.activeJob_of_queued (by rw [LinkState.ending_live hx]; exact hq)
  have huse : ∀ b, (s.ended l j o).useOf l b = s.useOf l b :=
    State.useOf_link_congr (by rw [State.ended, State.onLink_buffers]; rfl) l
  have hwait : l ∉ (s.ended l j o).waitList := by
    rw [State.ended, State.onLink_waitList]
    simp [State.withdrawAll, State.withdrawWait, State.onBus]
  have hframe := LaneFrame.endJob s l o
  rw [State.endJob_eq (State.activeJob_head hx hs)] at hframe ⊢
  refine ⟨by rw [State.freeBufs_link_idle hidle, hlink], fun b => ?_, State.freeBufs_wait_idle hidle hwait _, ?_, hframe⟩
  · rw [State.freeBufs_freedAtEnd hidle, huse]
  · rw [State.freeBufs_bus, State.ended, State.onLink_bus]
    rfl

/-- The end of a job depends on its record by its entry, its kind and its tag alone. -/
theorem State.endJob_congr_job (hj : j.state ≠ .queued) (hk : k.state ≠ .queued) (htag : j.tag = k.tag) (hkind : j.kind = k.kind)
    (hcompleted : j.completed = k.completed) (hfailed : j.failed = k.failed) (hfirst : j.firstError = k.firstError)
    (o : JobOutcome) : (s.onLink l (fun x => { x with live := j :: js })).endJob l o =
      (s.onLink l (fun x => { x with live := k :: js })).endJob l o := by
  have hlive : ∀ m : Job, ((s.onLink l (fun x => { x with live := m :: js })).link l).live = m :: js := fun m => by
    rw [State.onLink_link]
  have hending : ∀ (f : Bool) (x : LinkState), LinkState.ending j o f { x with live := j :: js } =
      LinkState.ending k o f { x with live := k :: js } := fun f x => by
    simp only [LinkState.ending, LinkState.pop, Job.entry, Job.endedNotice, htag, hkind, hcompleted, hfailed, hfirst,
      List.tail_cons]
  have hended : ∀ m : Job, (s.onLink l (fun x => { x with live := m :: js })).ended l m o =
      (s.withdrawAll l).onLink l (fun x => LinkState.ending m o (s.bus.laneInFlight l) { x with live := m :: js }) := fun m => by
    rw [State.ended, State.onLink_bus, State.onLink_withdrawAll, State.onLink_onLink]
  rw [State.endJob_eq (State.activeJob_head (hlive j) hj), State.endJob_eq (State.activeJob_head (hlive k) hk), hended, hended,
    State.onLink_bus, State.onLink_bus]
  simp only [hending]

/-- The report of a CANCELLING job's transfer: its effect, and the end of the job (R60). -/
theorem State.takeReport_of_cancelling (hx : (s.link l).live = j :: js) (hs : j.state = .cancelling)
    (hb : (s.link l).lane.state = .busy) (dir : Direction) (r : Report) :
    s.takeReport l dir r = (s.applyCancelReport l j dir r).endJob l .cancelled := by
  have hj : j.state ≠ .queued := by rw [hs]; simp
  rw [State.takeReport, hb, State.activeJob_head hx hj]
  exact if_pos hs

theorem State.onLink_live_self (hx : (s.link l).live = j :: js) : s.onLink l (fun x => { x with live := j :: js }) = s :=
  State.onLink_self (by rw [← hx])

theorem Job.noteError_eq (j : Job) (e : ErrorKind) (i : ListId) (seg block : Nat) :
    j.noteError e i seg block = { j with firstError := some (j.firstError.getD ⟨e, i, seg, block⟩) } := by
  rw [Job.noteError]
  split
  next f hf => rw [hf]; cases j; cases hf; rfl
  next hf => rw [hf]; rfl

theorem JobKind.listOf_eq (k : JobKind) (dir : Direction) :
    k.listOf dir = if k = .copy ∧ dir = .write then .destination else .primary := by
  cases k <;> cases dir <;> rfl

/-- A job that has counted a block and moved on ends like one that has counted it alone. -/
theorem State.endJob_of_counted (hx : (u.link l).live = j :: js) (hs : j.state = .cancelling) :
    (u.onJob l (fun j => j.countBlock.advance 1)).endJob l .cancelled =
      (u.onLink l (fun x => { x with live := { j with completed := j.completed + 1 } :: js })).endJob l .cancelled := by
  have hj : j.state ≠ .queued := by rw [hs]; simp
  rw [State.onJob_of_cons hx]
  exact State.endJob_congr_job (j := j.countBlock.advance 1) (k := { j with completed := j.completed + 1 }) hj hj rfl rfl rfl
    rfl rfl _

theorem State.queueData_of_transfer (h : s.findUse l BufferUse.isInTransfer = some b) (j : Job) :
    s.queueData l j = (s.setHolder b (.lane l (.outbound j.tag j.nextBlock))).onLink l (fun x =>
      { x with outbound := x.outbound ++ [.data j.tag j.nextBlock j.blockSize b] }) := by
  rw [State.queueData, h]
  rfl

theorem State.useTransfer_of_transfer (h : s.findUse l BufferUse.isInTransfer = some b) (v : BufferUse) :
    s.useTransfer l v = s.setHolder b (.lane l v) := by
  rw [State.useTransfer, h]

/-- A STOPPING lane's report: the lane is IDLE, and frees all but its OUTBOUND buffers (R12). -/
theorem State.stoppingReport_facts (hq : ∀ m ∈ (s.link l).live, m.state = .queued) :
    (s.stoppingReport l).link l = { s.link l with lane := { (s.link l).lane with state := .idle } } ∧
      (∀ b, (s.stoppingReport l).useOf l b = (s.useOf l b).filter BufferUse.isOutbound) ∧
      (s.stoppingReport l).bus = s.bus := by
  generalize hu : s.onLink l (fun x => { x with lane := { x.lane with state := .idle } }) = u
  have hlink : u.link l = { s.link l with lane := { (s.link l).lane with state := .idle } } := by rw [← hu, State.onLink_link]
  have huse : ∀ b, u.useOf l b = s.useOf l b := State.useOf_link_congr (by rw [← hu, State.onLink_buffers]) l
  have hbus : u.bus = s.bus := by rw [← hu, State.onLink_bus]
  have hidle : u.activeJob l = none := by
    rw [State.activeJob, hlink]
    exact LinkState.activeJob_of_queued hq
  have hreport : s.stoppingReport l = u.freeBufs (u.allUses l (BufferUse.freedAtEnd false)) := by
    rw [State.stoppingReport, hu]
  rw [hreport, State.freeBufs_link_idle hidle, State.freeBufs_bus]
  refine ⟨hlink, fun b => ?_, hbus⟩
  rw [State.freeBufs_freedAtEnd hidle, huse]
  simp only [Bool.false_and, Bool.or_false]

end

/-- Settles O43: the end of a job with QUEUED ones behind it, the report of a CANCELLING job, and that of a STOPPING lane. -/
theorem jobsEndAndLanesComeToRest : Obligations.JobsEndAndLanesComeToRest := by
  refine fun l s => ⟨fun j js hx hj hq => ⟨?_, fun hb hs dir ended hended => ⟨?_, ?_, ?_, ?_⟩⟩, fun hb hq dir r t ht => ?_⟩
  · rintro o x rfl t rfl
    have hend := State.endJob_jobEnded hx hj hq o
    have hother := hend.frame.link l.other
    refine ⟨?_, hend.use, hend.wait, hend.bus, hend.frame.slots, hend.frame.windows, hend.frame.latch, hother.session,
      hother.conditions⟩
    rw [hend.link, LinkState.ending_of_cons hx]
    have hstay : Entry.outlives j = fun entry => match entry with
        | .credit tag _ => j.kind != JobKind.write || tag != j.tag
        | _ => true := by
      funext e
      cases e <;> rfl
    rw [hstay]
    rfl
  · intro b hk hf
    have hcounted : s.applyCancelReport l j dir .success = (s.queueData l j).onJob l (fun j => j.countBlock.advance 1) := by
      simp only [State.applyCancelReport, hk]
    rw [State.takeReport_of_cancelling hx hs hb, hended, hcounted, State.queueData_of_transfer hf]
    refine State.endJob_of_counted ?_ hs
    rw [State.onLink_link, State.setHolder_link]
    exact hx
  · intro hk
    rw [State.takeReport_of_cancelling hx hs hb, hended]
    refine Eq.trans ?_ (State.endJob_of_counted hx hs)
    rcases hk with hk | hk | ⟨hk, rfl⟩ <;> simp only [State.applyCancelReport, hk]
  · rintro b hk rfl hf
    rw [State.takeReport_of_cancelling hx hs hb, hended]
    simp only [State.applyCancelReport, hk]
    rw [State.useTransfer_of_transfer hf, State.onLink_live_self]
    rw [State.setHolder_link]
    exact hx
  · rintro e i rfl
    rw [State.takeReport_of_cancelling hx hs hb, hended]
    simp only [State.applyCancelReport]
    rw [State.onJob_of_cons hx, Job.noteError_eq, JobKind.listOf_eq]
  · have hreport : s.takeReport l dir r = s.stoppingReport l := by rw [State.takeReport, hb]
    have hframe := LaneFrame.stoppingReport s l
    obtain ⟨hlink, huse, hbus⟩ := State.stoppingReport_facts hq
    rw [ht, hreport]
    exact ⟨hlink, huse, hbus, hframe.slots, hframe.windows, hframe.latch⟩

end Sys2Proof.Machine
end

section
/-! PROOFS. A job that is alone in its live list ends by JCAN, by its timers, or by a faulty DATA frame (O37). -/

namespace Sys2Proof.Machine

section
variable {s t u : State} {l : Link} {j : Job} {o : JobOutcome}

/-! The block of a job-fatal error (R13, R21) -/

/-- A move that ends within a block of the list ends in that block's segment. -/
theorem advanceFrom_zero {gs : List Segment} {g : Segment} {block : Nat} (hb : block < g.blocks) :
    ∀ (k seg : Nat), gs[k]? = some g →
      ((advanceFrom gs seg 0 0 (((gs.take k).map Segment.blocks).sum + block)).1.segment,
        (advanceFrom gs seg 0 0 (((gs.take k).map Segment.blocks).sum + block)).1.block) = (seg + k, block) := by
  induction gs with
  | nil => intro k seg hk; simp at hk
  | cons h gs ih =>
    intro k seg hk
    cases k with
    | zero =>
      obtain rfl : h = g := by simpa using hk
      simp [advanceFrom_of_lt (show block < h.blocks - 0 by omega)]
    | succ k =>
      have hsum : (((h :: gs).take (k + 1)).map Segment.blocks).sum + block - (h.blocks - 0) =
          ((gs.take k).map Segment.blocks).sum + block := by
        simp only [List.take_succ_cons, List.map_cons, List.sum_cons]
        omega
      have hle : h.blocks - 0 ≤ (((h :: gs).take (k + 1)).map Segment.blocks).sum + block := by
        simp only [List.take_succ_cons, List.map_cons, List.sum_cons]
        omega
      rw [advanceFrom_of_le hle, hsum, ih k (seg + 1) (by simpa using hk), Nat.add_right_comm, Nat.add_assoc]

theorem locateBlock_eq {segs : List Segment} {seg block n : Nat} {g : Segment} (hg : segs[seg]? = some g) (hb : block < g.blocks)
    (hn : ((segs.take seg).map Segment.blocks).sum + block = n) : locateBlock segs n = (seg, block) := by
  have h := advanceFrom_zero hb seg 0 hg
  rw [hn, Nat.zero_add] at h
  exact h

/-! The end of a lone job, and the lanes that go on (R23, R28) -/

/-- Entries that stay join a filtered queue behind what stands there. -/
theorem LinkState.append_sending_filter {x y : LinkState} {es : List Entry} {p : Entry → Bool}
    (ho : y.outbound = x.outbound ++ es) (ht : y.transmitting = x.transmitting) (hes : ∀ e ∈ es, p e = true) :
    y.sending ++ y.waiting.filter p = x.sending ++ (x.waiting ++ es).filter p := by
  have hstay : es.filter p = es := List.filter_eq_self.mpr hes
  cases hx : x.transmitting
  case false => simp [LinkState.sending, LinkState.waiting, ho, ht, hx]
  case true =>
    cases hxo : x.outbound with
    | cons f fs => simp [LinkState.sending, LinkState.waiting, ho, ht, hx, hxo]
    | nil =>
      have hdrop : (es.drop 1).filter p = es.drop 1 := List.filter_eq_self.mpr fun e he => hes e (List.mem_of_mem_drop he)
      simp only [LinkState.sending, LinkState.waiting, ho, ht, hx, hxo, hstay, if_true, List.nil_append, List.take_nil,
        List.drop_nil, hdrop, List.take_append_drop]

/-- A link with an entry behind its queue transmits. -/
theorem LinkState.kick_of_tail (x : LinkState) {es fs : List Entry} {e : Entry} {p : Entry → Bool} (he : p e = true)
    (hx : x.outbound = es ++ (fs ++ [e]).filter p) : x.kick = { x with transmitting := true } := by
  have hsome : x.outbound.isEmpty = false := by
    rw [hx, List.filter_append, List.filter_cons_of_pos he]
    simp
  rw [LinkState.kick, hsome, Bool.not_false]

/-- What the end of a lone job and the lanes that go on behind it leave, with a free notice place. -/
structure State.LoneJobEnded (l : Link) (j : Job) (o : JobOutcome) (u t : State) : Prop where
  link : t.link l = { u.link l with
    live := []
    history := addHistory (u.link l).history (j.entry o)
    lane := ⟨if u.bus.laneInFlight l then .stopping else .idle, 0, 0⟩
    transmitting := true
    outbound := (u.link l).sending ++ ((u.link l).waiting ++ [Entry.notice (j.endedNotice o)]).filter (Entry.outlives j) }
  use : ∀ b, t.useOf l b = (u.useOf l b).filter (fun v => v.isOutbound || (u.bus.laneInFlight l && v.isInTransfer))
  wait : l ∉ t.waitList
  request : t.bus.request l = none
  slots : t.slots = u.slots
  windows : t.windows = u.windows
  latch : t.latch = u.latch
  session : (t.link l.other).session = (u.link l.other).session
  intake : (t.link l.other).intake = (u.link l.other).intake
  conditions : (t.link l.other).conditions = (u.link l.other).conditions

theorem State.endJob_loneJobEnded (hx : (u.link l).live = [j]) (hs : j.state ≠ .queued)
    (hn : (u.link l).notices < Config.noticePlaces) (o : JobOutcome) :
    u.LoneJobEnded l j o ((u.endJob l o).settle l).kick := by
  have hend := State.endJob_jobEnded hx hs (by simp) o
  have hlive : ((u.endJob l o).link l).live = [] := by rw [hend.link, LinkState.ending_live hx]
  have hrest := (State.Passive.of_no_jobs hlive).rested l
  have hother := hend.frame.link l.other
  have hpushed : (u.link l).concluded j [] o =
      ({ u.link l with live := [], history := addHistory (u.link l).history (j.entry o) } : LinkState).push
        (.notice (j.endedNotice o)) := if_pos hn
  refine ⟨?_, fun b => (hrest.use b).trans (hend.use b), hrest.wait hend.wait,
    hrest.request (by rw [hend.bus]; rw [Bus.withdraw_request, Bus.setRequest_request]), hrest.slots.trans hend.frame.slots,
    hrest.windows.trans hend.frame.windows, hrest.latch.trans hend.frame.latch, hrest.session.trans hother.session,
    hrest.intake.trans hother.intake, hrest.conditions.trans hother.conditions⟩
  have hqueue := LinkState.append_sending_filter (x := u.link l) (y := (u.link l).concluded j [] o) (p := Entry.outlives j)
    (es := [.notice (j.endedNotice o)]) (by rw [hpushed]; rfl) (by rw [hpushed]; rfl) (by simp [Entry.outlives])
  rw [hrest.link, hend.link, LinkState.ending_of_cons hx, hqueue, hpushed]
  exact LinkState.kick_of_tail _ (p := Entry.outlives j) (e := .notice (j.endedNotice o)) rfl rfl

/-- A job-fatal error of a lone job: it ends FAILED, with the error as its first unless it has one (R21). -/
theorem State.fatalError_of_lone {e : ErrorKind} {seg block : Nat} {g : Segment} (hx : (s.link l).live = [j])
    (hs : j.state ≠ .queued) (hg : j.primary[seg]? = some g) (hb : block < g.blocks)
    (hn : ((j.primary.take seg).map Segment.blocks).sum + block = j.nextExpected) :
    s.fatalError l e = (s.onLink l (fun x => { x with
      live := [{ j with firstError := some (j.firstError.getD ⟨e, .primary, seg, block⟩) }] })).endJob l .failed := by
  rw [State.fatalError, State.activeJob_head hx hs]
  simp only [locateBlock_eq hg hb hn]
  rw [State.onJob_of_cons hx, Job.noteError_eq]

end

/-- Settles O37: a lone active job ends by JCAN, by its timers, or by a faulty DATA frame. -/
theorem jobsEndWithTheirOutcome : Obligations.JobsEndWithTheirOutcome := by
  intro l j c o replies first s h0 hx hs hn hcause past behind hpast hbehind
  obtain ⟨k, hk⟩ : ∃ k : Job, k = { j with firstError := first } := ⟨_, rfl⟩
  obtain ⟨u, hu⟩ : ∃ u : State, u = s.onLink l (fun x => { x with live := [k], outbound := x.outbound ++ replies }) := ⟨_, rfl⟩
  have hlink : u.link l = { s.link l with live := [k], outbound := (s.link l).outbound ++ replies } := by
    rw [hu, State.onLink_link]
  have hreplies : ∀ e ∈ replies, e.isNotice = false ∧ Entry.outlives k e = true := by
    rcases hcause with ⟨⟨-, -, -, rfl, -⟩ | ⟨-, -, -, rfl, -⟩, -⟩ | ⟨-, -, -, -, -, rfl, -⟩ <;> simp [Entry.isNotice, Entry.outlives]
  have hexec : exec c s = .next ((u.endJob l o).settle l).kick := by
    rcases hcause with ⟨⟨rfl, hready, hstate, rfl, rfl⟩ | ⟨rfl, hp, ht, rfl, rfl⟩, rfl⟩ |
      ⟨e, seg, block, g, hcause, rfl, rfl, hg, hb, hsum, hfirst⟩
    case inl.inl =>
      have hreplied : s.replyJob l 0x53 j.tag .ended = u := by
        rw [hu, hk, State.replyJob, State.reply_eq_onLink]
        exact State.onLink_congr (by rw [← hx]; rfl)
      have htake : s.takeRequest l (.jcan j.tag) = s.cancelNow l j.tag := by
        refine (State.forJob_of_live (LinkState.liveJob_head hx) _ _).trans ?_
        rcases hstate with ⟨hr, hno⟩ | hp
        · simp [State.cancelLive, hr, hno]
        · simp [State.cancelLive, hp]
      rw [exec_of_ready hready (.jcan j.tag) rfl, htake, State.cancelNow, hreplied]
    case inl.inr =>
      have hsame : s = u := by
        rw [hu, hk]
        exact (State.onLink_self (by rw [← hx, List.append_nil])).symm
      change Host.Outcome.next (event s (fun t => t.holdExpires l)) = _
      rw [event_of_running h0, State.holdExpires, State.activeJob_head hx hs]
      simp only [hp, ht, ne_eq, not_false_eq_true, and_self, if_true]
      rw [← hsame]
    case inr =>
      have hfatal : (s.fatalError l e).settle l = (u.endJob l .failed).settle l := by
        rw [State.fatalError_of_lone hx hs hg hb hsum, hu, hk, hfirst]
        simp only [List.append_nil]
      rcases hcause with ⟨rfl, ht, rfl⟩ | ⟨payload, rfl, htag, hkind, hlen, hsize, hopen, hbreak, hhunt, hgap, hbad⟩
      · change Host.Outcome.next (event s (fun t => t.dataExpires l)) = _
        rw [event_of_running h0, State.dataExpires, State.activeJob_head hx hs]
        simp only [ht, if_false]
        rw [hfatal]
      · have hmax : payload.length ≤ Config.dataPayloadMax := by
          change _ ≤ 2050
          omega
        have hown : ¬ (j.kind ≠ .write ∨ j.tag ≠ (BitVec.ofNat 8 j.tag).toNat) := by
          simp [hkind, Nat.mod_eq_of_lt htag]
        rw [exec_datFrame h0 ⟨hbreak, hhunt, hgap⟩ _ hmax, State.dataFrameArrives_of_open hopen, State.dataArrives,
          State.activeJob_head hx hs]
        simp only [if_neg hown, hlen, ne_eq, not_true_eq_false, if_false]
        rcases hbad with ⟨hc, rfl⟩ | ⟨hc, hseq, rfl⟩
        · rw [if_pos hc, hfatal]
        · rw [if_neg (by omega), if_pos hseq, hfatal]
  have hnotices : (u.link l).notices < Config.noticePlaces := by
    have hnone : replies.countP Entry.isNotice = 0 := List.countP_eq_zero.mpr fun e he => by simp [(hreplies e he).1]
    rw [hlink]
    simp only [LinkState.notices, List.countP_append, hnone] at hn ⊢
    exact hn
  have hended := State.endJob_loneJobEnded (j := k) (by rw [hlink]) (by rw [hk]; exact hs) hnotices o
  have huse : ∀ b, u.useOf l b = s.useOf l b := State.useOf_link_congr (by rw [hu, State.onLink_buffers]) l
  have hflight : u.bus.laneInFlight l = s.bus.laneInFlight l := by rw [hu, State.onLink_bus]
  have hother : u.link l.other = s.link l.other := by rw [hu, State.onLink_ne s (Link_other_ne l)]
  refine ⟨_, hexec, ?_, fun b => ?_, hended.wait, hended.request, ?_, ?_, ?_, ?_, ?_, ?_⟩
  · have hqueue := LinkState.append_sending_filter (x := s.link l) (y := u.link l) (es := replies) (p := Entry.outlives k)
      (by rw [hlink]) (by rw [hlink]) (fun e he => (hreplies e he).2)
    have hstay : Entry.outlives k = fun entry => match entry with
        | .credit tag _ => j.kind != JobKind.write || tag != j.tag
        | _ => true := by
      funext e
      rw [hk]
      cases e <;> rfl
    rw [hended.link, List.filter_append, ← List.append_assoc, hqueue, List.append_assoc, ← List.filter_append, hstay, hlink,
      hpast, hbehind, hflight, hk]
    rfl
  · rw [hended.use b, huse, hflight]
  · rw [hended.slots, hu, State.onLink_slots]
  · rw [hended.windows, hu, State.onLink_windows]
  · rw [hended.latch, hu, State.onLink_latch]
  · rw [hended.session, hother]
  · rw [hended.intake, hother]
  · rw [hended.conditions, hother]

end Sys2Proof.Machine
end

section
/-! PROOFS. The report of a completed block: counts, positions, SEGMENT_DONE, and the end of the job behind its last block
(O41). -/

namespace Sys2Proof.Machine

section
variable {s t u : State} {l : Link} {b : BufId} {j k : Job} {js : List Job} {segs : List Segment} {p : Position} {n : Nat}

/-! The position behind a completed block (R13, R14, R27) -/

/-- A counted block's position moved on by one block. -/
theorem Position.advance_counted (hpos : ∀ g ∈ segs, 1 ≤ g.blocks) (h : p.standsAt segs n = true) :
    ({ p with done := p.done + 1 } : Position).advance segs 1 =
      (p.passed segs, if p.atEnd segs then [(p.segment, p.done + 1)] else []) := by
  obtain ⟨g, hg, hb, -⟩ := (Position.standsAt_iff _ _ _).mp h
  have hseg : p.segment < segs.length := (List.getElem?_eq_some_iff.mp hg).1
  have hdrop : segs.drop p.segment = g :: segs.drop (p.segment + 1) := by
    rw [List.drop_eq_getElem_cons hseg, (List.getElem?_eq_some_iff.mp hg).2]
  rw [Position.advance, hdrop]
  change advanceFrom _ p.segment p.block (p.done + 1) 1 = _
  by_cases hend : g.blocks ≤ p.block + 1
  · have hat : p.atEnd segs = true := by simp [Position.atEnd, hg, hend]
    have hzero : 1 - (g.blocks - p.block) = 0 := by omega
    rw [advanceFrom_of_le (by omega), hzero, Position.passed, if_pos hat, if_pos hat]
    cases hrest : segs.drop (p.segment + 1) with
    | nil => rfl
    | cons g' gs =>
      have hg' : 1 ≤ g'.blocks := hpos g' (List.mem_of_mem_drop (by rw [hrest]; exact List.mem_cons_self))
      rw [advanceFrom_of_lt (by omega)]
  · have hat : ¬ p.atEnd segs = true := by simpa [Position.atEnd, hg] using hend
    rw [advanceFrom_of_lt (by omega), Position.passed, if_neg hat, if_neg hat]

theorem Position.advance_nil (p : Position) (n : Nat) : (p.advance [] n).2 = [] := by
  rw [Position.advance, List.drop_nil]
  rfl

/-- The job behind a block that is completed. -/
theorem Job.advance_countBlock (h : j.placeLaw = true) : j.countBlock.advance 1 = j.passed := by
  obtain ⟨-, -, hpos, -, hstands, hcopy, hother⟩ := Job.placeLaw_iff.mp h
  have hprimary := Position.advance_counted (fun g hg => hpos g (List.mem_append_left _ hg)) hstands
  by_cases hk : j.kind = .copy
  · have hdest := Position.advance_counted (fun g hg => hpos g (List.mem_append_right _ hg)) (hcopy hk).2
    simp only [Job.advance, Job.countBlock, Job.passed, hprimary, hdest, hk, if_true, true_and]
    congr 1
    · split <;> rfl
    · split <;> rfl
  · have hleft := Position.advance_nil j.posDestination 1
    simp only [Job.advance, Job.countBlock, Job.passed, hprimary, hk, if_false, hother hk, hleft, false_and, List.isEmpty_nil,
      if_true]
    congr 1
    split <;> rfl

/-- The SEGMENT_DONE of a segment whose last block is completed (R27). -/
def Job.passedNotices (j : Job) : List Notice :=
  if j.segmentNotices = false then []
  else if j.kind = .copy then
    (if j.posDestination.atEnd j.destination = true then
      [.segmentDone j.tag j.posDestination.segment (j.posDestination.done + 1) none] else [])
  else if j.posPrimary.atEnd j.primary = true then
    [.segmentDone j.tag j.posPrimary.segment (j.posPrimary.done + 1) none] else []

theorem Job.doneNotices_countBlock (h : j.placeLaw = true) :
    j.countBlock.doneNotices (j.countBlock.segmentsLeft 1) = j.passedNotices := by
  obtain ⟨-, -, hpos, -, hstands, hcopy, -⟩ := Job.placeLaw_iff.mp h
  have hprimary := congrArg Prod.snd (Position.advance_counted (fun g hg => hpos g (List.mem_append_left _ hg)) hstands)
  have hcounted : (j.kind ≠ .copy → j.countBlock.segmentsLeft 1 =
      (({ j.posPrimary with done := j.posPrimary.done + 1 } : Position).advance j.primary 1).2) := fun hk => by
    cases hj : j.kind <;> simp_all [Job.segmentsLeft, Job.countBlock, JobKind.noticeList, Job.position, Job.segments]
  cases hn : j.segmentNotices
  case false => simp [Job.doneNotices, Job.passedNotices, Job.countBlock, hn]
  case true =>
    by_cases hk : j.kind = .copy
    · have hdest := congrArg Prod.snd (Position.advance_counted (fun g hg => hpos g (List.mem_append_right _ hg)) (hcopy hk).2)
      have hleft : j.countBlock.segmentsLeft 1 =
          (({ j.posDestination with done := j.posDestination.done + 1 } : Position).advance j.destination 1).2 := by
        simp [Job.segmentsLeft, Job.countBlock, JobKind.noticeList, Job.position, Job.segments, hk]
      rw [hleft, hdest]
      by_cases hend : j.posDestination.atEnd j.destination = true <;>
        simp [Job.doneNotices, Job.passedNotices, Job.countBlock, hn, hk, hend]
    · rw [hcounted hk, hprimary]
      by_cases hend : j.posPrimary.atEnd j.primary = true <;>
        simp [Job.doneNotices, Job.passedNotices, Job.countBlock, hn, hk, hend]

/-- The block at the position is completed: the head job is the one behind it, and SEGMENT_DONE is offered. -/
theorem State.completeBlock_eq (hx : (s.link l).live = j :: js) (hp : j.placeLaw = true) :
    s.completeBlock l j = s.onLink l (fun x => LinkState.offers j.passedNotices { x with live := j.passed :: js }) := by
  rw [State.completeBlock, State.offers_eq, Job.doneNotices_countBlock hp, Job.advance_countBlock hp, State.onJob_of_cons hx,
    State.onLink_onLink]

/-- A job ends behind its last block, and its lane goes on otherwise (R22). -/
theorem State.endIfPast_eq (hx : (s.link l).live = j :: js) (hs : j.state ≠ .queued) (go : State → State) :
    s.endIfPast l go = if j.nextBlock < j.total then go s else s.endJob l (if j.failed = 0 then .done else .doneWithErrors) := by
  rw [State.endIfPast, State.activeJob_head hx hs]
  by_cases h : j.nextBlock < j.total
  · simp only [if_neg (Nat.not_le.mpr h), if_pos h]
  · simp only [if_pos (Nat.not_lt.mp h), if_neg h]

/-- Where the active job has ended, no job is PAUSING. -/
theorem State.settlePausing_of_ended (hx : (s.link l).live = j :: js) (hs : j.state ≠ .queued) (hq : ∀ m ∈ js, m.state = .queued)
    (o : JobOutcome) : (s.endJob l o).settlePausing l = s.endJob l o := by
  have hlink := (State.endJob_jobEnded hx hs hq o).link
  have hidle : (s.endJob l o).activeJob l = none := by
    rw [State.activeJob, hlink]
    exact LinkState.activeJob_of_queued (by rw [LinkState.ending_live hx]; exact hq)
  rw [State.settlePausing, hidle]

/-- The report of a RUNNING or PAUSING job's transfer. -/
theorem State.takeReport_of_busy (hx : (s.link l).live = j :: js) (hs : j.state = .running ∨ j.state = .pausing)
    (hb : (s.link l).lane.state = .busy) (dir : Direction) (r : Report) :
    s.takeReport l dir r = (s.applyReport l j dir r).settlePausing l := by
  have hj : j.state ≠ .queued := by rcases hs with h | h <;> rw [h] <;> simp
  have hc : j.state ≠ .cancelling := by rcases hs with h | h <;> rw [h] <;> simp
  rw [State.takeReport, hb, State.activeJob_head hx hj]
  exact if_neg hc

/-- The block is completed, and the lane goes on as given, or the job ends. -/
theorem State.completeBlock_settled (hx : (s.link l).live = j :: js) (hs : j.state ≠ .queued) (hq : ∀ m ∈ js, m.state = .queued)
    (hp : j.placeLaw = true) (hu : u = s.onLink l (fun x => LinkState.offers j.passedNotices { x with live := j.passed :: js }))
    (go : State → State) : ((s.completeBlock l j).endIfPast l go).settlePausing l =
      if j.nextBlock + 1 < j.total then (go u).settlePausing l else u.endJob l (if j.failed = 0 then .done else .doneWithErrors) := by
  have hlive : (u.link l).live = j.passed :: js := by rw [hu, State.onLink_link, LinkState.offers_live]
  rw [State.completeBlock_eq hx hp, ← hu, State.endIfPast_eq hlive hs]
  change State.settlePausing (if j.nextBlock + 1 < j.total then _ else _) l = _
  split
  next => rfl
  next => exact State.settlePausing_of_ended hlive hs hq _

/-! A job that is PAUSING, and a WRITE's emptied buffer (R44, R59) -/

theorem State.settlePausing_of_pausing (hx : (s.link l).live = j :: js) (hs : j.state = .pausing) :
    s.settlePausing l = s.enterPaused l := by
  rw [State.settlePausing, State.activeJob_head hx (by simp [hs])]
  exact if_pos hs

theorem State.settlePausing_of_not_pausing (hx : (s.link l).live = j :: js) (hs : j.state ≠ .pausing) :
    s.settlePausing l = s := by
  rw [State.settlePausing]
  split
  next => rfl
  next k hk =>
    obtain ⟨ks, hks, -⟩ := State.activeJob_eq_some.mp hk
    obtain rfl : j = k := (List.cons.inj (hx.symm.trans hks)).1
    exact if_neg hs

theorem LinkState.offerCredit_blocksCredited (tag n : Nat) (x : LinkState) :
    (x.offerCredit tag n).lane.blocksCredited = x.lane.blocksCredited := by
  unfold LinkState.offerCredit
  split
  next => rfl
  next => split <;> rfl

/-- An emptied buffer backs a new credit of a RUNNING WRITE job that may grant one, which leaves the wait list if it may grant
no more. -/
theorem State.emptyWriteBuffer_of_granted (hx : (s.link l).live = j :: js) (hs : j.state = .running) (hk : j.kind = .write)
    (hc : j.credits < 4) (hn : (s.link l).lane.blocksCredited < j.total) (b : BufId)
    (hu : u = (s.setHolder b (.lane l .reserved)).onLink l (fun x => (x.granting j js).offerCredit j.tag 1)) :
    s.emptyWriteBuffer l b = if j.credits = 3 ∨ (s.link l).lane.blocksCredited + 1 = j.total then
      { u with waitList := u.waitList.filter (· != l) } else u := by
  have hj : j.state ≠ .queued := by simp [hs]
  have hroom : 0 < (s.link l).creditRoom j := by
    simp only [LinkState.creditRoom, Config.creditMax]
    omega
  have hgrant : (s.setHolder b (.lane l .reserved)).grantCredit l = u := by
    have hassign := State.assign_reserved hx hs hk b
    rw [State.assign, State.activeJob_head hx hj] at hassign
    simp only [hk] at hassign
    rw [hassign, hu]
  have hlive : (u.link l).live = { j with credits := j.credits + 1, dataTimer := .running ((s.link l).dataTimeout.getD 1000) } :: js := by
    rw [hu, State.onLink_link, State.setHolder_link, LinkState.offerCredit_live]
    rfl
  have hlane : (u.link l).lane.blocksCredited = (s.link l).lane.blocksCredited + 1 := by
    rw [hu, State.onLink_link, State.setHolder_link, LinkState.offerCredit_blocksCredited]
    rfl
  rw [State.emptyWriteBuffer, State.activeJob_head hx hj]
  simp only [hs, hroom, and_self, if_true, hgrant]
  rw [State.dropIdleWait, State.activeJob_head hlive hj]
  simp only [LinkState.creditRoom, hlane, hk, true_and, Config.creditMax]
  refine if_congr ?_ rfl rfl
  omega

/-- An emptied buffer backs no new credit of another job. -/
theorem State.emptyWriteBuffer_of_ungranted (hx : (s.link l).live = j :: js) (hs : j.state ≠ .queued)
    (h : j.state ≠ .running ∨ 4 ≤ j.credits ∨ j.total ≤ (s.link l).lane.blocksCredited) (b : BufId) :
    s.emptyWriteBuffer l b = s.freeBuf b := by
  refine State.emptyWriteBuffer_of_freed hx hs (fun ⟨hrunning, hroom⟩ => ?_) b
  have hnone : (s.link l).creditRoom j = 0 := by
    simp only [LinkState.creditRoom, Config.creditMax]
    rcases h with h | h | h
    · exact absurd hrunning h
    · omega
    · omega
  omega

end

/-- Settles O41: the report of a completed block, by the kind of its job. -/
theorem reportsCompleteBlocks : Obligations.ReportsCompleteBlocks := by
  intro l j js s hx
  refine ⟨State.settlePausing_of_not_pausing hx, fun hs => ?_, fun hk hs b => ⟨fun hrunning hc hn u hu => ?_, fun h => ?_⟩,
    fun hb hq hs hp dir k hk done hdone counted hcounted goOn hgoOn => ?_⟩
  · rw [State.settlePausing_of_pausing hx hs, State.enterPaused_of_cons hx (by simp [hs])]
    have hhold : (if j.causeHost = true then holdStart (s.link l).holdLimit else .stopped) =
        if j.causeHost = true ∧ 0 < (s.link l).holdLimit.getD 0 then .running ((s.link l).holdLimit.getD 0) else .stopped := by
      cases j.causeHost <;> simp [holdStart_eq]
    rw [hhold]
    exact State.onLink_congr rfl
  · exact State.emptyWriteBuffer_of_granted hx hrunning hk hc hn b hu
  · exact State.emptyWriteBuffer_of_ungranted hx hs h b
  · subst hk hdone hcounted hgoOn
    have hj : j.state ≠ .queued := by rcases hs with h | h <;> rw [h] <;> simp
    have hreport := State.takeReport_of_busy hx hs hb dir .success
    have hcomplete : ∀ (v u : State) (go : State → State), (v.link l).live = j :: js →
        u = v.onLink l (fun x => LinkState.offers j.passedNotices { x with live := j.passed :: js }) →
        ((v.completeBlock l j).endIfPast l go).settlePausing l = if j.nextBlock + 1 < j.total then (go u).settlePausing l
          else u.endJob l (if j.failed = 0 then .done else .doneWithErrors) :=
      fun v u go hv hu => State.completeBlock_settled hv hj hq hp hu go
    refine ⟨fun hk => ?_, fun b hf => ⟨fun hk u hu => ?_, fun hk => ?_, fun hk hd => ?_, fun hk hd u hu => ?_⟩⟩
    · have happly : s.applyReport l j dir .success = (s.completeBlock l j).endIfPast l id := by
        simp only [State.applyReport, hk]
      rw [hreport, happly]
      exact hcomplete s _ id hx rfl
    · have happly : s.applyReport l j dir .success = ((s.queueData l j).completeBlock l j).endIfPast l id := by
        simp only [State.applyReport, hk]
      rw [hreport, happly, State.queueData_of_transfer hf]
      exact hcomplete _ u id (by rw [State.onLink_link, State.setHolder_link]; exact hx) hu
    · have happly : s.applyReport l j dir .success = (s.completeBlock l j).endIfPast l (fun t => t.emptyTransfer l) := by
        simp only [State.applyReport, hk]
      rw [hreport, happly]
      refine (hcomplete s _ _ hx rfl).trans ?_
      have hempty : ∀ u : State, u.buffers = s.buffers → u.emptyTransfer l = u.emptyWriteBuffer l b := fun u hu => by
        rw [State.emptyTransfer, State.findUse_congr hu, hf]
      rw [hempty _ (State.onLink_buffers _ _ _)]
      rfl
    · have happly : s.applyReport l j dir .success = s.useTransfer l (.loaded j.tag j.nextBlock) := by
        rw [hd]
        simp only [State.applyReport, hk]
      rw [hreport, happly, State.useTransfer_of_transfer hf]
    · have happly : s.applyReport l j dir .success = ((s.useTransfer l .staged).completeBlock l j).endIfPast l id := by
        rw [hd]
        simp only [State.applyReport, hk]
      rw [hreport, happly, State.useTransfer_of_transfer hf]
      exact hcomplete _ u id (by rw [State.setHolder_link]; exact hx) hu

end Sys2Proof.Machine
end

section
/-! PROOFS. Segment errors and their policy (O42). -/

namespace Sys2Proof.Machine

section
variable {s t u : State} {l : Link} {b : BufId} {j k : Job} {js : List Job} {segs gs : List Segment} {g h : Segment}
  {p : Position} {i o : ListId} {e : ErrorKind} {seg block done n skip : Nat}

/-! Moves that leave segments (R13, R20) -/

/-- A segment's start, where it has blocks, or the end of the list. -/
theorem advanceFrom_start (hpos : ∀ g ∈ gs, 1 ≤ g.blocks) (seg : Nat) : (advanceFrom gs seg 0 0 0).1 = ⟨seg, 0, 0⟩ := by
  cases gs with
  | nil => rfl
  | cons g gs =>
    have hg := hpos g List.mem_cons_self
    rw [advanceFrom_of_lt (by omega)]

/-- A move never goes back. -/
theorem advanceFrom_segment_le (gs : List Segment) : ∀ seg block done n : Nat,
    seg ≤ (advanceFrom gs seg block done n).1.segment := by
  induction gs with
  | nil => intro seg _ _ _; exact Nat.le_refl seg
  | cons g gs ih =>
    intro seg block done n
    rcases Nat.lt_or_ge n (g.blocks - block) with hlt | hge
    · rw [advanceFrom_of_lt hlt]
    · rw [advanceFrom_of_le hge]
      exact Nat.le_of_succ_le (ih (seg + 1) 0 0 _)

/-- The segments that a move leaves: each from the first one on, with nothing completed of those behind it. -/
theorem advanceFrom_left (gs : List Segment) : ∀ seg block done n : Nat, (advanceFrom gs seg block done n).2 =
    (List.range ((advanceFrom gs seg block done n).1.segment - seg)).map (fun k => (seg + k, if k = 0 then done else 0)) := by
  induction gs with
  | nil => intro seg _ _ _; simp [advanceFrom]
  | cons g gs ih =>
    intro seg block done n
    rcases Nat.lt_or_ge n (g.blocks - block) with hlt | hge
    · rw [advanceFrom_of_lt hlt]
      simp
    · have hle := advanceFrom_segment_le gs (seg + 1) 0 0 (n - (g.blocks - block))
      rw [advanceFrom_of_le hge, ih]
      generalize (advanceFrom gs (seg + 1) 0 0 (n - (g.blocks - block))).1.segment = m at hle ⊢
      obtain ⟨d, rfl⟩ := Nat.exists_eq_add_of_le hle
      have hfirst : seg + 1 + d - seg = d + 1 := by omega
      have hrest : seg + 1 + d - (seg + 1) = d := by omega
      simp only [hfirst, hrest, List.range_succ_eq_map, List.map_cons, List.map_map, Nat.add_zero, if_true, ite_self]
      refine congrArg (_ :: ·) (List.map_congr_left fun k _ => ?_)
      have hshift : seg + 1 + k = seg + (k + 1) := by omega
      simp [hshift]

/-- Of the segment that a move from a start reaches, nothing is completed. -/
theorem advanceFrom_done (gs : List Segment) : ∀ seg n : Nat, (advanceFrom gs seg 0 0 n).1.done = 0 := by
  induction gs with
  | nil => intro seg n; rfl
  | cons g gs ih =>
    intro seg n
    rcases Nat.lt_or_ge n (g.blocks - 0) with hlt | hge
    · rw [advanceFrom_of_lt hlt]
    · rw [advanceFrom_of_le hge]
      exact ih (seg + 1) _

/-- A move from a start over all blocks ends behind the list. -/
theorem advanceFrom_past (gs : List Segment) : ∀ seg n : Nat, totalBlocks gs ≤ n →
    (∀ g ∈ gs, 1 ≤ g.blocks) → (advanceFrom gs seg 0 0 n).1 = ⟨seg + gs.length, 0, 0⟩ := by
  induction gs with
  | nil => intro seg n _ _; rfl
  | cons g gs ih =>
    intro seg n hn hpos
    rw [totalBlocks_cons] at hn
    have hg := hpos g List.mem_cons_self
    rw [advanceFrom_of_le (by omega)]
    refine (ih (seg + 1) _ (by omega) fun h hh => hpos h (List.mem_cons_of_mem _ hh)).trans ?_
    rw [List.length_cons, Nat.add_right_comm, Nat.add_assoc]

theorem drop_segment (hg : segs[p.segment]? = some g) : segs.drop p.segment = g :: segs.drop (p.segment + 1) := by
  obtain ⟨hlen, hget⟩ := List.getElem?_eq_some_iff.mp hg
  rw [List.drop_eq_getElem_cons hlen, hget]

/-- A move within the segment. -/
theorem Position.advance_of_lt (hg : segs[p.segment]? = some g) (hn : n < g.blocks - p.block) :
    p.advance segs n = ({ p with block := p.block + n }, []) := by
  rw [Position.advance, drop_segment hg, advanceFrom_of_lt hn]

/-- A move that leaves the segment. -/
theorem Position.advance_of_le (hg : segs[p.segment]? = some g) (hn : g.blocks - p.block ≤ n) :
    p.advance segs n = ((advanceFrom (segs.drop (p.segment + 1)) (p.segment + 1) 0 0 (n - (g.blocks - p.block))).1,
      (p.segment, p.done) :: (advanceFrom (segs.drop (p.segment + 1)) (p.segment + 1) 0 0 (n - (g.blocks - p.block))).2) := by
  rw [Position.advance, drop_segment hg, advanceFrom_of_le hn]

/-- A move over the rest of the segment ends at the start of the next. -/
theorem Position.advance_rest (hpos : ∀ g ∈ segs, 1 ≤ g.blocks) (hg : segs[p.segment]? = some g) :
    (p.advance segs (g.blocks - p.block)).1 = ⟨p.segment + 1, 0, 0⟩ := by
  rw [Position.advance_of_le hg (Nat.le_refl _), Nat.sub_self]
  exact advanceFrom_start (fun h hh => hpos h (List.mem_of_mem_drop hh)) _

/-- A move over all blocks that are left ends behind the list. -/
theorem Position.advance_past (hpos : ∀ g ∈ segs, 1 ≤ g.blocks) {m : Nat} (hp : p.standsAt segs m = true)
    (hn : totalBlocks segs ≤ m + n) : (p.advance segs n).1 = ⟨segs.length, 0, 0⟩ := by
  obtain ⟨g, hg, hb, hm⟩ := (Position.standsAt_iff _ _ _).mp hp
  have hlen := (List.getElem?_eq_some_iff.mp hg).1
  have hsum := totalBlocks_take_add_drop segs p.segment
  rw [drop_segment hg, totalBlocks_cons] at hsum
  rw [Position.advance_of_le hg (by omega)]
  refine (advanceFrom_past _ _ _ (by omega) fun h hh => hpos h (List.mem_of_mem_drop hh)).trans ?_
  rw [List.length_drop]
  congr 1
  omega

/-! The job behind an abandoned segment (R19, R20) -/

theorem Job.restOfSegment_eq (hg : (j.segments i)[(j.position i).segment]? = some g) :
    j.restOfSegment i = g.blocks - (j.position i).block := by
  rw [Job.restOfSegment, hg]

/-- The job as the abandonment leaves it, but for its positions and bindings. -/
theorem Job.abandon_eq (j : Job) (i : ListId) (e : ErrorKind) (skip : Nat) : j.abandon i e skip = { j with
    failed := j.failed + 1
    firstError := some (j.firstError.getD ⟨e, i, (j.position i).segment, (j.position i).block⟩)
    nextBlock := j.nextBlock + skip
    posPrimary := (j.posPrimary.advance j.primary skip).1
    posDestination := if j.kind = .copy then (j.posDestination.advance j.destination skip).1 else j.posDestination
    bindPrimary := if (j.posPrimary.advance j.primary skip).2.isEmpty then
      (if i = .primary then none else j.bindPrimary) else none
    bindDestination := if (j.posDestination.advance j.destination skip).2.isEmpty then
      (if i = .destination then none else j.bindDestination) else none } := by
  simp only [Job.abandon, Job.noteError_eq]
  cases i <;> rfl

/-- A list of the job: its blocks, and where the job stands in it. -/
theorem Job.list_stands (hp : j.placeLaw = true) (hi : i = .destination → j.kind = .copy) :
    (∀ g ∈ j.segments i, 1 ≤ g.blocks) ∧ (j.position i).standsAt (j.segments i) j.nextBlock = true ∧
      totalBlocks (j.segments i) = j.total := by
  obtain ⟨-, -, hpos, htotal, hstands, hcopy, -⟩ := Job.placeLaw_iff.mp hp
  cases i with
  | primary => exact ⟨fun g hg => hpos g (List.mem_append_left _ hg), hstands, htotal.symm⟩
  | destination =>
    obtain ⟨hsame, hdest⟩ := hcopy (hi rfl)
    exact ⟨fun g hg => hpos g (List.mem_append_right _ hg), hdest, hsame⟩

theorem Job.abandon_position (hi : i = .destination → j.kind = .copy) (o : ListId) (e : ErrorKind) (skip : Nat) :
    (j.abandon o e skip).position i = ((j.position i).advance (j.segments i) skip).1 := by
  rw [Job.abandon_eq]
  cases i with
  | primary => rfl
  | destination => exact if_pos (hi rfl)

theorem Job.abandon_binding (i o : ListId) (e : ErrorKind) (skip : Nat) :
    (j.abandon o e skip).binding i = if ((j.position i).advance (j.segments i) skip).2.isEmpty then
      (if o = i then none else j.binding i) else none := by
  rw [Job.abandon_eq]
  cases i <;> rfl

/-- What a list does when a job skips blocks for an error of its other list. -/
theorem Job.abandon_other (hp : j.placeLaw = true) (ho : o = .destination → j.kind = .copy) (hne : o ≠ i)
    (hh : (j.segments o)[(j.position o).segment]? = some h) :
    (skip < h.blocks - (j.position o).block →
      (j.abandon i e skip).position o = { j.position o with block := (j.position o).block + skip } ∧
        (j.abandon i e skip).binding o = j.binding o) ∧
    (h.blocks - (j.position o).block ≤ skip → (j.abandon i e skip).binding o = none ∧
      ((j.abandon i e skip).position o).done = 0 ∧
      (j.nextBlock + skip < j.total →
        ((j.abandon i e skip).position o).standsAt (j.segments o) (j.nextBlock + skip) = true) ∧
      (j.total ≤ j.nextBlock + skip → (j.abandon i e skip).position o = ⟨(j.segments o).length, 0, 0⟩)) := by
  obtain ⟨hpos, hstands, htotal⟩ := Job.list_stands hp ho
  rw [Job.abandon_position ho, Job.abandon_binding, if_neg hne.symm]
  refine ⟨fun hlt => ?_, fun hge => ⟨?_, ?_, fun hn => ?_, fun hn => ?_⟩⟩
  · rw [Position.advance_of_lt hh hlt]
    exact ⟨rfl, rfl⟩
  · rw [Position.advance_of_le hh hge]
    rfl
  · rw [Position.advance_of_le hh hge]
    exact advanceFrom_done _ _ _
  · exact Position.advance_standsAt hpos hstands (htotal.symm ▸ hn)
  · exact Position.advance_past hpos hstands (htotal.symm ▸ hn)

/-- The notices of an abandonment (R27, R29). -/
theorem Job.abandonNotices_eq (hi : i = .destination → j.kind = .copy) (e : ErrorKind) (skip : Nat) :
    j.abandonNotices i e skip = if j.segmentNotices = false then []
      else if i = .destination ∨ j.kind ≠ .copy then
        [.segmentDone j.tag (j.position i).segment (j.position i).done (some (e, (j.position i).block))]
      else (List.range (((j.posDestination.advance j.destination skip).1).segment - j.posDestination.segment)).map (fun n =>
        .segmentDone j.tag (j.posDestination.segment + n) (if n = 0 then j.posDestination.done else 0) none) := by
  by_cases hown : i = .destination ∨ j.kind ≠ .copy
  · have hlist : i = j.kind.noticeList := by
      cases i with
      | destination => rw [hi rfl]; rfl
      | primary => cases hk : j.kind <;> simp_all [JobKind.noticeList]
    rw [Job.abandonNotices, if_pos hlist, if_pos hown]
    cases j.segmentNotices <;> rfl
  · obtain ⟨hprimary, hk⟩ := not_or.mp hown
    have hk := not_not.mp hk
    have hlist : i ≠ j.kind.noticeList := by
      rw [hk]
      exact hprimary
    have hleft : j.segmentsLeft skip = (j.posDestination.advance j.destination skip).2 := by
      rw [Job.segmentsLeft, hk]
      rfl
    rw [Job.abandonNotices, if_neg hlist, if_neg hown, Job.doneNotices, hleft]
    cases j.segmentNotices
    · rfl
    · simp only [if_true, Bool.true_eq_false, if_false, Position.advance]
      rw [advanceFrom_left, List.map_map]
      rfl

/-! The two policies (R18 to R20) -/

theorem State.segmentError_of_stop (hx : (s.link l).live = j :: js) (hs : j.state ≠ .queued) (hstop : j.stopOnError = true)
    (i : ListId) (e : ErrorKind) : s.segmentError l i e = (s.onLink l (fun x => { x with live := { j with
      failed := 1
      firstError := some ⟨e, i, (j.position i).segment, (j.position i).block⟩ } :: js })).endJob l .failed := by
  rw [State.segmentError, State.activeJob_head hx hs, ← State.onJob_of_cons hx (fun j => { j with
    failed := 1
    firstError := some ⟨e, i, (j.position i).segment, (j.position i).block⟩ })]
  exact (if_pos hstop).trans (congrArg (State.endJob · l .failed) (by rw [State.onJob_of_cons hx, State.onJob_of_cons hx]))

theorem State.segmentError_of_go_on (hx : (s.link l).live = j :: js) (hs : j.state ≠ .queued) (hgo : j.stopOnError = false)
    (hg : (j.segments i)[(j.position i).segment]? = some g) (hskip : skip = g.blocks - (j.position i).block) (e : ErrorKind)
    (hu : u = s.onLink l (fun x => LinkState.offers (j.abandonNotices i e skip) { x with live := j.abandon i e skip :: js })) :
    s.segmentError l i e = if j.total ≤ j.nextBlock + skip then u.endJob l .doneWithErrors
      else u.discardSkipped l (j.abandon i e skip) := by
  rw [State.segmentError, State.activeJob_head hx hs]
  simp only [hgo, Bool.false_eq_true, if_false]
  rw [State.abandonSegment]
  simp only [Job.restOfSegment_eq hg, ← hskip]
  rw [State.offers_eq, State.onJob_of_cons hx, State.onLink_onLink, ← hu, Job.abandon_eq]

end

/-- Settles O42: a segment error ends the job, or abandons the segment. -/
theorem segmentErrorsFollowThePolicy : Obligations.SegmentErrorsFollowThePolicy := by
  intro l i e j js s hx hj hi
  refine ⟨fun hstop => State.segmentError_of_stop hx hj hstop i e, fun hgo hp g hg skip hskip => ?_, fun hb hs dir hdir => ?_⟩
  · obtain ⟨hpos, -, -⟩ := Job.list_stands hp hi
    have htotal : (j.abandon i e skip).nextBlock = j.nextBlock + skip := by rw [Job.abandon_eq]
    have hkind : (j.abandon i e skip).kind = j.kind := by rw [Job.abandon_eq]
    have hsame : (j.abandon i e skip).total = j.total := by rw [Job.abandon_eq]
    obtain ⟨-, -, -, -, -, -, hdest⟩ := Job.placeLaw_iff.mp hp
    have hrest := Position.advance_rest hpos hg
    refine ⟨j.abandon i e skip, j.abandonNotices i e skip, ?_, ?_, ?_, fun hk => ?_, fun hk o ho h hh => ?_, ?_, fun u hu => ?_⟩
    · rw [Job.abandon_eq]
    · rw [Job.abandon_position hi, hskip, hrest]
    · rw [Job.abandon_binding, if_pos rfl]
      exact ite_self _
    · have hprimary : i ≠ .destination := fun h => hk (hi h)
      have hempty : (j.posDestination.advance j.destination skip).2.isEmpty = true := by
        rw [hdest hk, Position.advance_nil]
        rfl
      rw [Job.abandon_eq]
      exact ⟨if_neg hk, (if_pos hempty).trans (if_neg hprimary)⟩
    · rw [htotal, hsame]
      exact Job.abandon_other hp (fun _ => hk) ho hh
    · rw [Job.abandonNotices_eq hi]
      by_cases hk : j.kind = .copy
      · rw [Job.abandon_eq]
        simp only [hk, if_true]
      · simp only [hk, ne_eq, not_false_eq_true, or_true, if_true]
    · have herror := State.segmentError_of_go_on hx hj hgo hg hskip e hu
      rw [htotal, herror, State.discardSkipped, hkind]
      refine ⟨fun hend => if_pos hend, fun hlive => ?_⟩
      rw [if_neg (Nat.not_le.mpr hlive)]
      refine ⟨fun hk => ?_, fun hk => ?_, fun hk => ⟨fun b hf => ?_, fun hf => ?_⟩⟩
      · rcases hk with hk | hk <;> simp only [hk]
      · simp only [hk]
        rw [htotal]
      · simp only [hk]
        rw [State.unloadCopy, hf]
      · simp only [hk]
        rw [State.unloadCopy, hf]
  · have hreport := State.takeReport_of_busy hx hs hb dir (.error e)
    refine ⟨fun hk => ?_, fun b hf => ⟨fun hk => ?_, fun hk => ?_⟩⟩
    · have hlist : i = .primary := by rw [hdir, hk]; rfl
      rw [hreport, hlist]
      simp only [State.applyReport, hk]
    · rw [hreport, ← State.useTransfer_of_transfer hf]
      rcases hk with hk | hk
      · have hlist : i = .primary := by rw [hdir, hk]; rfl
        rw [hlist]
        simp only [State.applyReport, hk]
      · simp only [State.applyReport, hk]
        rw [JobKind.listOf_eq, hdir, hk]
    · have hlist : i = .primary := by rw [hdir, hk]; rfl
      have hempty : s.emptyTransfer l = s.emptyWriteBuffer l b := by rw [State.emptyTransfer, hf]
      rw [hreport, hlist, ← hempty]
      simp only [State.applyReport, hk]

end Sys2Proof.Machine
end

section
/-! PROOFS. What the lanes keep by what they do on their own: a fact of the state that each of their moves keeps, of a
link's queue, of its jobs and of a buffer that is not OUTBOUND, is kept as the lanes go on. -/

namespace Sys2Proof.Machine

/-- What a lane does at a link on its own (R11, R23, R25, R41). -/
inductive OwnMove : (LinkState → LinkState) → Prop
  | offer (n : Notice) : OwnMove (LinkState.offer n)
  | credit (tag n : Nat) : OwnMove (LinkState.offerCredit tag n)
  | uncredit (tag : Nat) : OwnMove (LinkState.removeCredit tag)
  | lane (f : LinkState → Lane) : OwnMove (fun x => x.withLane (f x))
  | head (f : LinkState → Job → Job) : OwnMove (fun x => x.onHead (f x))
  | pop (e : HistoryEntry) : OwnMove (LinkState.pop e)

/-- The buffer is OUTBOUND. -/
def State.outboundAt (s : State) (b : BufId) : Prop := ∃ l t n, (s.buffers.get b).holder = .lane l (.outbound t n)

/-- A fact that the moves of the lanes keep. -/
structure LaneInvariant (Q : State → Prop) : Prop where
  link : ∀ {s : State} (l : Link) {f : LinkState → LinkState}, OwnMove f → Q s → Q (s.onLink l f)
  holder : ∀ {s : State} {b : BufId} (h : Holder), ¬ s.outboundAt b → Q s → Q (s.setHolder b h)
  bytes : ∀ {s : State} {b : BufId} (m : Memory), ¬ s.outboundAt b → Q s → Q (s.setBytes b m)
  waits : ∀ {s : State} (w : List Link), Q s → Q { s with waitList := w }
  bus : ∀ {s : State} (f : Bus → Bus), Q s → Q (s.onBus f)

section
variable {Q : State → Prop} {s t : State} {l : Link} {b : BufId} {bs : List BufId}

theorem State.not_outboundAt_of_use {u : BufferUse} (h : s.useOf l b = some u) (hu : u.isOutbound = false) : ¬ s.outboundAt b := by
  rintro ⟨m, t, n, hm⟩
  rw [State.useOf_eq_some.mp h] at hm
  cases hm
  cases hu

theorem State.not_outboundAt_of_free (h : (s.buffers.get b).holder = .free) : ¬ s.outboundAt b := by
  rintro ⟨m, t, n, hm⟩
  rw [h] at hm
  cases hm

theorem State.outboundAt_congr (h : t.buffers.get b = s.buffers.get b) : t.outboundAt b ↔ s.outboundAt b := by
  rw [State.outboundAt, State.outboundAt, h]

namespace LaneInvariant

variable (hQ : LaneInvariant Q)
include hQ

theorem head (h : Q s) (l : Link) (f : Job → Job) : Q (s.onJob l f) := hQ.link l (.head fun _ => f) h

theorem timed (h : Q s) (l : Link) (f : Job → Job) : Q (s.onTimedJob l f) :=
  hQ.link l (.head fun x j => (f j).retime x.timeout) h

theorem withdrawWait (h : Q s) (l : Link) : Q (s.withdrawWait l) := hQ.waits _ h

theorem joinWait (h : Q s) (l : Link) : Q (s.joinWait l) := by
  unfold State.joinWait
  split
  next => exact h
  next => exact hQ.waits _ h

theorem grantCredit (h : Q s) (l : Link) : Q (s.grantCredit l) := by
  unfold State.grantCredit
  split
  next => exact h
  next j _ =>
    have hcounted := hQ.link l (.lane fun x => { x.lane with blocksCredited := x.lane.blocksCredited + 1 })
      (hQ.timed h l (fun j => { j with credits := j.credits + 1 }))
    have hoffered := hQ.link l (.credit j.tag 1) hcounted
    rw [State.onLink_onLink] at hoffered
    exact hoffered

theorem dropIdleWait (h : Q s) (l : Link) : Q (s.dropIdleWait l) := by
  unfold State.dropIdleWait
  split
  next => exact h
  next =>
    split
    next => exact hQ.withdrawWait h l
    next => exact h

/-! Buffers (R33, R34, R40, R44) -/

theorem assign (h : Q s) (hb : ¬ s.outboundAt b) (l : Link) : Q (s.assign l b) := by
  unfold State.assign
  split
  next => exact h
  next =>
    split
    next => exact hQ.holder _ hb h
    next => exact hQ.holder _ hb h
    next =>
      refine hQ.bytes _ ?_ (hQ.holder _ hb h)
      rintro ⟨m, t, n, hm⟩
      rw [State.setHolder_holder] at hm
      cases hm
    next => exact hQ.grantCredit (hQ.holder _ hb h) l

theorem giveBuffer (h : Q s) (hb : ¬ s.outboundAt b) (w : List Link) : Q (giveBuffer w b s) := by
  induction w generalizing s with
  | nil => exact hQ.waits [] h
  | cons m rest ih =>
    have hrest : Q { s with waitList := rest } := hQ.waits rest h
    unfold Machine.giveBuffer
    simp only
    split
    next =>
      split
      next => exact hQ.joinWait (hQ.assign hrest hb m) m
      next => exact hQ.assign hrest hb m
    next => exact ih hrest hb

theorem freeBuf (h : Q s) (hb : ¬ s.outboundAt b) : Q (s.freeBuf b) :=
  hQ.giveBuffer (hQ.holder .free hb h) (State.not_outboundAt_of_free (State.setHolder_holder s b .free)) _

theorem emptyWriteBuffer (h : Q s) (hb : ¬ s.outboundAt b) (l : Link) : Q (s.emptyWriteBuffer l b) := by
  unfold State.emptyWriteBuffer
  split
  next => exact hQ.freeBuf h hb
  next =>
    split
    next => exact hQ.dropIdleWait (hQ.grantCredit (hQ.holder _ hb h) l) l
    next => exact hQ.freeBuf h hb

theorem askBuffer (h : Q s) (l : Link) : Q (s.askBuffer l) := by
  unfold State.askBuffer
  split
  next b hb =>
    have hfree := List.find?_some (p := fun b => decide ((s.buffers.get b).holder = .free)) hb
    exact hQ.assign h (State.not_outboundAt_of_free (of_decide_eq_true hfree)) l
  next => exact hQ.joinWait h l

theorem freeBufs (h : Q s) (hbs : bs.Nodup) (hb : ∀ b ∈ bs, ¬ s.outboundAt b) : Q (s.freeBufs bs) := by
  induction bs generalizing s with
  | nil => exact h
  | cons b bs ih =>
    obtain ⟨hnot, hrest⟩ := List.nodup_cons.mp hbs
    refine ih (hQ.freeBuf h (hb b List.mem_cons_self)) hrest fun c hc => ?_
    have hne : c ≠ b := fun e => hnot (e ▸ hc)
    rw [State.outboundAt_congr (State.freeBuf_get_ne s hne)]
    exact hb c (List.mem_cons_of_mem _ hc)

theorem emptyAll (h : Q s) (hbs : bs.Nodup) (hb : ∀ b ∈ bs, ¬ s.outboundAt b) (l : Link) :
    Q (bs.foldl (fun t b => t.emptyWriteBuffer l b) s) := by
  induction bs generalizing s with
  | nil => exact h
  | cons b bs ih =>
    obtain ⟨hnot, hrest⟩ := List.nodup_cons.mp hbs
    refine ih (hQ.emptyWriteBuffer h (hb b List.mem_cons_self) l) hrest fun c hc => ?_
    have hne : c ≠ b := fun e => hnot (e ▸ hc)
    rw [State.outboundAt_congr (State.emptyWriteBuffer_get_ne s l hne)]
    exact hb c (List.mem_cons_of_mem _ hc)

/-! Jobs and segment errors (R18 to R20, R23) -/

theorem offer (h : Q s) (l : Link) (n : Notice) : Q (s.offer l n) := hQ.link l (.offer n) h

theorem offers (h : Q s) (l : Link) (ns : List Notice) : Q (s.offers l ns) := by
  induction ns generalizing s with
  | nil => exact h
  | cons n ns ih => exact ih (hQ.offer h l n)

theorem withdrawAll (h : Q s) (l : Link) : Q (s.withdrawAll l) := hQ.bus _ (hQ.withdrawWait h l)

theorem ended (h : Q s) (l : Link) (j : Job) (o : JobOutcome) : Q (s.ended l j o) := by
  have hpopped := hQ.link l (.offer (j.endedNotice o)) (hQ.link l (.pop (j.entry o)) (hQ.withdrawAll h l))
  rw [State.onLink_onLink] at hpopped
  by_cases hk : j.kind = .write
  · have hlane := hQ.link l (.lane fun _ => ⟨if s.bus.laneInFlight l then .stopping else .idle, 0, 0⟩)
      (hQ.link l (.uncredit j.tag) hpopped)
    rw [State.onLink_onLink, State.onLink_onLink] at hlane
    unfold State.ended LinkState.ending
    simpa only [hk, if_true] using hlane
  · have hlane := hQ.link l (.lane fun _ => ⟨if s.bus.laneInFlight l then .stopping else .idle, 0, 0⟩) hpopped
    rw [State.onLink_onLink] at hlane
    unfold State.ended LinkState.ending
    simpa only [hk, if_false] using hlane

theorem endJob (h : Q s) (l : Link) (o : JobOutcome) : Q (s.endJob l o) := by
  cases hj : s.activeJob l with
  | none =>
    rw [State.endJob, hj]
    exact h
  | some j =>
    rw [State.endJob_eq hj]
    refine hQ.freeBufs (hQ.ended h l j o) (State.allUses_nodup _ _ _) fun b hb => ?_
    obtain ⟨u, hu, hfreed⟩ := State.mem_allUses.mp hb
    exact State.not_outboundAt_of_use hu (BufferUse.freedAtEnd_iff.mp hfreed).1

theorem discardSkipped (h : Q s) (l : Link) (j : Job) : Q (s.discardSkipped l j) := by
  unfold State.discardSkipped
  split
  next => exact h
  next => exact h
  next =>
    unfold State.unloadCopy
    split
    next => exact h
    next b hb =>
      obtain ⟨u, hu, hp⟩ := State.useOf_of_findUse hb
      exact hQ.holder _ (State.not_outboundAt_of_use hu (BufferUse.loose_of_isLoaded hp).1) h
  next =>
    refine hQ.emptyAll h (State.allUses_nodup _ _ _) (fun b hb => ?_) l
    obtain ⟨u, hu, hp⟩ := State.mem_allUses.mp hb
    exact State.not_outboundAt_of_use hu (BufferUse.loose_of_isFilledWith hp).1

theorem segmentError (h : Q s) (l : Link) (i : ListId) (e : ErrorKind) : Q (s.segmentError l i e) := by
  unfold State.segmentError
  split
  next => exact h
  next =>
    split
    next => exact hQ.endJob (hQ.head h l _) l .failed
    next =>
      unfold State.abandonSegment
      simp only
      split
      next => exact hQ.endJob (hQ.offers (hQ.head h l _) l _) l _
      next => exact hQ.discardSkipped (hQ.offers (hQ.head h l _) l _) l _

/-! What a lane does on its own, and the lanes that go on (R11, R33, R37) -/

theorem startJob (h : Q s) (l : Link) : Q (s.startJob l) := by
  have hstarted := hQ.link l (.lane fun _ => ⟨.busy, 0, 0⟩) (hQ.link l (.head fun _ j => { j with state := .running }) h)
  rw [State.onLink_onLink] at hstarted
  exact hstarted

theorem startBlock (h : Q s) (l : Link) (j : Job) (i : ListId) (x : Binding) : Q (s.startBlock l j i x) := by
  unfold State.startBlock
  split
  next => exact hQ.segmentError h l i _
  next => exact hQ.bus _ h

theorem startTransfer (h : Q s) (l : Link) (j : Job) (i : ListId) : Q (s.startTransfer l j i) := by
  unfold State.startTransfer
  split
  next => exact hQ.startBlock h l j i _
  next =>
    split
    next => exact h
    next =>
      split
      next => exact hQ.segmentError h l i _
      next => exact hQ.startBlock (hQ.head h l _) l j i _

theorem laneStep (h : Q s) (ht : s.laneStep l = some t) : Q t := by
  rcases State.laneStep_cases ht with ⟨-, rfl⟩ | ⟨j, -, -, -, ⟨-, -, rfl⟩ | ⟨-, -, -, i, -, rfl⟩⟩
  · exact hQ.startJob h l
  · exact hQ.askBuffer h l
  · exact hQ.startTransfer h l j i

theorem settle (h : Q s) (k : Link) : Q (s.settle k) := by
  unfold State.settle
  generalize settleFuel = n
  induction n generalizing s with
  | zero => exact h
  | succ n ih =>
    unfold Machine.settleFrom
    split
    next t ht => exact ih (hQ.laneStep h ht)
    next =>
      split
      next t ht => exact ih (hQ.laneStep h ht)
      next => exact h

end LaneInvariant

end

end Sys2Proof.Machine
end

section
/-! PROOFS. The latch report at the condition logic and at the Job Scheduler, in each order (O52). -/

namespace Sys2Proof.Machine

section
variable {s t u v : State} {l m k : Link} {j : Job} {js : List Job} {x y : LinkState} {c : Condition} {n : Notice}

/-! What a raise leaves, and what it records (R143, R144) -/

theorem LinkState.raise_session (c : Condition) (x : LinkState) : (x.raise c).session = x.session := by
  obtain ⟨cs, es, k, h⟩ := LinkState.raise_changes c x
  rw [h]

theorem LinkState.raise_live (c : Condition) (x : LinkState) : (x.raise c).live = x.live := by
  obtain ⟨cs, es, k, h⟩ := LinkState.raise_changes c x
  rw [h]

theorem LinkState.raise_lane (c : Condition) (x : LinkState) : (x.raise c).lane = x.lane := by
  obtain ⟨cs, es, k, h⟩ := LinkState.raise_changes c x
  rw [h]

theorem LinkState.raise_dataTimeout (c : Condition) (x : LinkState) : (x.raise c).dataTimeout = x.dataTimeout := by
  obtain ⟨cs, es, k, h⟩ := LinkState.raise_changes c x
  rw [h]

theorem LinkState.announce_conditions (set : ConditionSet) (x : LinkState) : (x.announce set).conditions = x.conditions := by
  obtain ⟨es, k, h⟩ := LinkState.announce_changes set x
  rw [h]

theorem ConditionSet.or_set_of_mem {set : ConditionSet} (h : set.getLsbD c.bit = true) : set ||| c.set = set := by
  refine BitVec.eq_of_getLsbD_eq fun i hi => ?_
  rw [Condition.set, BitVec.getLsbD_or, BitVec.getLsbD_twoPow]
  by_cases hbit : c.bit = i
  · rw [← hbit, h, Bool.true_or]
  · simp [hbit]

/-- In OPEN the condition is set after a raise, whether or not it was before. -/
theorem LinkState.raise_conditions_of_open (h : x.session = .opened) (c : Condition) :
    (x.raise c).conditions = x.conditions ||| c.set := by
  cases hc : x.conditions.getLsbD c.bit with
  | true =>
    have hheard : ¬ (x.session = .opened ∧ x.conditions &&& c.set = 0) := fun hno => by
      rw [(ConditionSet.and_set_eq_zero_iff _ _).mp hno.2] at hc
      cases hc
    rw [LinkState.raise_of_unheard hheard, ConditionSet.or_set_of_mem hc]
  | false =>
    rw [LinkState.raise_of_clear h hc]
    split
    next => rfl
    next => exact LinkState.announce_conditions _ _

theorem LinkState.raise_notices_le (c : Condition) (x : LinkState) : (x.raise c).notices ≤ x.notices + 1 := by
  cases LinkState.raise_offered c x with
  | placed hr hc hi h hn ho => exact hn.le
  | dropped hr hc hi h hn ho => exact hn.le.trans (Nat.le_succ _)
  | kept hi h => exact h.notices.le.trans (Nat.le_succ _)

/-! Notices that stay in a queue -/

theorem mem_of_map_eq {es fs : List Entry} {e : Entry} (h : fs.map (fun f => decide (f = e)) = es.map (fun f => decide (f = e)))
    (he : e ∈ es) : e ∈ fs := by
  have hin : true ∈ es.map (fun f => decide (f = e)) := List.mem_map.mpr ⟨e, he, decide_eq_true rfl⟩
  rw [← h] at hin
  obtain ⟨f, hf, hfe⟩ := List.mem_map.mp hin
  exact of_decide_eq_true hfe ▸ hf

/-- Waiting entries replaced by others that hold the entry too. -/
theorem LinkState.mem_requeued {es : List Entry} {e : Entry} (h : e ∈ x.outbound) (hes : e ∈ x.waiting → e ∈ es) :
    e ∈ x.sending ++ es := by
  rw [← x.sending_append_waiting] at h
  exact List.mem_append.mpr ((List.mem_append.mp h).imp_right hes)

theorem LinkState.mem_offer {e : Entry} (h : e ∈ x.outbound) (n : Notice) : e ∈ (x.offer n).outbound := by
  unfold LinkState.offer
  split
  next => exact List.mem_append_left _ h
  next => exact h

theorem LinkState.mem_offer_self (h : x.notices < Config.noticePlaces) : Entry.notice n ∈ (x.offer n).outbound := by
  rw [LinkState.offer_of_place _ h]
  exact List.mem_append_right _ List.mem_cons_self

theorem LinkState.mem_announce {e : Entry} (he : ∀ d, e ≠ .notice (.condition d)) (h : e ∈ x.outbound) (set : ConditionSet) :
    e ∈ (x.announce set).outbound := by
  unfold LinkState.announce
  split
  next es hes =>
    exact LinkState.mem_requeued h (mem_of_map_eq (mergeCondition_map (fun a b => by simp [(he a).symm, (he b).symm]) hes))
  next => exact LinkState.mem_offer h _

theorem LinkState.mem_raise {e : Entry} (he : ∀ d, e ≠ .notice (.condition d)) (h : e ∈ x.outbound) (c : Condition) :
    e ∈ (x.raise c).outbound := by
  unfold LinkState.raise
  split
  next =>
    simp only
    split
    next => exact h
    next => exact LinkState.mem_announce (x := { x with conditions := x.conditions ||| c.set }) he h _
  next => exact h

theorem OwnMove.mem_notice {f : LinkState → LinkState} (hf : OwnMove f) (h : Entry.notice n ∈ x.outbound) :
    Entry.notice n ∈ (f x).outbound := by
  cases hf with
  | offer n' => exact LinkState.mem_offer h n'
  | credit tag i =>
    unfold LinkState.offerCredit
    split
    next es hes => exact LinkState.mem_requeued h (mem_of_map_eq (mergeCredit_map (fun _ _ _ => by simp) hes))
    next =>
      split
      next => exact List.mem_append_left _ h
      next => exact h
  | uncredit tag => exact LinkState.mem_requeued h fun hw => List.mem_filter.mpr ⟨hw, rfl⟩
  | lane f => exact h
  | head f =>
    change _ ∈ (x.onHead (f x)).outbound
    unfold LinkState.onHead
    split
    next => exact h
    next => exact h
  | pop e => exact h

/-- The lanes that go on remove no notice. -/
theorem LaneInvariant.notice_mem (m : Link) (n : Notice) : LaneInvariant (fun s => Entry.notice n ∈ (s.link m).outbound) where
  link {s} l f hf h := by
    by_cases hm : m = l
    · rw [hm] at h ⊢
      rw [State.onLink_link]
      exact hf.mem_notice h
    · rw [State.onLink_ne s hm]
      exact h
  holder {s b} v _ h := by rw [State.setHolder_link]; exact h
  bytes {s b} v _ h := by rw [State.setBytes_link]; exact h
  waits {s} w h := by rw [State.withWaitList_link]; exact h
  bus {s} f h := by rw [State.onBus_link]; exact h

/-! A latch opening at the active job of a link (R74) -/

/-- What a latch opening makes of the jobs of a link. -/
structure State.PausedByLatch (m : Link) (u v : State) : Prop where
  none : (u.link m).live = [] → (v.link m).live = []
  kept : ∀ j js, (u.link m).live = j :: js → j.state = .queued ∨ j.state = .cancelling → (v.link m).live = j :: js
  caused : ∀ j js, (u.link m).live = j :: js → j.state = .pausing ∨ j.state = .paused →
    (v.link m).live = { j with causeLatch := true } :: js
  pausing : ∀ j js, (u.link m).live = j :: js → j.state = .running → u.bus.laneInFlight m = true →
    (v.link m).live = { j with
      state := .pausing
      causeLatch := true
      dataTimer := if j.kind = .write ∧ 0 < j.credits then .running ((u.link m).dataTimeout.getD 1000) else .stopped } :: js
  paused : ∀ j js, (u.link m).live = j :: js → j.state = .running → u.bus.laneInFlight m = false → j.causeHost = false →
    (v.link m).live = { j with state := .paused, causeLatch := true, holdTimer := .stopped, dataTimer := .stopped } :: js ∧
      m ∉ v.waitList ∧ v.bus.request m = Option.none ∧
      ((u.link m).notices < Config.noticePlaces →
        .notice (.jobPaused j.tag false true j.nextBlock j.completed) ∈ (v.link m).outbound)

theorem State.PausedByLatch.before (h : u.PausedByLatch m v) (hl : u.link m = s.link m)
    (hf : u.bus.laneInFlight m = s.bus.laneInFlight m) : s.PausedByLatch m v where
  none := hl ▸ h.none
  kept := hl ▸ h.kept
  caused := hl ▸ h.caused
  pausing := hf ▸ hl ▸ h.pausing
  paused := hf ▸ hl ▸ h.paused

/-- What a latch opening at one link leaves of the rest. -/
structure State.PausedBeside (l : Link) (s t : State) : Prop where
  link : ∀ k, k ≠ l → t.link k = s.link k
  buffers : t.buffers = s.buffers
  wait : ∀ k, k ∉ s.waitList → k ∉ t.waitList
  request : ∀ k, k ≠ l → t.bus.request k = s.bus.request k

theorem State.PausedByLatch.after (h : s.PausedByLatch m t) (hm : m ≠ l) (hb : t.PausedBeside l v) : s.PausedByLatch m v where
  none := by rw [hb.link m hm]; exact h.none
  kept := by rw [hb.link m hm]; exact h.kept
  caused := by rw [hb.link m hm]; exact h.caused
  pausing := by rw [hb.link m hm]; exact h.pausing
  paused j js hx hs hf hh := by
    rw [hb.link m hm, hb.request m hm]
    obtain ⟨hlive, hwait, hrest⟩ := h.paused j js hx hs hf hh
    exact ⟨hlive, hb.wait m hwait, hrest⟩

/-- A link changed behind a wait withdrawn. -/
theorem State.PausedBeside.of_withdrawWait (s : State) (l : Link) (f : LinkState → LinkState) :
    s.PausedBeside l ((s.withdrawWait l).onLink l f) where
  link k hk := by rw [State.onLink_ne _ hk, State.withdrawWait_link]
  buffers := by rw [State.onLink_buffers]; rfl
  wait k hk := by
    rw [State.onLink_waitList]
    exact fun h => hk (List.mem_of_mem_filter h)
  request k _ := by rw [State.onLink_bus]; rfl

theorem State.PausedBeside.of_withdrawAll (s : State) (l : Link) (f : LinkState → LinkState) :
    s.PausedBeside l ((s.withdrawAll l).onLink l f) where
  link k hk := by rw [State.onLink_ne _ hk, State.withdrawAll_link]
  buffers := by rw [State.onLink_buffers]; rfl
  wait k hk := by
    rw [State.onLink_waitList]
    exact fun h => hk (List.mem_of_mem_filter h)
  request k hk := by
    rw [State.onLink_bus]
    exact (Bus.withdraw_request _ _ _).trans (Bus.setRequest_request_ne hk _ _)

theorem State.PausedBeside.of_onLink (s : State) (l : Link) (f : LinkState → LinkState) : s.PausedBeside l (s.onLink l f) where
  link k hk := State.onLink_ne s hk f
  buffers := State.onLink_buffers s l f
  wait k hk := by rw [State.onLink_waitList]; exact hk
  request k _ := by rw [State.onLink_bus]

theorem State.PausedBeside.refl (l : Link) (s : State) : s.PausedBeside l s := ⟨fun _ _ => rfl, rfl, fun _ => id, fun _ _ => rfl⟩

theorem State.latchPause_of_running (hx : (s.link l).live = j :: js) (hs : j.state = .running) :
    s.latchPause l = (s.onLink l (fun x => { x with live := { j with causeLatch := true } :: js })).pauseRunning l := by
  rw [← State.onJob_of_cons hx (fun j => { j with causeLatch := true }), State.latchPause,
    State.activeJob_head hx (by simp [hs])]
  simp only [hs]

theorem State.latchPause_of_caused (hx : (s.link l).live = j :: js) (hs : j.state = .pausing ∨ j.state = .paused) :
    s.latchPause l = s.onLink l (fun x => { x with live := { j with causeLatch := true } :: js }) := by
  have hj : j.state ≠ .queued := by rcases hs with h | h <;> rw [h] <;> simp
  rw [← State.onJob_of_cons hx (fun j => { j with causeLatch := true }), State.latchPause, State.activeJob_head hx hj]
  rcases hs with h | h <;> simp only [h]

theorem State.latchPause_of_kept (h : ∀ j, s.activeJob l = some j → j.state = .cancelling) : s.latchPause l = s := by
  rw [State.latchPause]
  split
  next => rfl
  next j hj => rw [h j hj]

/-- A RUNNING job in transfer becomes PAUSING. -/
theorem State.latchPause_of_flight (hx : (s.link l).live = j :: js) (hs : j.state = .running)
    (hf : s.bus.laneInFlight l = true) : s.latchPause l = (s.withdrawWait l).onLink l (fun x =>
      { x with live := ({ j with causeLatch := true, state := .pausing } : Job).retime x.timeout :: js }) := by
  have hflight : (s.onLink l (fun x => { x with live := { j with causeLatch := true } :: js })).bus.laneInFlight l = true := by
    rw [State.onLink_bus, hf]
  rw [State.latchPause_of_running hx hs, State.pauseRunning, if_pos hflight, State.onLink_withdrawWait]
  simp only [State.onTimedJob, State.onLink_onLink]
  exact State.onLink_congr rfl

/-- A RUNNING job at a block boundary becomes PAUSED. -/
theorem State.latchPause_of_boundary (hx : (s.link l).live = j :: js) (hs : j.state = .running)
    (hf : s.bus.laneInFlight l = false) : s.latchPause l = (s.withdrawAll l).onLink l (fun x =>
      ({ x with live := { j with
          state := .paused
          causeLatch := true
          holdTimer := if j.causeHost then holdStart (s.link l).holdLimit else .stopped
          dataTimer := .stopped } :: js }).offer (.jobPaused j.tag j.causeHost true j.nextBlock j.completed)) := by
  have hflight : ¬ (s.onLink l (fun x => { x with live := { j with causeLatch := true } :: js })).bus.laneInFlight l = true := by
    rw [State.onLink_bus, hf]
    exact Bool.false_ne_true
  have hlive : ((s.onLink l (fun x => { x with live := { j with causeLatch := true } :: js })).link l).live =
      { j with causeLatch := true } :: js := by rw [State.onLink_link]
  rw [State.latchPause_of_running hx hs, State.pauseRunning, if_neg hflight, State.enterPaused_of_cons hlive (by simp [hs]),
    State.onLink_withdrawAll, State.onLink_onLink, State.onLink_link]

theorem State.latchPause_beside (s : State) (l : Link) : s.PausedBeside l (s.latchPause l) := by
  by_cases hkept : ∀ j, s.activeJob l = some j → j.state = .cancelling
  · rw [State.latchPause_of_kept hkept]
    exact .refl l s
  · obtain ⟨j, hj, hc⟩ : ∃ j, s.activeJob l = some j ∧ j.state ≠ .cancelling := by
      simpa only [not_forall, exists_prop] using hkept
    obtain ⟨js, hx, hq⟩ := State.activeJob_eq_some.mp hj
    cases hs : j.state with
    | queued => exact absurd hs hq
    | cancelling => exact absurd hs hc
    | pausing =>
      rw [State.latchPause_of_caused hx (.inl hs)]
      exact .of_onLink s l _
    | paused =>
      rw [State.latchPause_of_caused hx (.inr hs)]
      exact .of_onLink s l _
    | running =>
      cases hf : s.bus.laneInFlight l with
      | true =>
        rw [State.latchPause_of_flight hx hs hf]
        exact .of_withdrawWait s l _
      | false =>
        rw [State.latchPause_of_boundary hx hs hf]
        exact .of_withdrawAll s l _

theorem State.latchPause_paused (s : State) (l : Link) : s.PausedByLatch l (s.latchPause l) where
  none hx := by
    rw [State.latchPause_of_kept fun j hj => by rw [State.activeJob_of_no_jobs hx] at hj; cases hj]
    exact hx
  kept j js hx hs := by
    rw [State.latchPause_of_kept fun k hk => ?_]
    · exact hx
    · obtain ⟨ks, hks, hq⟩ := State.activeJob_eq_some.mp hk
      obtain rfl : j = k := (List.cons.inj (hx.symm.trans hks)).1
      exact hs.resolve_left hq
  caused j js hx hs := by rw [State.latchPause_of_caused hx hs, State.onLink_link]
  pausing j js hx hs hf := by
    rw [State.latchPause_of_flight hx hs hf, State.onLink_link, State.withdrawWait_link, Job.retime_of_active (.inr rfl)]
    rfl
  paused j js hx hs hf hh := by
    rw [State.latchPause_of_boundary hx hs hf, State.onLink_link, State.withdrawAll_link, State.onLink_bus, State.onLink_waitList, hh]
    refine ⟨LinkState.offer_live _ _, ?_, ?_, fun hn => ?_⟩
    · simp [State.withdrawAll, State.withdrawWait, State.onBus]
    · exact (Bus.withdraw_request _ _ _).trans (Bus.setRequest_request _ _ _)
    · exact LinkState.mem_offer_self (x := { s.link l with live := _ }) hn

/-! The condition of the report at each link, ahead of the Job Scheduler's part or behind it (R142, R154) -/

/-- Whether the condition logic of a link takes the report first. -/
def raisedFirst (c : ConditionsFirst) : Link → Bool
  | .A => c.atA
  | .B => c.atB

/-- A condition raised at a link, or not. -/
def LinkState.raiseIf (b : Bool) (c : Condition) (x : LinkState) : LinkState := if b then x.raise c else x

theorem State.raiseAt_first (s : State) (c : Condition) (f : ConditionsFirst) (m : Link) :
    (s.raiseAt c f.atA f.atB).link m = (s.link m).raiseIf (raisedFirst f m) c := by
  rw [State.raiseAt_link]
  cases m <;> rfl

theorem State.raiseAt_second (s : State) (c : Condition) (f : ConditionsFirst) (m : Link) :
    (s.raiseAt c (!f.atA) (!f.atB)).link m = (s.link m).raiseIf (!raisedFirst f m) c := by
  rw [State.raiseAt_link]
  cases m <;> rfl

theorem LinkState.raiseIf_live (b : Bool) (c : Condition) (x : LinkState) : (x.raiseIf b c).live = x.live := by
  cases b
  · rfl
  · exact LinkState.raise_live c x

theorem LinkState.raiseIf_session (b : Bool) (c : Condition) (x : LinkState) : (x.raiseIf b c).session = x.session := by
  cases b
  · rfl
  · exact LinkState.raise_session c x

theorem LinkState.raiseIf_lane (b : Bool) (c : Condition) (x : LinkState) : (x.raiseIf b c).lane = x.lane := by
  cases b
  · rfl
  · exact LinkState.raise_lane c x

theorem LinkState.raiseIf_dataTimeout (b : Bool) (c : Condition) (x : LinkState) :
    (x.raiseIf b c).dataTimeout = x.dataTimeout := by
  cases b
  · rfl
  · exact LinkState.raise_dataTimeout c x

theorem LinkState.raiseIf_notices_le (b : Bool) (c : Condition) (x : LinkState) : (x.raiseIf b c).notices ≤ x.notices + 1 := by
  cases b
  · exact Nat.le_succ _
  · exact LinkState.raise_notices_le c x

theorem LinkState.mem_raiseIf {e : Entry} (he : ∀ d, e ≠ .notice (.condition d)) (h : e ∈ x.outbound) (b : Bool) (c : Condition) :
    e ∈ (x.raiseIf b c).outbound := by
  cases b
  · exact h
  · exact LinkState.mem_raise he h c

/-- Raised ahead of a change that leaves session and conditions, or behind it, the condition of an OPEN session is set. -/
theorem LinkState.raiseIf_conditions (b : Bool) (c : Condition) (hs : y.session = (x.raiseIf b c).session)
    (hc : y.conditions = (x.raiseIf b c).conditions) :
    (x.session = .opened → (y.raiseIf (!b) c).conditions = x.conditions ||| c.set) ∧
      (x.session ≠ .opened → (y.raiseIf (!b) c).conditions = x.conditions) := by
  cases b with
  | true =>
    refine ⟨fun h => hc.trans (LinkState.raise_conditions_of_open h c), fun h => ?_⟩
    exact hc.trans (congrArg LinkState.conditions (LinkState.raise_of_not_open h))
  | false =>
    have hy : y.session = x.session := hs
    have hyc : y.conditions = x.conditions := hc
    refine ⟨fun h => ?_, fun h => ?_⟩
    · exact (LinkState.raise_conditions_of_open (hy.trans h) c).trans (congrArg (· ||| c.set) hyc)
    · exact (congrArg LinkState.conditions (LinkState.raise_of_not_open (hy ▸ h))).trans hyc

/-! A latch closing at the active job of a link (R75) -/

/-- The link behind a latch closing. -/
def LinkState.latchResumed (x : LinkState) : LinkState :=
  match x.live with
  | [] => x
  | j :: js =>
    if j.state = .pausing ∨ j.state = .paused then
      if j.causeHost = true then { x with live := { j with causeLatch := false } :: js }
      else
        let y := { x with live := { j with
          state := .running
          causeLatch := false
          holdTimer := .stopped
          dataTimer := if j.kind = .write ∧ 0 < j.credits then .running (x.dataTimeout.getD 1000) else .stopped } :: js }
        if j.state = .paused then y.offer (.jobResumed j.tag j.nextBlock j.completed) else y
    else x

theorem LinkState.latchResumed_of_cons (hx : x.live = j :: js) : x.latchResumed =
    if j.state = .pausing ∨ j.state = .paused then
      if j.causeHost = true then { x with live := { j with causeLatch := false } :: js }
      else
        let y := { x with live := { j with
          state := .running
          causeLatch := false
          holdTimer := .stopped
          dataTimer := if j.kind = .write ∧ 0 < j.credits then .running (x.dataTimeout.getD 1000) else .stopped } :: js }
        if j.state = .paused then y.offer (.jobResumed j.tag j.nextBlock j.completed) else y
    else x := by
  rw [LinkState.latchResumed, hx]

theorem State.latchResume_eq (hx : (s.link l).live = j :: js) (hs : j.state = .pausing ∨ j.state = .paused) :
    s.latchResume l j = s.onLink l LinkState.latchResumed := by
  have hj : j.state ≠ .queued := by rcases hs with h | h <;> rw [h] <;> simp
  have hlive : ((s.onLink l (fun x => { x with live := { j with causeLatch := false } :: js })).link l).live =
      { j with causeLatch := false } :: js := by rw [State.onLink_link]
  rw [State.latchResume, State.onJob_of_cons hx]
  by_cases hh : j.causeHost = true
  · rw [if_pos hh]
    refine State.onLink_congr ?_
    rw [LinkState.latchResumed_of_cons hx, if_pos hs, if_pos hh]
  · rw [if_neg hh, State.resumeJob_of_cons hlive hj, State.onLink_onLink]
    refine State.onLink_congr ?_
    rw [LinkState.latchResumed_of_cons hx, if_pos hs, if_neg hh, Job.retime_of_active (.inl rfl)]
    rfl

theorem State.latchRelease_eq (s : State) (l : Link) : s.latchRelease l = s.onLink l LinkState.latchResumed := by
  cases hx : (s.link l).live with
  | nil =>
    rw [State.latchRelease, State.activeJob_of_no_jobs hx]
    exact (State.onLink_self (by rw [LinkState.latchResumed, hx])).symm
  | cons j js =>
    have hsame : ¬ (j.state = .pausing ∨ j.state = .paused) → s.onLink l LinkState.latchResumed = s := fun h =>
      State.onLink_self (by rw [LinkState.latchResumed_of_cons hx, if_neg h])
    by_cases hq : j.state = .queued
    · have hidle : s.activeJob l = none := by simp [State.activeJob, LinkState.activeJob, hx, hq]
      rw [State.latchRelease, hidle, hsame (by simp [hq])]
    · rw [State.latchRelease, State.activeJob_head hx hq]
      cases hs : j.state with
      | queued => exact absurd hs hq
      | running => simp only [hs]; exact (hsame (by simp [hs])).symm
      | cancelling => simp only [hs]; exact (hsame (by simp [hs])).symm
      | pausing => simp only [hs]; exact State.latchResume_eq hx (.inl hs)
      | paused => simp only [hs]; exact State.latchResume_eq hx (.inr hs)

end

section
variable {s c v : State} {l m first : Link} {j : Job} {js : List Job} {f : ConditionsFirst} {x : LinkState}

theorem State.raiseAt_latches (s : State) (e : Condition) (a b : Bool) : (s.raiseAt e a b).latch = s.latch ∧
    (s.raiseAt e a b).latchHold = s.latchHold ∧ (s.raiseAt e a b).latchDebounce = s.latchDebounce ∧
    (s.raiseAt e a b).waitList = s.waitList := by
  cases a <;> cases b <;> exact ⟨rfl, rfl, rfl, rfl⟩

/-! The state as the Job Scheduler takes the report, and behind it -/

/-- The accepted latch state has changed, and the condition logic that is first has taken the report. -/
def State.latchTaken (s : State) (a : LatchState) (f : ConditionsFirst) : State := (s.raiseAt a.condition f.atA f.atB).latched a

/-- The condition logic that is second takes the report, and idle transmitters begin. -/
def State.latchDone (v : State) (a : LatchState) (f : ConditionsFirst) : State := (v.raiseAt a.condition (!f.atA) (!f.atB)).kick

theorem exec_latchDebounceExpiry (h0 : s.inReset = false) (hd : s.latchDebounce ≠ .stopped) (f : ConditionsFirst) (first : Link) :
    exec (.latchDebounceExpiry f first) s = .next (((s.latchTaken (latchOf s.latchPin) f).latchServe (latchOf s.latchPin)
      first).latchDone (latchOf s.latchPin) f) := by
  change Host.Outcome.next (event s _) = _
  rw [event_of_running h0, if_neg hd, State.latchAccepted_eq]
  rfl

theorem State.latchTaken_link (s : State) (a : LatchState) (f : ConditionsFirst) (m : Link) :
    (s.latchTaken a f).link m = (s.link m).raiseIf (raisedFirst f m) a.condition := by
  rw [← State.raiseAt_first]
  cases m <;> rfl

theorem State.latchDone_link (v : State) (a : LatchState) (f : ConditionsFirst) (m : Link) :
    (v.latchDone a f).link m = ((v.link m).raiseIf (!raisedFirst f m) a.condition).kick := by
  rw [State.latchDone, State.kick_link, State.raiseAt_second]

theorem State.latchDone_live (v : State) (a : LatchState) (f : ConditionsFirst) (m : Link) :
    ((v.latchDone a f).link m).live = (v.link m).live := by
  rw [State.latchDone_link]
  exact LinkState.raiseIf_live _ _ _

theorem State.latchDone_mem {n : Notice} (hn : ∀ d, n ≠ .condition d) (a : LatchState) (f : ConditionsFirst)
    (h : Entry.notice n ∈ (v.link m).outbound) : Entry.notice n ∈ ((v.latchDone a f).link m).outbound := by
  rw [State.latchDone_link]
  exact LinkState.mem_raiseIf (fun d hd => hn d (Entry.notice.inj hd)) h _ _

/-- What the Job Scheduler's part leaves of a latch report. -/
structure State.LatchReported (a : LatchState) (s t : State) : Prop where
  latch : t.latch = a
  latchHold : t.latchHold = (a == .opened)
  latchDebounce : t.latchDebounce = .stopped
  slots : t.slots = s.slots
  windows : t.windows = s.windows
  session : ∀ m, (t.link m).session = (s.link m).session
  opened : ∀ m, (s.link m).session = .opened → (t.link m).conditions = (s.link m).conditions ||| a.condition.set
  unheard : ∀ m, (s.link m).session ≠ .opened → (t.link m).conditions = (s.link m).conditions

theorem State.latchReported (s : State) (a : LatchState) (f : ConditionsFirst)
    (h : LaneFrame (s.latchTaken a f) v) : s.LatchReported a (v.latchDone a f) := by
  obtain ⟨hslots, -, hwindows, -⟩ := State.raiseAt_rest s a.condition f.atA f.atB
  obtain ⟨hslots', -, hwindows', -⟩ := State.raiseAt_rest v a.condition (!f.atA) (!f.atB)
  obtain ⟨hlatch, hhold, hdebounce, -⟩ := State.raiseAt_latches v a.condition (!f.atA) (!f.atB)
  have hconditions : ∀ m, ((s.link m).session = .opened → ((v.latchDone a f).link m).conditions =
      (s.link m).conditions ||| a.condition.set) ∧
      ((s.link m).session ≠ .opened → ((v.latchDone a f).link m).conditions = (s.link m).conditions) := fun m => by
    rw [State.latchDone_link]
    refine LinkState.raiseIf_conditions (raisedFirst f m) a.condition ?_ ?_
    · rw [(h.link m).session, State.latchTaken_link]
    · rw [(h.link m).conditions, State.latchTaken_link]
  exact {
    latch := hlatch.trans h.latch
    latchHold := hhold.trans h.latchHold
    latchDebounce := hdebounce.trans h.latchDebounce
    slots := (hslots'.trans h.slots).trans hslots
    windows := (hwindows'.trans h.windows).trans hwindows
    session := fun m => by
      have hsession : ((v.latchDone a f).link m).session = (v.link m).session := by
        rw [State.latchDone_link]
        exact LinkState.raiseIf_session _ _ _
      rw [hsession, (h.link m).session, State.latchTaken_link, LinkState.raiseIf_session]
    opened := fun m => (hconditions m).1
    unheard := fun m => (hconditions m).2 }

/-- Both links' jobs behind a latch opening. -/
theorem State.latchServe_opened (c : State) (first m : Link) : c.PausedByLatch m (c.latchServe .opened first) := by
  have hA := State.latchPause_paused c .A
  have hB := State.latchPause_paused (c.latchPause .A) .B
  have hbeside := State.latchPause_beside c .A
  cases m with
  | A => exact hA.after (by decide) (State.latchPause_beside _ .B)
  | B =>
    exact hB.before (hbeside.link .B (by decide)) (Bus.laneInFlight_congr (LaneRuns.latchPause c .A).frame.flight .B)

/-! The lanes behind a latch closing -/

theorem State.latchServe_closed (c : State) (first : Link) : c.latchServe .closed first =
    ((c.onLink .A LinkState.latchResumed).onLink .B LinkState.latchResumed).settle first := by
  rw [State.latchServe]
  simp only [State.latchRelease_eq]
  cases first <;> rfl

/-- A BUSY lane whose job is not RUNNING, or is a READ in transfer, is passive. -/
theorem State.Passive.of_busy (hx : (s.link l).live = j :: js) (hb : (s.link l).lane.state = .busy) (hq : j.state ≠ .queued)
    (h : j.state ≠ .running ∨ (j.kind = .read ∧ s.bus.laneInFlight l = true ∧ ∃ b tag n, s.useOf l b = some (.inTransfer tag n))) :
    s.Passive l := by
  have hj := State.activeJob_head hx hq
  refine ⟨?_, ?_, fun k hk hr => ?_⟩
  · simp [State.startCheck, hb]
  · rw [State.wantsBuffer, hj]
    rcases h with hs | ⟨hk, -, b, tag, n, hu⟩
    · simp [hs]
    · have hfound : s.findUse l (fun u => u.isStaged || u.isInTransfer) ≠ none := fun hno => by
        have hfalse := State.findUse_eq_none.mp hno b _ hu
        cases hfalse
      have hneeds : s.jobNeedsBuffer l j = false := by
        simp only [State.jobNeedsBuffer, hk, Option.isNone_eq_false_iff.mpr (Option.isSome_iff_ne_none.mpr hfound), Bool.and_false]
      simp [hneeds]
  · obtain rfl : j = k := Option.some.inj (hj.symm.trans hk)
    rcases h with hs | ⟨-, hf, -⟩
    · exact absurd hr hs
    · exact hf

end

/-- Settles O52: a latch opening and a latch closing, in each order that R154 leaves open. -/
theorem latchReportsReachTheJobs : Obligations.LatchReportsReachTheJobs := by
  intro f first s h0 hd
  have hexec := exec_latchDebounceExpiry h0 hd f first
  refine ⟨fun hpin => ?opening, fun hpin resumed hresumed raised hraised closed hclosed => ?exact, fun hpin => ?closing⟩
  case opening =>
    rw [hpin] at hexec
    obtain ⟨c, hc⟩ : ∃ c, c = s.latchTaken .opened f := ⟨_, rfl⟩
    obtain ⟨v, hv⟩ : ∃ v, v = c.latchServe .opened first := ⟨_, rfl⟩
    obtain ⟨-, hbuffers, -, hbus⟩ := State.raiseAt_rest s .latchOpen f.atA f.atB
    obtain ⟨-, hbuffers', -, hbus'⟩ := State.raiseAt_rest v .latchOpen (!f.atA) (!f.atB)
    obtain ⟨-, -, -, hwait'⟩ := State.raiseAt_latches v .latchOpen (!f.atA) (!f.atB)
    have hbusc : c.bus = s.bus := by rw [hc]; exact hbus
    have hreport : s.LatchReported .opened (v.latchDone .opened f) :=
      State.latchReported s .opened f (by rw [hv, hc]; exact (LaneRuns.latchServe _ _ _).frame)
    have hpool : v.buffers = c.buffers := by
      rw [hv]
      exact (State.latchPause_beside _ .B).buffers.trans (State.latchPause_beside c .A).buffers
    refine ⟨v.latchDone .opened f, by rw [hexec, hv, hc]; rfl, hreport.latch, hreport.latchHold, hreport.latchDebounce,
      hreport.slots, hreport.windows, ?_, fun m => ⟨hreport.session m, hreport.opened m, hreport.unheard m, ?_⟩⟩
    · exact (hbuffers'.trans hpool).trans (by rw [hc]; exact hbuffers)
    · have hlink : c.link m = (s.link m).raiseIf (raisedFirst f m) .latchOpen := by rw [hc]; exact State.latchTaken_link _ _ _ m
      have hlive : (c.link m).live = (s.link m).live := by rw [hlink, LinkState.raiseIf_live]
      have htimeout : (c.link m).dataTimeout = (s.link m).dataTimeout := by rw [hlink, LinkState.raiseIf_dataTimeout]
      have hpaused : c.PausedByLatch m v := by rw [hv]; exact State.latchServe_opened c first m
      rw [State.latchDone_live, ← hlive, ← htimeout, ← hbusc]
      refine ⟨hpaused.none, fun j js hx => ⟨hpaused.kept j js hx, hpaused.caused j js hx, hpaused.pausing j js hx,
        fun hs hf hh => ?_⟩⟩
      obtain ⟨hjobs, hwait, hrequest, hnotice⟩ := hpaused.paused j js hx hs hf hh
      refine ⟨hjobs, ?_, ?_, fun hn => State.latchDone_mem (by simp) _ f (hnotice ?_)⟩
      · change m ∉ (v.raiseAt .latchOpen (!f.atA) (!f.atB)).waitList
        rw [hwait']
        exact hwait
      · change (v.raiseAt .latchOpen (!f.atA) (!f.atB)).bus.request m = none
        rw [hbus']
        exact hrequest
      · have hle := LinkState.raiseIf_notices_le (raisedFirst f m) .latchOpen (s.link m)
        rw [← hlink] at hle
        change _ < 12
        omega
  case exact =>
    rw [hpin] at hexec
    have hraise : ∀ (a b : Bool) (u : State), raised a b u = u.raiseAt .latchClosed a b := fun a b u => by
      rw [hraised]
      cases a <;> cases b <;> rfl
    have htaken : closed = s.latchTaken .closed f := by
      rw [hclosed, hraise, State.latchTaken]
      generalize f.atA = a
      generalize f.atB = b
      cases a <;> cases b <;> rfl
    have hresume : resumed = LinkState.latchResumed := hresumed
    rw [hexec, hraise, htaken, hresume]
    exact congrArg (fun v => Host.Outcome.next (State.latchDone v .closed f)) (State.latchServe_closed _ first)
  case closing =>
    rw [hpin] at hexec
    obtain ⟨c, hc⟩ : ∃ c, c = s.latchTaken .closed f := ⟨_, rfl⟩
    obtain ⟨w, hw⟩ : ∃ w, w = (c.onLink .A LinkState.latchResumed).onLink .B LinkState.latchResumed := ⟨_, rfl⟩
    obtain ⟨-, hbuffers, -, hbus⟩ := State.raiseAt_rest s .latchClosed f.atA f.atB
    have hserve : c.latchServe .closed first = w.settle first := by rw [hw]; exact State.latchServe_closed c first
    have hreport : s.LatchReported .closed ((w.settle first).latchDone .closed f) :=
      State.latchReported s .closed f (by rw [← hserve, hc]; exact (LaneRuns.latchServe _ _ _).frame)
    refine ⟨(w.settle first).latchDone .closed f, by rw [hexec, ← hserve, hc]; rfl, hreport.latch, hreport.latchHold,
      hreport.latchDebounce, hreport.slots, hreport.windows, fun m => ⟨hreport.session m, hreport.opened m, hreport.unheard m,
      fun j js hx hb => ?_⟩⟩
    have hlink : c.link m = (s.link m).raiseIf (raisedFirst f m) .latchClosed := by rw [hc]; exact State.latchTaken_link _ _ _ m
    have hlive : (c.link m).live = j :: js := by rw [hlink, LinkState.raiseIf_live, hx]
    have hlane : (c.link m).lane.state = .busy := by rw [hlink, LinkState.raiseIf_lane, hb]
    have hresumed : w.link m = (c.link m).latchResumed := by rw [hw]; cases m <;> rfl
    have hpassive : w.Passive m → (((w.settle first).latchDone .closed f).link m).live = (w.link m).live := fun h => by
      rw [State.latchDone_live, (h.settle first).link]
    refine ⟨fun hs => ?_, fun hs hh => ?_, fun hs hh hk hf hu => ?_, fun hs hh hn => ?_⟩
    · have hkept : w.link m = c.link m := by
        rw [hresumed, LinkState.latchResumed_of_cons hlive, if_neg (by simp [hs])]
      rw [hpassive (.of_busy (hkept ▸ hlive) (hkept ▸ hlane) (by simp [hs]) (.inl (by simp [hs]))), hkept, hlive]
    · have hheld : w.link m = { c.link m with live := { j with causeLatch := false } :: js } := by
        rw [hresumed, LinkState.latchResumed_of_cons hlive, if_pos hs, if_pos hh]
      have hj : ({ j with causeLatch := false } : Job).state ≠ .queued ∧ ({ j with causeLatch := false } : Job).state ≠ .running := by
        rcases hs with h | h <;> simp [h]
      have hwlive : (w.link m).live = { j with causeLatch := false } :: js := by rw [hheld]
      rw [hpassive (.of_busy hwlive (by rw [hheld]; exact hlane) hj.1 (.inl hj.2)), hwlive]
    · have hrunning : w.link m = { c.link m with live := { j with
          state := .running
          causeLatch := false
          holdTimer := .stopped
          dataTimer := .stopped } :: js } := by
        rw [hresumed, LinkState.latchResumed_of_cons hlive, if_pos (.inl hs), if_neg (by simp [hh])]
        simp [hs, hk]
      have hwlive := congrArg LinkState.live hrunning
      have hwbuffers : w.buffers = s.buffers := by
        rw [hw, State.onLink_buffers, State.onLink_buffers, hc]
        exact hbuffers
      have hwbus : w.bus = s.bus := by
        rw [hw, State.onLink_bus, State.onLink_bus, hc]
        exact hbus
      obtain ⟨b, tag, n, hb⟩ := hu
      refine (hpassive (.of_busy hwlive (by rw [hrunning]; exact hlane) (by simp)
        (.inr ⟨hk, by rw [hwbus]; exact hf, b, tag, n, ?_⟩))).trans hwlive
      rw [State.useOf_link_congr hwbuffers]
      exact hb
    · have hresume : w.link m = LinkState.offer (.jobResumed j.tag j.nextBlock j.completed) { c.link m with live := { j with
          state := .running
          causeLatch := false
          holdTimer := .stopped
          dataTimer := if j.kind = .write ∧ 0 < j.credits then .running ((c.link m).dataTimeout.getD 1000)
            else .stopped } :: js } := by
        rw [hresumed, LinkState.latchResumed_of_cons hlive, if_pos (.inr hs), if_neg (by simp [hh])]
        exact if_pos hs
      have hle := LinkState.raiseIf_notices_le (raisedFirst f m) .latchClosed (s.link m)
      rw [← hlink] at hle
      have hplace : (c.link m).notices < Config.noticePlaces := by
        change _ < 12
        omega
      refine State.latchDone_mem (by simp) _ f ((LaneInvariant.notice_mem m _).settle ?_ first)
      rw [hresume]
      exact LinkState.mem_offer_self (x := { c.link m with live := _ }) hplace

end Sys2Proof.Machine
end

section
/-! PROOFS. The last word of a READ block: its DATA entry stays where it joined the queue, and its buffer OUTBOUND, as the
lanes go on (O58). -/

namespace Sys2Proof.Machine

section
variable {s t u v : State} {l m : Link} {j : Job} {js : List Job} {x y : LinkState} {b c : BufId} {n : Notice} {ahead : List Entry}

/-! A queue whose front stays (R41, R151) -/

/-- Neither a reply nor a DATA entry. -/
def Entry.isAside (e : Entry) : Bool := !e.isReply && !e.isData

/-- The queue begins with the entries given, of which no CREDIT waits, and behind them stand notices and CREDITs alone. -/
structure LinkState.Follows (ahead : List Entry) (transmitting : Bool) (x : LinkState) : Prop where
  started : ahead ≠ []
  transmits : x.transmitting = transmitting
  settled : ∀ e ∈ ahead.drop (if transmitting then 1 else 0), e.isCredit = false
  behind : ∃ es, x.outbound = ahead ++ es ∧ ∀ e ∈ es, e.isAside = true

theorem LinkState.Follows.queue {tr : Bool} (h : x.Follows ahead tr) {es : List Entry} (hx : x.outbound = ahead ++ es) :
    x.sending = ahead.take (if tr then 1 else 0) ∧ x.waiting = ahead.drop (if tr then 1 else 0) ++ es := by
  rw [LinkState.sending, LinkState.waiting, h.transmits, hx]
  cases ahead with
  | nil => exact absurd rfl h.started
  | cons a as => cases tr <;> simp

theorem LinkState.Follows.of_same {tr : Bool} (h : x.Follows ahead tr) (ho : y.outbound = x.outbound)
    (ht : y.transmitting = x.transmitting) : y.Follows ahead tr :=
  ⟨h.started, ht.trans h.transmits, h.settled, by rw [ho]; exact h.behind⟩

/-- An entry that is neither a reply nor DATA joins the queue. -/
theorem LinkState.Follows.push {tr : Bool} (h : x.Follows ahead tr) {e : Entry} (he : e.isAside = true) :
    (x.push e).Follows ahead tr := by
  obtain ⟨es, hx, hes⟩ := h.behind
  refine ⟨h.started, h.transmits, h.settled, es ++ [e], ?_, fun f hf => ?_⟩
  · rw [LinkState.push, hx, List.append_assoc]
  · rcases List.mem_append.mp hf with hf | hf
    · exact hes f hf
    · rw [List.mem_singleton.mp hf]
      exact he

theorem LinkState.Follows.offer {tr : Bool} (h : x.Follows ahead tr) (n : Notice) : (x.offer n).Follows ahead tr := by
  unfold LinkState.offer
  split
  next => exact h.push rfl
  next => exact h.of_same rfl rfl

theorem mergeCredit_append {tag n : Nat} {as : List Entry} (h : ∀ e ∈ as, e.isCredit = false) (es : List Entry) :
    mergeCredit tag n (as ++ es) = (mergeCredit tag n es).map (as ++ ·) := by
  induction as with
  | nil => simp
  | cons a as ih =>
    have ih := ih fun e he => h e (List.mem_cons_of_mem _ he)
    have ha := h a List.mem_cons_self
    cases a with
    | credit t k => cases ha
    | reply code r items => simp [mergeCredit, ih, Option.map_map, Function.comp_def]
    | hello cause latch presence => simp [mergeCredit, ih, Option.map_map, Function.comp_def]
    | notice k => simp [mergeCredit, ih, Option.map_map, Function.comp_def]
    | data t k size buf => simp [mergeCredit, ih, Option.map_map, Function.comp_def]

theorem LinkState.Follows.requeue {tr : Bool} (h : x.Follows ahead tr) {es : List Entry} (hes : ∀ e ∈ es, e.isAside = true)
    {ws : List Entry} (hw : ws = ahead.drop (if tr then 1 else 0) ++ es) :
    ({ x with outbound := x.sending ++ ws } : LinkState).Follows ahead tr := by
  obtain ⟨fs, hx, -⟩ := h.behind
  refine ⟨h.started, h.transmits, h.settled, es, ?_, hes⟩
  change x.sending ++ ws = _
  rw [hw, (h.queue hx).1, ← List.append_assoc, List.take_append_drop]

theorem LinkState.Follows.offerCredit {tr : Bool} (h : x.Follows ahead tr) (tag n : Nat) :
    (x.offerCredit tag n).Follows ahead tr := by
  obtain ⟨es, hx, hes⟩ := h.behind
  unfold LinkState.offerCredit
  split
  next ws hws =>
    rw [(h.queue hx).2, mergeCredit_append h.settled] at hws
    obtain ⟨fs, hfs, hw⟩ := Option.map_eq_some_iff.mp hws
    refine h.requeue (es := fs) (fun e he => ?_) hw.symm
    have hmap := mergeCredit_map (f := Entry.isAside) (fun _ _ _ => rfl) hfs
    obtain ⟨g, hg, hge⟩ := List.mem_map.mp (hmap ▸ List.mem_map_of_mem (f := Entry.isAside) he)
    rw [← hge, hes g hg]
  next =>
    split
    next => exact h.push rfl
    next => exact h.of_same rfl rfl

theorem LinkState.Follows.removeCredit {tr : Bool} (h : x.Follows ahead tr) (tag : Nat) :
    (x.removeCredit tag).Follows ahead tr := by
  obtain ⟨es, hx, hes⟩ := h.behind
  unfold LinkState.removeCredit
  rw [(h.queue hx).2, List.filter_append]
  refine h.requeue (fun e he => hes e (List.mem_of_mem_filter he)) (congrArg (· ++ _) (List.filter_eq_self.mpr fun e he => ?_))
  have hno := h.settled e he
  cases e with
  | credit t k => cases hno
  | reply code r items => rfl
  | hello cause latch presence => rfl
  | notice k => rfl
  | data t k size buf => rfl

theorem OwnMove.follows {tr : Bool} {f : LinkState → LinkState} (hf : OwnMove f) (h : x.Follows ahead tr) :
    (f x).Follows ahead tr := by
  cases hf with
  | offer n => exact h.offer n
  | credit tag n => exact h.offerCredit tag n
  | uncredit tag => exact h.removeCredit tag
  | lane f => exact h.of_same rfl rfl
  | head f =>
    change (x.onHead (f x)).Follows ahead tr
    unfold LinkState.onHead
    split
    next => exact h
    next => exact h.of_same rfl rfl
  | pop e => exact h.of_same rfl rfl

/-! An OUTBOUND buffer that stays (R38, R39) -/

/-- The queue of the link begins with the entries given, and the buffer stands as given, OUTBOUND. -/
structure State.Queued (l : Link) (ahead : List Entry) (transmitting : Bool) (b : BufId) (r : Buffer) (s : State) : Prop where
  follows : (s.link l).Follows ahead transmitting
  buffer : s.buffers.get b = r
  outbound : ∃ t k, r.holder = .lane l (.outbound t k)

theorem State.Queued.ne_of_not_outbound {tr : Bool} {r : Buffer} (h : s.Queued l ahead tr b r) (hc : ¬ s.outboundAt c) : b ≠ c := by
  rintro rfl
  obtain ⟨t, k, hr⟩ := h.outbound
  exact hc ⟨l, t, k, by rw [h.buffer]; exact hr⟩

theorem LaneInvariant.queued (l : Link) (ahead : List Entry) (tr : Bool) (b : BufId) (r : Buffer) :
    LaneInvariant (State.Queued l ahead tr b r) where
  link {s} m f hf h := by
    refine ⟨?_, by rw [State.onLink_buffers]; exact h.buffer, h.outbound⟩
    by_cases hm : l = m
    · rw [← hm, State.onLink_link]
      exact hf.follows h.follows
    · rw [State.onLink_ne s hm]
      exact h.follows
  holder {s c} v hc h := ⟨by rw [State.setHolder_link]; exact h.follows,
    by rw [State.setHolder_ne s (h.ne_of_not_outbound hc)]; exact h.buffer, h.outbound⟩
  bytes {s c} v hc h := ⟨by rw [State.setBytes_link]; exact h.follows,
    by rw [State.setBytes_ne s (h.ne_of_not_outbound hc)]; exact h.buffer, h.outbound⟩
  waits {s} w h := ⟨by rw [State.withWaitList_link]; exact h.follows, h.buffer, h.outbound⟩
  bus {s} f h := ⟨by rw [State.onBus_link]; exact h.follows, h.buffer, h.outbound⟩

/-! The report of a READ block (R38) -/

theorem LaneInvariant.enterPaused {Q : State → Prop} (hQ : LaneInvariant Q) (h : Q s) (l : Link) : Q (s.enterPaused l) := by
  unfold State.enterPaused
  split
  next => exact h
  next => exact hQ.offer (hQ.timed (hQ.withdrawAll h l) l _) l _

theorem LaneInvariant.settlePausing {Q : State → Prop} (hQ : LaneInvariant Q) (h : Q s) (l : Link) : Q (s.settlePausing l) := by
  unfold State.settlePausing
  split
  next => exact h
  next =>
    split
    next => exact hQ.enterPaused h l
    next => exact h

theorem LaneInvariant.completed {Q : State → Prop} (hQ : LaneInvariant Q) (h : Q s) (l : Link) (j : Job) :
    Q ((s.completeBlock l j).endIfPast l id) := by
  have hcompleted : Q (s.completeBlock l j) := hQ.offers (hQ.head h l _) l _
  unfold State.endIfPast
  split
  next => exact hcompleted
  next =>
    split
    next => exact hQ.endJob hcompleted l _
    next => exact hcompleted

/-- No CREDIT waits at a link whose head job is no WRITE (R41). -/
theorem LinkState.no_waiting_credit_of_read (hx : x.live = j :: js) (hk : j.kind = .read) (h : x.creditPlaceLaw = true) :
    ∀ e ∈ x.waiting, e.isCredit = false := by
  intro e he
  simp only [LinkState.creditPlaceLaw, Bool.and_eq_true, List.all_eq_true] at h
  obtain ⟨⟨-, howns⟩, -⟩ := h
  have hown := howns e he
  cases e with
  | credit t k => simp [LinkState.ownsCredit, hx, Job.writes, hk] at hown
  | reply code r items => rfl
  | hello cause latch presence => rfl
  | notice k => rfl
  | data t k size buf => rfl

/-- What lanes keep by their own moves holds behind the report of a READ block if it holds once its entry has joined. -/
theorem LaneInvariant.takeReport_of_read {Q : State → Prop} (hQ : LaneInvariant Q) (hx : (s.link l).live = j :: js)
    (hs : j.state = .running ∨ j.state = .pausing) (hb : (s.link l).lane.state = .busy) (hk : j.kind = .read)
    (hf : s.findUse l BufferUse.isInTransfer = some b) (dir : Direction)
    (h : Q ((s.setHolder b (.lane l (.outbound j.tag j.nextBlock))).onLink l (fun x =>
      { x with outbound := x.outbound ++ [.data j.tag j.nextBlock j.blockSize b] }))) : Q (s.takeReport l dir .success) := by
  have happly : s.applyReport l j dir .success = ((s.queueData l j).completeBlock l j).endIfPast l id := by
    simp only [State.applyReport, hk]
  rw [State.takeReport_of_busy hx hs hb, happly, State.queueData_of_transfer hf]
  exact hQ.settlePausing (hQ.completed h l j) l

end

/-- Settles O58: the last word of a READ block, whose DATA entry joins the queue. -/
theorem readBlocksJoinTheQueue : Obligations.ReadBlocksJoinTheQueue := by
  intro l j js x b md mdp mperr s h0 hx hbusy hk hs _ hf hr hdir hphase hword hparity hwidth hbuffer htransfer hcredit
  obtain ⟨hresponse, -⟩ := transferEndsAreHandedOn l x s h0 hf hr _ rfl _ rfl
  obtain ⟨bytes, hbytes⟩ : ∃ bytes, bytes = if x.dataWidth = 16 then
      ((s.buffers.get b).bytes.write (2 * x.wordIndex) ((md >>> 8).setWidth 8)).write (2 * x.wordIndex + 1) (md.setWidth 8)
    else (s.buffers.get b).bytes.write x.wordIndex (md.setWidth 8) := ⟨_, rfl⟩
  have hstored : (x.dataWidth = 16 ∧ bytes = ((s.buffers.get b).bytes.write (2 * x.wordIndex)
        ((md >>> 8).setWidth 8)).write (2 * x.wordIndex + 1) (md.setWidth 8)) ∨
      (x.dataWidth = 8 ∧ bytes = (s.buffers.get b).bytes.write x.wordIndex (md.setWidth 8)) := by
    rcases hwidth with h | h
    · exact .inr ⟨h, hbytes.trans (if_neg (by rw [h]; decide))⟩
    · exact .inl ⟨h, hbytes.trans (if_pos h)⟩
  obtain ⟨-, hacknowledged⟩ := hresponse ⟨.ack, false⟩ md mdp mperr hphase rfl _ rfl
  obtain ⟨-, hlast⟩ := hacknowledged rfl
  obtain ⟨-, hread⟩ := hlast hword.ge
  have hexec := hread b hdir hparity hbuffer bytes hstored
  generalize hp : State.onBus (State.onSlot _ x.slot _) (fun bus => { bus with state := .free }) = p at hexec
  have hlink : p.link l = s.link l := by rw [← hp]; cases l <;> rfl
  have hstate : p.bus.state = .free := by rw [← hp]; rfl
  have hwindows : p.windows = s.windows := by rw [← hp]; rfl
  have hlatch : p.latch = s.latch := by rw [← hp]; rfl
  have hslot : p.slot x.slot = if (s.slot x.slot).state = .draining then { (s.slot x.slot).enter .present with noResponse := 0 }
      else { s.slot x.slot with noResponse := 0 } := by
    rw [← hp, State.onBus_slot, State.onSlot_slot]
    rfl
  have hpool : p.buffers = (s.setBytes b bytes).buffers := by rw [← hp]; rfl
  have huse : ∀ c, p.useOf l c = s.useOf l c := fun c =>
    (State.useOf_link_congr hpool l c).trans ((State.Aside.setBytes s b bytes).use c)
  have hfound : p.findUse l BufferUse.isInTransfer = some b := by
    rw [← htransfer]
    simp only [State.findUse, huse]
  have hpbytes : (p.buffers.get b).bytes = bytes := by rw [hpool, State.setBytes_bytes]
  have hqueued : State.Queued l ((s.link l).outbound ++ [.data j.tag j.nextBlock j.blockSize b]) (s.link l).transmitting b
      ⟨.lane l (.outbound j.tag j.nextBlock), bytes⟩ ((p.setHolder b (.lane l (.outbound j.tag j.nextBlock))).onLink l (fun y =>
        { y with outbound := y.outbound ++ [.data j.tag j.nextBlock j.blockSize b] })) := by
    refine ⟨⟨by simp, ?_, fun e he => ?_, [], ?_, by simp⟩, ?_, j.tag, j.nextBlock, rfl⟩
    · rw [State.onLink_link, State.setHolder_link, hlink]
    · have hnone := LinkState.no_waiting_credit_of_read hx hk hcredit
      rw [List.drop_append] at he
      rcases List.mem_append.mp he with he | he
      · exact hnone e he
      · rw [List.mem_singleton.mp (List.mem_of_mem_drop he)]
        rfl
    · rw [State.onLink_link, State.setHolder_link, hlink, List.append_nil]
    · rw [State.onLink_buffers, ← hpbytes]
      exact congrArg₂ Buffer.mk (State.setHolder_holder p b _) (State.setHolder_bytes p b b _)
  have hinvariant := LaneInvariant.queued l ((s.link l).outbound ++ [.data j.tag j.nextBlock j.blockSize b])
    (s.link l).transmitting b ⟨.lane l (.outbound j.tag j.nextBlock), bytes⟩
  have hdone := hinvariant.settle (hinvariant.bus Bus.decide (hinvariant.takeReport_of_read (hlink ▸ hx) hs (hlink ▸ hbusy) hk
    hfound x.direction hqueued)) l
  have hframe := ((LaneFrame.takeReport p l x.direction .success).trans (.decide _)).trans (.settle _ l)
  obtain ⟨es, hout, hes⟩ := hdone.follows.behind
  refine ⟨_, es, hexec, ?_, fun e he => ?_, ?_, ?_, ?_, fun hno => ?_, fun hdraining => ?_, ?_, ?_, ?_⟩
  · rw [State.kick_link]
    exact hout.trans (List.append_assoc _ _ _)
  · simpa [Entry.isAside] using hes e he
  · exact congrArg Buffer.holder hdone.buffer
  · exact (congrArg Buffer.bytes hdone.buffer).trans hbytes
  · rw [State.kick_slot, hframe.slot, hslot]
    split <;> rfl
  · rw [State.kick_slot, hframe.slot, hslot, if_neg hno]
  · rw [State.kick_slot, hframe.slot, hslot, if_pos hdraining]
    rfl
  · rw [State.kick_bus, Bus.laneInFlight_congr hframe.flight, Bus.laneInFlight, hstate]
  · exact hframe.windows.trans hwindows
  · exact hframe.latch.trans hlatch

end Sys2Proof.Machine
end

section
/-! PROOFS. A block error ends a lone job with STOP_ON_ERROR (O57). -/

namespace Sys2Proof.Machine

section
variable {s t u p q : State} {l m : Link} {j k : Job} {js : List Job} {b : BufId} {e : ErrorKind} {i : SlotId} {x y : LinkState}
  {history : List HistoryEntry} {entry : HistoryEntry}

/-! A job whose credits alone change (R40, R44) -/

/-- The live list as given but for the credits and the data timer of its head, and the history as given. -/
structure LinkState.Recredited (j : Job) (js : List Job) (history : List HistoryEntry) (x : LinkState) : Prop where
  live : ∃ c d, x.live = { j with credits := c, dataTimer := d } :: js
  past : x.history = history

theorem LinkState.Recredited.of_same (h : x.Recredited j js history) (hlive : y.live = x.live) (hpast : y.history = x.history) :
    y.Recredited j js history := ⟨by rw [hlive]; exact h.live, hpast.trans h.past⟩

theorem LinkState.Recredited.credit (h : x.Recredited j js history) (n : Nat) :
    (x.onHead (fun k => ({ k with credits := k.credits + 1 } : Job).retime n)).Recredited j js history := by
  obtain ⟨c, d, hx⟩ := h.live
  rw [LinkState.onHead_of_cons hx]
  exact ⟨⟨c + 1, _, rfl⟩, h.past⟩

theorem LinkState.Recredited.offerCredit (h : x.Recredited j js history) (tag n : Nat) :
    (x.offerCredit tag n).Recredited j js history := by
  obtain ⟨es, p, hchanges⟩ := LinkState.offerCredit_changes tag n x
  rw [hchanges]
  exact h.of_same rfl rfl

/-- The same of a link of the part. -/
def State.Recredited (l : Link) (j : Job) (js : List Job) (history : List HistoryEntry) (s : State) : Prop :=
  (s.link l).Recredited j js history

theorem State.Recredited.of_link (h : s.Recredited l j js history) (hl : t.link l = s.link l) : t.Recredited l j js history := by
  rw [State.Recredited, hl]
  exact h

theorem State.Recredited.grantCredit (h : s.Recredited l j js history) (m : Link) : (s.grantCredit m).Recredited l j js history := by
  unfold State.grantCredit
  split
  next => exact h
  next k _ =>
    by_cases hm : l = m
    · rw [← hm, State.Recredited, State.onLink_link, State.onTimedJob, State.onLink_link]
      refine LinkState.Recredited.offerCredit ?_ k.tag 1
      exact ⟨(LinkState.Recredited.credit h _).live, (LinkState.Recredited.credit h (s.link l).timeout).past⟩
    · refine h.of_link ?_
      rw [State.onLink_ne _ hm, State.onTimedJob, State.onLink_ne _ hm]

theorem State.Recredited.assign (h : s.Recredited l j js history) (m : Link) (b : BufId) :
    (s.assign m b).Recredited l j js history := by
  unfold State.assign
  split
  next => exact h
  next =>
    split
    next => exact h.of_link (State.setHolder_link _ _ _ _)
    next => exact h.of_link (State.setHolder_link _ _ _ _)
    next => exact h.of_link ((State.setBytes_link _ _ _ _).trans (State.setHolder_link _ _ _ _))
    next => exact (h.of_link (State.setHolder_link _ _ _ _)).grantCredit m

theorem State.Recredited.giveBuffer (h : s.Recredited l j js history) (w : List Link) (b : BufId) :
    (giveBuffer w b s).Recredited l j js history := by
  induction w generalizing s with
  | nil => exact h.of_link (State.withWaitList_link _ _ _)
  | cons m rest ih =>
    have hrest : ({ s with waitList := rest } : State).Recredited l j js history := h.of_link (State.withWaitList_link _ _ _)
    unfold Machine.giveBuffer
    simp only
    split
    next =>
      split
      next => exact (hrest.assign m b).of_link (State.joinWait_link _ _ _)
      next => exact hrest.assign m b
    next => exact ih hrest

theorem State.Recredited.freeBuf (h : s.Recredited l j js history) (b : BufId) : (s.freeBuf b).Recredited l j js history :=
  (h.of_link (State.setHolder_link _ _ _ _)).giveBuffer _ b

theorem State.Recredited.emptyWriteBuffer (h : s.Recredited l j js history) (m : Link) (b : BufId) :
    (s.emptyWriteBuffer m b).Recredited l j js history := by
  unfold State.emptyWriteBuffer
  split
  next => exact h.freeBuf b
  next =>
    split
    next => exact ((h.of_link (State.setHolder_link _ _ _ _)).grantCredit m).of_link (State.dropIdleWait_link _ _ _)
    next => exact h.freeBuf b

theorem State.Recredited.emptyTransfer (h : s.Recredited l j js history) (m : Link) :
    (s.emptyTransfer m).Recredited l j js history := by
  unfold State.emptyTransfer
  split
  next => exact h
  next => exact h.emptyWriteBuffer m _

theorem State.Recredited.useTransfer (h : s.Recredited l j js history) (m : Link) (v : BufferUse) :
    (s.useTransfer m v).Recredited l j js history := by
  unfold State.useTransfer
  split
  next => exact h
  next => exact h.of_link (State.setHolder_link _ _ _ _)

/-! The end of the job, and what is handed on behind it (R18, R23) -/

/-- The session, the windows and the latch as in `s`, and no transfer of the lane in flight. -/
structure State.Landed (l : Link) (s p : State) : Prop where
  session : (p.link l).session = (s.link l).session
  mask : (p.link l).mask = (s.link l).mask
  windows : p.windows = s.windows
  latch : p.latch = s.latch
  flight : p.bus.laneInFlight l = false

theorem State.Landed.frame (h : s.Landed l p) (hf : LaneFrame p q) : s.Landed l q where
  session := (hf.link l).session.trans h.session
  mask := (hf.link l).mask.trans h.mask
  windows := hf.windows.trans h.windows
  latch := hf.latch.trans h.latch
  flight := (Bus.laneInFlight_congr hf.flight l).trans h.flight

/-- The lone job of the link has ended with the history entry given, and its lane is IDLE and asks for nothing. -/
structure State.Stopped (l : Link) (entry : HistoryEntry) (s t : State) : Prop where
  landed : s.Landed l t
  live : (t.link l).live = []
  lane : (t.link l).lane = ⟨.idle, 0, 0⟩
  past : (t.link l).history = addHistory (s.link l).history entry
  request : t.bus.request l = none

theorem State.Stopped.of_link (h : s.Stopped l entry t) (hlink : u.link l = t.link l) (hwindows : u.windows = t.windows)
    (hlatch : u.latch = t.latch) (hflight : ∀ x, u.bus.state = .inFlight x ↔ t.bus.state = .inFlight x)
    (hrequest : u.bus.request l = none) : s.Stopped l entry u where
  landed := ⟨by rw [hlink]; exact h.landed.session, by rw [hlink]; exact h.landed.mask, hwindows.trans h.landed.windows,
    hlatch.trans h.landed.latch, (Bus.laneInFlight_congr hflight l).trans h.landed.flight⟩
  live := by rw [hlink]; exact h.live
  lane := by rw [hlink]; exact h.lane
  past := by rw [hlink]; exact h.past
  request := hrequest

theorem State.Stopped.decide (h : s.Stopped l entry t) : s.Stopped l entry (t.onBus Bus.decide) :=
  h.of_link (State.onBus_link _ _ _) rfl rfl (Bus.decide_flight t.bus) (Bus.decide_request_none h.request)

theorem State.Stopped.identStep (h : s.Stopped l entry t) : s.Stopped l entry t.identStep := by
  have hjoin : s.Stopped l entry t.identJoin := by
    rcases State.identJoin_cases t with hj | ⟨i, is, -, hj⟩ <;> rw [hj]
    · exact h
    · exact h.of_link (State.onBus_link _ _ _) rfl rfl (fun _ => Iff.rfl) (by cases l <;> exact h.request)
  exact hjoin.decide

theorem State.Stopped.settle (h : s.Stopped l entry t) (k : Link) : s.Stopped l entry (t.settle k) :=
  have ha := (State.Passive.of_no_jobs h.live).settle k
  have hf := LaneFrame.settle t k
  h.of_link ha.link hf.windows hf.latch hf.flight (ha.request h.request)

theorem State.Stopped.kick (h : s.Stopped l entry t) : s.Stopped l entry t.kick where
  landed := ⟨by rw [State.kick_link]; exact h.landed.session, by rw [State.kick_link]; exact h.landed.mask, h.landed.windows,
    h.landed.latch, h.landed.flight⟩
  live := by rw [State.kick_link]; exact h.live
  lane := by rw [State.kick_link]; exact h.lane
  past := by rw [State.kick_link]; exact h.past
  request := h.request

/-- A lone job ends at a link whose lane has no transfer in flight. -/
theorem State.Landed.endJob (h : s.Landed l p) (hx : (p.link l).live = [j]) (hs : j.state ≠ .queued)
    (hp : (p.link l).history = (s.link l).history) (o : JobOutcome) : s.Stopped l (j.entry o) (p.endJob l o) := by
  have hend := State.endJob_jobEnded hx hs (by simp) o
  have hlink := hend.link
  obtain ⟨es, n, hoffer⟩ := LinkState.offer_changes (j.endedNotice o)
    { p.link l with live := [], history := addHistory (p.link l).history (j.entry o) }
  rw [LinkState.ending_of_cons hx, LinkState.concluded, hoffer, h.flight] at hlink
  refine ⟨h.frame hend.frame, by rw [hlink], by rw [hlink]; rfl, by rw [hlink, ← hp], ?_⟩
  rw [hend.bus, Bus.withdraw_request, Bus.setRequest_request]

/-- A segment error of a lone job with STOP_ON_ERROR. -/
theorem State.Landed.segmentError (h : s.Landed l p) (hr : p.Recredited l j [] (s.link l).history) (hs : j.state ≠ .queued)
    (hstop : j.stopOnError = true) (i : ListId) (e : ErrorKind) :
    s.Stopped l ⟨j.tag, j.kind, .failed, j.completed, 1, some ⟨e, i, (j.position i).segment, (j.position i).block⟩⟩
      (p.segmentError l i e) := by
  obtain ⟨c, d, hx⟩ := hr.live
  have hposition : ({ j with credits := c, dataTimer := d } : Job).position i = j.position i := by cases i <;> rfl
  rw [State.segmentError_of_stop hx hs hstop, hposition]
  obtain ⟨q, hq⟩ : ∃ q, q = p.onLink l (fun x => { x with live := [({ j with
      failed := 1
      firstError := some ⟨e, i, (j.position i).segment, (j.position i).block⟩
      credits := c
      dataTimer := d } : Job)] }) := ⟨_, rfl⟩
  have hqlink : q.link l = { p.link l with live := [({ j with
      failed := 1
      firstError := some ⟨e, i, (j.position i).segment, (j.position i).block⟩
      credits := c
      dataTimer := d } : Job)] } := by rw [hq, State.onLink_link]
  have hlanded : s.Landed l q := ⟨by rw [hqlink]; exact h.session, by rw [hqlink]; exact h.mask,
    by rw [hq, State.onLink_windows]; exact h.windows, by rw [hq, State.onLink_latch]; exact h.latch,
    by rw [hq, State.onLink_bus]; exact h.flight⟩
  have hstopped := hlanded.endJob (j := { j with
      failed := 1
      firstError := some ⟨e, i, (j.position i).segment, (j.position i).block⟩
      credits := c
      dataTimer := d }) (by rw [hqlink]) hs (by rw [hqlink]; exact hr.past) .failed
  rw [hq] at hstopped
  exact hstopped

theorem State.Stopped.settlePausing (h : s.Stopped l entry t) : s.Stopped l entry (t.settlePausing l) := by
  rw [State.settlePausing, State.activeJob_of_no_jobs h.live]
  exact h

/-- The report of a block error to a lone job with STOP_ON_ERROR. -/
theorem State.Landed.takeReport (h : s.Landed l p) (hx : (p.link l).live = [j]) (hp : (p.link l).history = (s.link l).history)
    (hb : (p.link l).lane.state = .busy) (hs : j.state = .running ∨ j.state = .pausing) (hstop : j.stopOnError = true)
    (dir : Direction) (e : ErrorKind) :
    s.Stopped l ⟨j.tag, j.kind, .failed, j.completed, 1, some ⟨e, j.kind.listOf dir, (j.position (j.kind.listOf dir)).segment,
      (j.position (j.kind.listOf dir)).block⟩⟩ (p.takeReport l dir (.error e)) := by
  have hj : j.state ≠ .queued := by rcases hs with h | h <;> rw [h] <;> simp
  have hr : p.Recredited l j [] (s.link l).history := ⟨⟨j.credits, j.dataTimer, hx⟩, hp⟩
  have happly : ∃ q, LaneFrame p q ∧ q.Recredited l j [] (s.link l).history ∧
      p.applyReport l j dir (.error e) = q.segmentError l (j.kind.listOf dir) e := by
    cases hk : j.kind with
    | read => exact ⟨_, .useTransfer p l .staged, hr.useTransfer l _, by simp only [State.applyReport, hk]; cases dir <;> rfl⟩
    | write => exact ⟨_, .emptyTransfer p l, hr.emptyTransfer l, by simp only [State.applyReport, hk]; cases dir <;> rfl⟩
    | fill => exact ⟨p, .refl p, hr, by simp only [State.applyReport, hk]; cases dir <;> rfl⟩
    | copy => exact ⟨_, .useTransfer p l .staged, hr.useTransfer l _, by simp only [State.applyReport, hk]⟩
  obtain ⟨q, hf, hq, happly⟩ := happly
  rw [State.takeReport_of_busy hx hs hb, happly]
  exact ((h.frame hf).segmentError hq hj hstop _ e).settlePausing

/-! The ways of a block error to the lane (R124, R135, R137, R139) -/

/-- A link with the same jobs, lane, session and mask. -/
structure LinkState.SameJobs (x y : LinkState) : Prop where
  live : y.live = x.live
  past : y.history = x.history
  lane : y.lane = x.lane
  session : y.session = x.session
  mask : y.mask = x.mask

theorem LinkState.SameJobs.raise (c : Condition) (x : LinkState) : x.SameJobs (x.raise c) := by
  obtain ⟨cs, es, n, h⟩ := LinkState.raise_changes c x
  rw [h]
  exact ⟨rfl, rfl, rfl, rfl, rfl⟩

theorem LinkState.SameJobs.refl (x : LinkState) : x.SameJobs x := ⟨rfl, rfl, rfl, rfl, rfl⟩

theorem LinkState.SameJobs.landed (h : (s.link l).SameJobs (p.link l)) (hwindows : p.windows = s.windows) (hlatch : p.latch = s.latch)
    (hflight : ∀ x, p.bus.state ≠ .inFlight x) : s.Landed l p where
  session := h.session
  mask := h.mask
  windows := hwindows
  latch := hlatch
  flight := Bool.eq_false_iff.mpr fun hf => by
    obtain ⟨x, hx, -⟩ := (Bus.laneInFlight_iff _ _).mp hf
    exact hflight x hx

theorem State.slotEnd_rest (s : State) (i : SlotId) (o : TransferOutcome) (m : Link) : (s.link m).SameJobs ((s.slotEnd i o).link m) ∧
    (s.slotEnd i o).windows = s.windows ∧ (s.slotEnd i o).latch = s.latch ∧ (s.slotEnd i o).bus = s.bus := by
  unfold State.slotEnd
  simp only
  split
  next =>
    refine ⟨?_, rfl, rfl, rfl⟩
    rw [State.faultSlot, State.raiseBoth_link, State.onSlot_link, State.onSlot_link]
    exact .raise _ _
  next =>
    split
    next =>
      refine ⟨?_, rfl, rfl, rfl⟩
      rw [State.onSlot_link, State.onSlot_link]
      exact .refl _
    next =>
      refine ⟨?_, rfl, rfl, rfl⟩
      rw [State.onSlot_link]
      exact .refl _

/-- The history entry of the job that a block error of a transfer in the direction given ends. -/
def Job.stoppedEntry (j : Job) (dir : Direction) (e : ErrorKind) : HistoryEntry :=
  ⟨j.tag, j.kind, .failed, j.completed, 1, some ⟨e, j.kind.listOf dir, (j.position (j.kind.listOf dir)).segment,
    (j.position (j.kind.listOf dir)).block⟩⟩

/-- A transfer of the lone job ends with an error. -/
theorem State.endTransfer_stopped {x : Transfer} {o : TransferOutcome} (hu : ∀ m, u.link m = s.link m)
    (hwindows : u.windows = s.windows) (hlatch : u.latch = s.latch) (hr : x.requester = .lane l) (ho : o.report = .error e)
    (hx : (s.link l).live = [j]) (hb : (s.link l).lane.state = .busy) (hs : j.state = .running ∨ j.state = .pausing)
    (hstop : j.stopOnError = true) : s.Stopped l (j.stoppedEntry x.direction e) (u.endTransfer x o).kick := by
  obtain ⟨p, hp⟩ : ∃ p, p = (u.setBusState .free).slotEnd x.slot o := ⟨_, rfl⟩
  obtain ⟨hsame, hpwindows, hplatch, hpbus⟩ := State.slotEnd_rest (u.setBusState .free) x.slot o l
  rw [State.setBusState, State.onBus_link, hu l] at hsame
  have hsame : (s.link l).SameJobs (p.link l) := by rw [hp]; exact hsame
  have hlanded : s.Landed l p := hsame.landed (by rw [hp, hpwindows]; exact hwindows) (by rw [hp, hplatch]; exact hlatch)
    (fun y hy => by rw [hp, hpbus] at hy; cases hy)
  have hreport := hlanded.takeReport (hsame.live.trans hx) hsame.past (by rw [hsame.lane]; exact hb) hs hstop x.direction e
  rw [State.endTransfer_lane hr, ho, ← hp]
  exact (hreport.decide.settle l).kick

/-- The block in flight of the lone job is abandoned. -/
theorem State.abandonTransfer_stopped {x : Transfer} (hf : u.bus.state = .inFlight x) (hr : x.requester = .lane l)
    (hsame : (s.link l).SameJobs (u.link l)) (hwindows : u.windows = s.windows) (hlatch : u.latch = s.latch)
    (hx : (s.link l).live = [j]) (hb : (s.link l).lane.state = .busy) (hs : j.state = .running ∨ j.state = .pausing)
    (hstop : j.stopOnError = true) (e : ErrorKind) :
    s.Stopped l (j.stoppedEntry x.direction e) (u.abandonTransfer x.slot e).kick := by
  have hlink : (u.setBusState .free).link l = u.link l := State.onBus_link _ _ _
  have hlanded : s.Landed l (u.setBusState .free) := LinkState.SameJobs.landed (by rw [hlink]; exact hsame) hwindows hlatch
    (fun y hy => by cases hy)
  have hreport := hlanded.takeReport (by rw [hlink, hsame.live]; exact hx) (by rw [hlink]; exact hsame.past)
    (by rw [hlink, hsame.lane]; exact hb) hs hstop x.direction e
  rw [State.abandonTransfer_of_lane hf rfl hr]
  exact (hreport.identStep.settle l).kick

theorem State.leave_rest (u : State) (i : SlotId) (c : Condition) : ((u.leaveSequencers i).raiseBoth c).bus.state = u.bus.state ∧
    ((u.leaveSequencers i).raiseBoth c).windows = u.windows ∧ ((u.leaveSequencers i).raiseBoth c).latch = u.latch ∧
    ∀ m, ((u.leaveSequencers i).raiseBoth c).link m = (u.link m).raise c :=
  ⟨rfl, rfl, rfl, fun m => by rw [State.raiseBoth_link, State.leaveSequencers_link]⟩

/-- The slot of the block in flight is left, and the lone job's block abandoned. -/
theorem State.left_stopped {x : Transfer} (hf : s.bus.state = .inFlight x) (hr : x.requester = .lane l)
    (hx : (s.link l).live = [j]) (hb : (s.link l).lane.state = .busy) (hs : j.state = .running ∨ j.state = .pausing)
    (hstop : j.stopOnError = true) (hslot : (s.slot x.slot).state ≠ .ramping) (g : Slot → Slot) (c : Condition) (e : ErrorKind) :
    s.Stopped l (j.stoppedEntry x.direction e)
      (((((s.onSlot x.slot g).leaveSequencers x.slot).raiseBoth c).rampAfter (s.slot x.slot).state).abandonTransfer x.slot e).kick := by
  obtain ⟨hstate, hwindows, hlatch, hlink⟩ := State.leave_rest (s.onSlot x.slot g) x.slot c
  rw [State.rampAfter_of_other hslot]
  generalize ((s.onSlot x.slot g).leaveSequencers x.slot).raiseBoth c = u at hstate hwindows hlatch hlink
  refine State.abandonTransfer_stopped (s := s) (hstate.trans hf) hr ?_ hwindows hlatch hx hb hs hstop e
  rw [hlink, State.onSlot_link]
  exact .raise _ _

end

/-- Settles O57: a block error ends a lone job with STOP_ON_ERROR, whichever way it reaches the lane. -/
theorem blockErrorsStopTheJob : Obligations.BlockErrorsStopTheJob := by
  intro l j c dir e s h0 hx hb hstop hcause
  have hstopped : ∃ t, exec c s = .next t ∧ s.Stopped l (j.stoppedEntry dir e) t := by
    rcases hcause with ⟨x, hf, hr, hdir, hs, hcause⟩ | ⟨r, bind, hg, rfl, hdir, hs, hbind, herror⟩
    case inl =>
      have hend : ∀ (u : State) (o : TransferOutcome), (∀ m, u.link m = s.link m) → u.windows = s.windows → u.latch = s.latch →
          o.report = .error e → s.Stopped l (j.stoppedEntry dir e) (u.endTransfer x o).kick := fun u o hu hw hl ho => by
        rw [← hdir]
        exact State.endTransfer_stopped hu hw hl hr ho hx hb hs hstop
      have hrespond : ∀ (f : Bus → Bus) (m : Link), (s.onBus f).link m = s.link m := fun f m => State.onBus_link _ _ _
      rcases hcause with ⟨r, md, mdp, mperr, rfl, hrej, hlate, hphase, rfl⟩ | ⟨md, mdp, mperr, rfl, hphase, hlast, hbad, rfl⟩ |
        ⟨rfl, hw, hlast, rfl⟩ | ⟨rfl, hslot, rfl⟩ | ⟨rfl, hslot, rfl⟩
      · refine ⟨_, exec_wordResponse_taken h0 hf hphase hlate md mdp mperr, ?_⟩
        rw [State.takeResponse_of_reject (bne_iff_ne.mpr hrej)]
        exact hend _ _ (hrespond _) rfl rfl rfl
      · refine ⟨_, exec_wordResponse_taken h0 hf hphase rfl md mdp mperr, ?_⟩
        rw [State.takeResponse_of_bad rfl (hdir ▸ hbad), State.retryOrEnd_of_last hlast]
        exact hend _ _ (hrespond _) rfl rfl rfl
      · refine ⟨_, exec_watchdog h0 hf hw, ?_⟩
        rw [State.retryOrEnd_of_last hlast]
        exact hend s _ (fun _ => rfl) rfl rfl rfl
      · have hramp : (s.slot x.slot).state ≠ .ramping ∧ (s.slot x.slot).state ≠ .empty ∧ (s.slot x.slot).state ≠ .settling := by
          simp only [List.mem_cons, List.not_mem_nil, or_false] at hslot
          rcases hslot with h | h <;> simp [h]
        obtain ⟨hramp, hempty, hsettling⟩ := hramp
        refine ⟨_, exec_presDeassert_of_removed h0 hempty hsettling, ?_⟩
        rw [← hdir]
        exact State.left_stopped hf hr hx hb hs hstop hramp _ _ _
      · have hramp : (s.slot x.slot).state ≠ .ramping ∧ (s.slot x.slot).state.powered = true := by
          simp only [List.mem_cons, List.not_mem_nil, or_false] at hslot
          rcases hslot with h | h <;> simp [h, SlotPhase.powered]
        obtain ⟨hramp, hpowered⟩ := hramp
        refine ⟨_, exec_trip_of_powered h0 hpowered, ?_⟩
        rw [← hdir]
        exact State.left_stopped hf hr hx hb hs hstop hramp _ _ _
    case inr =>
      have hcheck : (s.slot r.slot).blockCheck bind = some e := by
        rcases herror with ⟨hg, rfl⟩ | ⟨hg, hr, rfl⟩
        · simp [Slot.blockCheck, hg]
        · simp [Slot.blockCheck, hg, hr]
      have hback : s.returnGrant.link l = s.link l := by
        rw [State.returnGrant_eq, State.onBus_link]
      have hflight : ∀ x, s.returnGrant.bus.state ≠ .inFlight x := fun x h => by
        rw [State.returnGrant_eq] at h
        cases (Bus.decide_flight _ _).mp h
      have hlanded : s.Landed l s.returnGrant := LinkState.SameJobs.landed (by rw [hback]; exact .refl _) rfl rfl hflight
      have hj : j.state ≠ .queued := by simp [hs]
      have herror := hlanded.segmentError (j := j) ⟨⟨j.credits, j.dataTimer, by rw [hback]; exact hx⟩, by rw [hback]⟩ hj hstop
        (j.kind.listOf r.direction) e
      refine ⟨_, exec_grant h0, ?_⟩
      rw [State.grantReaches_lane hg, State.laneGrant_of_running hx hs (hdir ▸ hbind), hcheck, ← hdir]
      exact (herror.settle l).kick
  obtain ⟨t, hexec, ht⟩ := hstopped
  refine ⟨t, j.kind.listOf dir, j.position (j.kind.listOf dir), hexec, JobKind.listOf_eq _ _, ?_, ht.live, ht.lane, ht.past,
    ht.landed.session, ht.landed.mask, ht.landed.windows, ht.landed.latch, ht.landed.flight, ht.request⟩
  rw [JobKind.listOf_eq]
  split <;> rfl

end Sys2Proof.Machine
end

section
/-! PROOFS. A WRITE that starts at once, with its credits (O31). -/

namespace Sys2Proof.Machine

section
variable {s t u v : State} {l m : Link} {j k : Job} {js : List Job} {x : LinkState} {b c : BufId} {bs : List BufId} {n i : Nat}

/-! Lanes that go on, step by step (R11, R33) -/

theorem settleFrom_of_step (h : s.laneStep l = some t) (n : Nat) : settleFrom l (n + 1) s = settleFrom l n t := by
  rw [settleFrom, h]

theorem settleFrom_of_other (h : s.laneStep l = none) (ho : s.laneStep l.other = some t) (n : Nat) :
    settleFrom l (n + 1) s = settleFrom l n t := by
  rw [settleFrom, h]
  simp only [ho]

theorem settleFrom_of_rest (h : s.laneStep l = none) (ho : s.laneStep l.other = none) (n : Nat) : settleFrom l n s = s := by
  cases n with
  | zero => rfl
  | succ n =>
    rw [settleFrom, h]
    simp only [ho]

/-- What a lane finds at rest, it finds at rest again while its link, its buffers, the bus and the wait list stay. -/
theorem State.laneStep_none_congr (hlink : t.link m = s.link m) (huse : ∀ b, t.useOf m b = s.useOf m b)
    (hwait : t.waitList = s.waitList) (hbus : t.bus = s.bus) (hhold : t.latchHold = s.latchHold) (h : s.laneStep m = none) :
    t.laneStep m = none := by
  have hwants : t.wantsBuffer m = s.wantsBuffer m := State.wantsBuffer_congr hlink huse
  have hfind : ∀ p, t.findUse m p = s.findUse m p := fun p => by simp only [State.findUse, huse]
  rw [Option.eq_none_iff_forall_ne_some] at h ⊢
  intro v hv
  rcases State.laneStep_cases hv with ⟨hc, -⟩ | ⟨j, hj, hr, hb, hact⟩
  · rw [State.startCheck_iff, hlink, hhold] at hc
    exact h _ (State.laneStep_of_start (State.startCheck_iff.mpr hc))
  · have hj' : s.activeJob m = some j := by rw [← hj, State.activeJob, State.activeJob, hlink]
    have hstep := State.laneStep_of_busy (hlink ▸ hb) hj'
    rcases hact with ⟨hw, hl, -⟩ | ⟨hno, hfree, hnext, i, hi, -⟩
    · exact h _ (State.laneStep_of_ask (hlink ▸ hb) hj' hr (hwants ▸ hw) (hwait ▸ hl))
    · have hask : ¬ (s.wantsBuffer m && decide (m ∉ s.waitList)) = true := by
        rw [← hwants, ← hwait]
        rcases hno with hno | hno <;> simp [hno]
      have hfree' : s.laneFree m = true := by rw [← hfree, State.laneFree, State.laneFree, hbus]
      have hready : s.readyList m j = some i := by
        rw [← hi]
        simp only [State.readyList, hfind]
      refine h (s.startTransfer m j i) ?_
      rw [hstep, State.busyStep, if_neg (by simp [hr]), if_neg hask, if_pos (by simp [hfree', hnext]), hready]
      rfl

/-! Buffers taken one after another (R33, R40) -/

/-- The buffers given, FREE before, have become RESERVED buffers of the lane, and no other buffer has changed. -/
structure State.Taken (l : Link) (bs : List BufId) (s v : State) : Prop where
  nodup : bs.Nodup
  free : ∀ b ∈ bs, (s.buffers.get b).holder = .free
  inside : ∀ b ∈ bs, v.buffers.get b = ⟨.lane l .reserved, (s.buffers.get b).bytes⟩
  outside : ∀ b, b ∉ bs → v.buffers.get b = s.buffers.get b

/-- A list of distinct buffers is as long as the number of buffers that are in it. -/
theorem length_filter_of_mem_iff {p : BufId → Bool} (h : bs.Nodup) (hp : ∀ b, p b = true ↔ b ∈ bs) :
    (bufferIds.filter p).length = bs.length := by
  refine List.Perm.length_eq ((List.perm_ext_iff_of_nodup ((List.nodup_finRange 16).filter _) h).mpr fun b => ?_)
  rw [List.mem_filter, hp]
  exact and_iff_right (List.mem_finRange b)

theorem State.not_holds_of_heldCount (h : s.heldCount l = 0) (b : BufId) : ¬ s.holds l b = true :=
  List.countP_eq_zero.mp h b (List.mem_finRange b)

theorem State.Taken.use_iff (h : s.Taken l bs v) (h0 : s.heldCount l = 0) (w : BufferUse) :
    v.useOf l b = some w ↔ b ∈ bs ∧ w = .reserved := by
  rw [State.useOf_eq_some]
  by_cases hb : b ∈ bs
  · rw [h.inside b hb]
    constructor
    · intro hw
      cases hw
      exact ⟨hb, rfl⟩
    · rintro ⟨-, rfl⟩
      rfl
  · rw [h.outside b hb]
    exact iff_of_false (fun hw => State.not_holds_of_heldCount h0 b (State.holds_iff.mpr ⟨w, hw⟩)) fun hw => hb hw.1

theorem State.Taken.heldCount (h : s.Taken l bs v) (h0 : s.heldCount l = 0) : v.heldCount l = bs.length := by
  rw [State.heldCount, List.countP_eq_length_filter]
  refine length_filter_of_mem_iff h.nodup fun b => ?_
  simp only [State.holds_iff, ← State.useOf_eq_some, h.use_iff h0]
  simp

theorem State.Taken.reserved (h : s.Taken l bs v) (h0 : s.heldCount l = 0) :
    (v.allUses l BufferUse.isReserved).length = bs.length := by
  refine length_filter_of_mem_iff h.nodup fun b => ?_
  simp only [Option.any_eq_true, h.use_iff h0]
  exact ⟨fun ⟨_, ⟨hb, _⟩, _⟩ => hb, fun hb => ⟨.reserved, ⟨hb, rfl⟩, rfl⟩⟩

theorem State.Taken.useOf_other (h : s.Taken l bs v) (hm : m ≠ l) (b : BufId) : v.useOf m b = s.useOf m b := by
  by_cases hb : b ∈ bs
  · rw [State.useOf_free (h.free b hb)]
    exact State.useOf_other (State.useOf_eq_some.mpr (congrArg Buffer.holder (h.inside b hb))) hm
  · exact State.useOf_congr (congrArg Buffer.holder (h.outside b hb)) m

/-- While fewer are taken than were FREE, one is FREE. -/
theorem State.Taken.exists_free (h : s.Taken l bs v)
    (hn : bs.length < bufferIds.countP (fun b => (s.buffers.get b).holder = .free)) :
    ∃ b, (v.buffers.get b).holder = .free ∧ ∀ k, k < b → (v.buffers.get k).holder ≠ .free := by
  cases hfree : v.freeBuffer? with
  | some b => exact ⟨b, State.freeBuffer?_eq_some.mp hfree⟩
  | none =>
    have hnone := State.freeBuffer?_eq_none.mp hfree
    rw [List.countP_eq_length_filter] at hn
    refine absurd hn (Nat.not_lt.mpr (((List.nodup_finRange 16).filter _).subperm fun b hb => ?_).length_le)
    by_contra hout
    refine hnone b ?_
    rw [h.outside b hout]
    exact of_decide_eq_true (List.mem_filter.mp hb).2

theorem State.Taken.take (h : s.Taken l bs v) (hb : (v.buffers.get b).holder = .free)
    (hbuffers : t.buffers = (v.setHolder b (.lane l .reserved)).buffers) : s.Taken l (b :: bs) t := by
  have hnot : b ∉ bs := fun hin => by
    rw [h.inside b hin] at hb
    cases hb
  have hsame := h.outside b hnot
  have hother : ∀ c, c ≠ b → t.buffers.get c = v.buffers.get c := fun c hc => by rw [hbuffers, State.setHolder_ne v hc]
  refine ⟨List.nodup_cons.mpr ⟨hnot, h.nodup⟩, fun c hc => ?_, fun c hc => ?_, fun c hc => ?_⟩
  · rcases List.mem_cons.mp hc with rfl | hc
    · rw [← hsame]
      exact hb
    · exact h.free c hc
  · rcases List.mem_cons.mp hc with rfl | hc
    · rw [hbuffers, ← hsame]
      exact congrArg₂ Buffer.mk (State.setHolder_holder v c _) (State.setHolder_bytes v c c _)
    · rw [hother c (fun e => hnot (e ▸ hc))]
      exact h.inside c hc
  · obtain ⟨hne, hout⟩ := not_or.mp (List.mem_cons.not.mp hc)
    rw [hother c hne]
    exact h.outside c hout

/-! A WRITE job with its credits (R40, R41, R45) -/

/-- The link whose only job is a RUNNING WRITE with credits, announced in one CREDIT behind what was queued. -/
def LinkState.writing (j : Job) (n : Nat) (x : LinkState) : LinkState :=
  { x with
    live := [{ j with
      state := .running
      credits := n
      dataTimer := if n = 0 then j.dataTimer else .running (x.dataTimeout.getD 1000) }]
    lane := ⟨.busy, n, 0⟩
    outbound := x.outbound ++ if n = 0 then [] else [.credit j.tag n] }

/-- The job in it. -/
def Job.writing (j : Job) (timeout : Option Nat) (n : Nat) : Job :=
  { j with state := .running, credits := n, dataTimer := if n = 0 then j.dataTimer else .running (timeout.getD 1000) }

theorem LinkState.writing_live (j : Job) (n : Nat) (x : LinkState) : (x.writing j n).live = [j.writing x.dataTimeout n] := rfl

/-- One more credit is announced in the CREDIT that waits, or in a new one. -/
theorem LinkState.writing_granted (hx : x.outbound ≠ []) (hc : x.creditEntries = 0) (j : Job) (n : Nat) :
    (((x.writing j n).granting (j.writing x.dataTimeout n) []).offerCredit j.tag 1) = x.writing j (n + 1) := by
  cases n with
  | zero =>
    have hnone : ((x.writing j 0).granting (j.writing x.dataTimeout 0) []).creditEntries = 0 := by
      change (x.outbound ++ []).countP Entry.isCredit = 0
      rw [List.append_nil]
      exact hc
    rw [LinkState.offerCredit_of_free hnone]
    simp [LinkState.push, LinkState.granting, LinkState.writing, Job.writing]
  | succ n =>
    obtain ⟨d, hd⟩ : ∃ d, d = if x.transmitting then 1 else 0 := ⟨_, rfl⟩
    have hle : d ≤ x.outbound.length := by
      have hpos := List.length_pos_iff.mpr hx
      rw [hd]
      split <;> omega
    have hwaiting : ((x.writing j (n + 1)).granting (j.writing x.dataTimeout (n + 1)) []).waiting =
        x.waiting ++ .credit j.tag (n + 1) :: [] := by
      change (x.outbound ++ [Entry.credit j.tag (n + 1)]).drop (if x.transmitting then 1 else 0) = _
      rw [← hd, List.drop_append_of_le_length hle, hd]
      rfl
    have hsending : ((x.writing j (n + 1)).granting (j.writing x.dataTimeout (n + 1)) []).sending = x.sending := by
      change (x.outbound ++ [Entry.credit j.tag (n + 1)]).take (if x.transmitting then 1 else 0) = _
      rw [← hd, List.take_append_of_le_length hle, hd]
      rfl
    rw [LinkState.offerCredit_of_split hwaiting (fun k => LinkState.no_waiting_credit hc j.tag k), hsending,
      ← List.append_assoc, LinkState.sending_append_waiting]
    rfl

/-- The lane of `l` has granted `n` credits to its WRITE job since `u`, and nothing else has changed. -/
structure State.Granted (l : Link) (j : Job) (n : Nat) (u v : State) : Prop where
  link : v.link l = (u.link l).writing j n
  taken : ∃ bs, bs.length = n ∧ u.Taken l bs v
  other : v.link l.other = u.link l.other
  waitList : v.waitList = u.waitList
  latchHold : v.latchHold = u.latchHold
  bus : v.bus = u.bus
  slots : v.slots = u.slots
  windows : v.windows = u.windows

/-- What stands while the credits are granted. -/
structure State.GrantsTo (l : Link) (j : Job) (n : Nat) (u : State) : Prop where
  kind : j.kind = .write
  total : n = min 4 j.total
  queue : (u.link l).outbound ≠ []
  credits : (u.link l).creditEntries = 0
  held : u.heldCount l = 0
  waits : u.waitList = []
  resting : u.laneStep l.other = none
  free : n ≤ bufferIds.countP (fun b => (u.buffers.get b).holder = .free)

theorem State.GrantsTo.other_rests (h : u.GrantsTo l j n) (hv : u.Granted l j i v) : v.laneStep l.other = none := by
  obtain ⟨bs, -, htaken⟩ := hv.taken
  exact State.laneStep_none_congr hv.other (htaken.useOf_other (Link_other_ne l)) hv.waitList hv.bus hv.latchHold h.resting

/-- A credit more, while there are fewer than the job may have. -/
theorem State.GrantsTo.step (h : u.GrantsTo l j n) (hv : u.Granted l j i v) (hi : i < n) :
    ∃ w, v.laneStep l = some w ∧ u.Granted l j (i + 1) w := by
  obtain ⟨bs, hlen, htaken⟩ := hv.taken
  have hn := h.total
  have hlive : (v.link l).live = [j.writing (u.link l).dataTimeout i] := by rw [hv.link]; rfl
  have hlane : (v.link l).lane = ⟨.busy, i, 0⟩ := by rw [hv.link]; rfl
  have hj := State.activeJob_head hlive (by simp [Job.writing])
  have hheld : v.heldCount l < 8 := by
    rw [htaken.heldCount h.held, hlen]
    omega
  have hneed : v.jobNeedsBuffer l (j.writing (u.link l).dataTimeout i) = true :=
    State.jobNeedsBuffer_of_kind (.inr (.inr (.inr ⟨h.kind, by change i < 4; omega, by rw [hlane]; change i < j.total; omega⟩)))
  have hwait : l ∉ v.waitList := by
    rw [hv.waitList, h.waits]
    exact List.not_mem_nil
  have hstep := State.laneStep_of_ask (by rw [hlane]) hj rfl (State.wantsBuffer_of_active hj rfl hneed hheld) hwait
  obtain ⟨b, hb, hlow⟩ := htaken.exists_free (by have := h.free; omega)
  rw [State.askBuffer_of_free hb hlow, State.assign_reserved hlive rfl h.kind] at hstep
  refine ⟨_, hstep, ?_, ⟨b :: bs, by simp [hlen], htaken.take hb (State.onLink_buffers _ _ _)⟩, ?_, ?_, ?_, ?_, ?_, ?_⟩
  · rw [State.onLink_link, State.setHolder_link, hv.link]
    exact LinkState.writing_granted h.queue h.credits j i
  · rw [State.onLink_ne _ (Link_other_ne l), State.setHolder_link, hv.other]
  · rw [State.onLink_waitList, State.setHolder_waitList, hv.waitList]
  · rw [State.onLink_latchHold, State.setHolder_latchHold, hv.latchHold]
  · rw [State.onLink_bus, State.setHolder_bus, hv.bus]
  · rw [State.onLink_slots, State.setHolder_slots, hv.slots]
  · rw [State.onLink_windows, State.setHolder_windows, hv.windows]

/-- With all credits granted, the lane has nothing to do: no block has arrived. -/
theorem State.GrantsTo.rests (h : u.GrantsTo l j n) (hv : u.Granted l j n v) : v.laneStep l = none := by
  obtain ⟨bs, -, htaken⟩ := hv.taken
  have hn := h.total
  have hlive : (v.link l).live = [j.writing (u.link l).dataTimeout n] := by rw [hv.link]; rfl
  have hlane : (v.link l).lane = ⟨.busy, n, 0⟩ := by rw [hv.link]; rfl
  have hj := State.activeJob_head hlive (by simp [Job.writing])
  have hroom : (v.link l).creditRoom (j.writing (u.link l).dataTimeout n) = 0 := by
    rw [LinkState.creditRoom, hlane]
    change min (4 - n) (j.total - n) = 0
    omega
  have hkind : (j.writing (u.link l).dataTimeout n).kind = .write := h.kind
  have hneed : v.jobNeedsBuffer l (j.writing (u.link l).dataTimeout n) = false := by
    simp [State.jobNeedsBuffer, hkind, hroom]
  have hwants : v.wantsBuffer l = false := by
    rw [State.wantsBuffer, hj]
    simp [hneed]
  have hnone : v.findUse l (BufferUse.isFilledWith (fun k => k == (j.writing (u.link l).dataTimeout n).nextBlock)) = none :=
    State.findUse_eq_none.mpr fun b w hw => by
      obtain ⟨-, rfl⟩ := (htaken.use_iff h.held w).mp hw
      rfl
  have hready : v.readyList l (j.writing (u.link l).dataTimeout n) = none := by
    simp only [State.readyList, hkind, hnone]
    rfl
  rw [State.laneStep_of_busy (by rw [hlane]) hj, State.busyStep, hwants, hready]
  simp [Job.writing]

theorem State.GrantsTo.settles (h : u.GrantsTo l j n) (d : Nat) : ∀ (i fuel : Nat) (v : State), i + d = n → d ≤ fuel →
    u.Granted l j i v → u.Granted l j n (settleFrom l fuel v) := by
  induction d with
  | zero =>
    intro i fuel v hi _ hv
    obtain rfl : i = n := hi
    rw [settleFrom_of_rest (h.rests hv) (h.other_rests hv)]
    exact hv
  | succ d ih =>
    intro i fuel v hi hfuel hv
    obtain ⟨w, hw, hgranted⟩ := h.step hv (by omega)
    obtain ⟨f, rfl⟩ : ∃ f, fuel = f + 1 := ⟨fuel - 1, by omega⟩
    rw [settleFrom_of_step hw]
    exact ih (i + 1) f w (by omega) (by omega) hgranted

end

/-- Settles O31: a WRITE submitted to an empty list of an IDLE lane is granted its credits at once. -/
theorem writeStartsWithItsCredits : Obligations.WriteStartsWithItsCredits := by
  intro l a j n s hready ha hk hx hlane hhold hheld hcredits hother hn hwait hfree
  have hfresh := Job.fresh_of_args ha
  have htotal := Job.nextBlock_lt_total hfresh.place
  obtain ⟨u, hu⟩ : ∃ u, u = s.joined l j := ⟨_, rfl⟩
  have hlink : u.link l = { s.link l with
      live := [j]
      history := (s.link l).history.filter (fun e => e.tag != j.tag)
      outbound := (s.link l).outbound ++ [.reply 0x50 .ok [.jobTag j.tag, .listPosition 1]] } := by
    rw [hu, State.joined, State.reply_eq_onLink, State.onLink_link, State.onLink_link]
    simp [LinkState.push, LinkState.join, hx]
  have hotherlink : u.link l.other = s.link l.other := by
    rw [hu, State.joined, State.reply_eq_onLink, State.onLink_ne _ (Link_other_ne l), State.onLink_ne _ (Link_other_ne l)]
  have hbuffers : u.buffers = s.buffers := by
    rw [hu, State.joined, State.reply_eq_onLink, State.onLink_buffers, State.onLink_buffers]
  have hwaitu : u.waitList = s.waitList := by
    rw [hu, State.joined, State.reply_eq_onLink, State.onLink_waitList, State.onLink_waitList]
  have hholdu : u.latchHold = s.latchHold := by
    rw [hu, State.joined, State.reply_eq_onLink, State.onLink_latchHold, State.onLink_latchHold]
  have hbusu : u.bus = s.bus := by
    rw [hu, State.joined, State.reply_eq_onLink, State.onLink_bus, State.onLink_bus]
  have hslotsu : u.slots = s.slots := by
    rw [hu, State.joined, State.reply_eq_onLink, State.onLink_slots, State.onLink_slots]
  have hwindowsu : u.windows = s.windows := by
    rw [hu, State.joined, State.reply_eq_onLink, State.onLink_windows, State.onLink_windows]
  have huse : ∀ m b, u.useOf m b = s.useOf m b := fun m => State.useOf_link_congr hbuffers m
  have hcheck : u.startCheck l = true := by
    rw [hu, State.joined_startCheck_iff hfresh.queued, hx]
    exact ⟨hlane, hhold, by simp⟩
  have hgrants : u.GrantsTo l j n := by
    refine ⟨hk, hn, by rw [hlink]; simp, ?_, ?_, hwaitu.trans hwait, ?_, by rw [hbuffers]; exact hfree⟩
    · rw [hlink]
      change ((s.link l).outbound ++ [_]).countP Entry.isCredit = 0
      rw [List.countP_append, show (s.link l).outbound.countP Entry.isCredit = 0 from hcredits]
      rfl
    · have hholds : u.holds l = s.holds l := funext fun b => by rw [State.holds, State.holds, hbuffers]
      rw [State.heldCount, hholds]
      exact hheld
    · exact State.laneStep_none_congr hotherlink (huse _) hwaitu hbusu hholdu hother
  have hstarted : u.Granted l j 0 (u.startJob l) := by
    refine ⟨?_, ⟨[], rfl, List.nodup_nil, by simp, by simp, fun b _ => by rw [State.startJob, State.onLink_buffers]⟩, ?_, ?_, ?_, ?_,
      ?_, ?_⟩
    · obtain ⟨k, -, -, rfl⟩ := jobOfArgs_eq_some.mp ha
      rw [State.startJob, State.onLink_link, LinkState.onHead_of_cons (show (u.link l).live = [newJob a k] by rw [hlink])]
      simp only [LinkState.writing, if_true, List.append_nil]
      rfl
    · rw [State.startJob, State.onLink_ne _ (Link_other_ne l)]
    · rw [State.startJob, State.onLink_waitList]
    · rw [State.startJob, State.onLink_latchHold]
    · rw [State.startJob, State.onLink_bus]
    · rw [State.startJob, State.onLink_slots]
    · rw [State.startJob, State.onLink_windows]
  have hdone : u.Granted l j n (u.settle l) := by
    rw [State.settle, settleFuel, settleFrom_of_step (State.laneStep_of_start hcheck)]
    exact hgrants.settles n 0 999 _ (Nat.zero_add n) (by omega) hstarted
  have hexec : exec (.jsub l a) s = .next (u.settle l).kick := by
    rw [exec_of_ready hready (.jsub a) rfl]
    change Host.Outcome.next (s.takeJsub l a).kick = _
    rw [State.takeJsub_of_new ha (by rw [hx]; decide) (by rw [hx]; simp), ← hu, State.startIfDue_of_check hcheck]
  have hpos : n ≠ 0 := by omega
  obtain ⟨bs, hlen, htaken⟩ := hdone.taken
  refine ⟨(u.settle l).kick, hexec, ?_, fun b => ?_, ?_, ?_, hdone.slots.trans hslotsu, hdone.windows.trans hwindowsu,
    hdone.bus.trans hbusu, (hdone.waitList.trans hwaitu).trans hwait⟩
  · rw [State.kick_link, hdone.link, hlink]
    simp [LinkState.kick, LinkState.writing, hpos]
  · rw [State.kick_buffers, ← hbuffers]
    by_cases hb : b ∈ bs
    · exact .inr ⟨htaken.free b hb, htaken.inside b hb⟩
    · exact .inl (htaken.outside b hb)
  · rw [← hlen, ← htaken.reserved hgrants.held]
    rfl
  · rw [State.kick_link, hdone.other, hotherlink]

end Sys2Proof.Machine
end

section
/-! PROOFS. The lanes go on until they rest (O39): what each of their steps has still to do is less than before. -/

namespace Sys2Proof.Machine

/-! What is still to do (R11, R33, R37) -/

/-- The steps that a live job may still call for: a QUEUED one its start, its buffers, its request and the segments of both
lists; an active one the segments that it may still abandon. -/
def Job.work (j : Job) : Nat :=
  if j.state = .queued then 43
  else (j.primary.length - j.posPrimary.segment) + (j.destination.length - j.posDestination.segment)

/-- The steps that the jobs of a link may still call for. -/
def LinkState.jobWork (x : LinkState) : Nat := (x.live.map Job.work).sum

/-- The active job of the lane is RUNNING. -/
def State.running (s : State) (m : Link) : Bool := (s.activeJob m).any (fun j => j.state = .running)

/-- The lane may start a block of a RUNNING job. -/
def State.mayStart (s : State) (m : Link) : Bool := s.running m && s.laneFree m

/-- The buffers that a lane may still take, and its place in the wait list. -/
def State.askWork (s : State) (m : Link) : Nat :=
  if s.wantsBuffer m then (Config.laneCap - s.heldCount m) + (if m ∈ s.waitList then 0 else 1) else 0

/-- The steps that a lane may still take. -/
def State.laneWork (s : State) (m : Link) : Nat := (s.link m).jobWork + s.askWork m + (if s.mayStart m then 1 else 0)

section
variable {s t u : State} {l m : Link} {j k : Job} {js : List Job} {x : LinkState} {b : BufId} {bs : List BufId} {w : List Link}
  {i : ListId} {e : ErrorKind}

theorem LinkState.jobWork_of_cons (h : x.live = j :: js) : x.jobWork = j.work + (js.map Job.work).sum := by
  rw [LinkState.jobWork, h, List.map_cons, List.sum_cons]

theorem Job.work_le (h : j.placeLaw = true) : j.work ≤ 43 := by
  obtain ⟨hprimary, hdestination, -⟩ := Job.placeLaw_iff.mp h
  rw [Job.work]
  split <;> omega

theorem Job.work_of_active (hp : j.placeLaw = true) (h : j.state ≠ .queued) : 1 ≤ j.work ∧ j.work ≤ 32 := by
  obtain ⟨hprimary, hdestination, -, -, hstands, -⟩ := Job.placeLaw_iff.mp hp
  obtain ⟨g, hg, -⟩ := (Position.standsAt_iff _ _ _).mp hstands
  have hlen := (List.getElem?_eq_some_iff.mp hg).1
  rw [Job.work, if_neg h]
  omega

theorem State.running_of_active (h : s.activeJob m = some j) : s.running m = decide (j.state = .running) := by
  rw [State.running, h]
  rfl

theorem State.running_congr (h : t.link m = s.link m) : t.running m = s.running m := by
  rw [State.running, State.running, State.activeJob, State.activeJob, h]

theorem State.laneFree_congr (h : t.bus = s.bus) (m : Link) : t.laneFree m = s.laneFree m := by
  rw [State.laneFree, State.laneFree, h]

theorem State.heldCount_congr (h : ∀ b, t.useOf m b = s.useOf m b) : t.heldCount m = s.heldCount m := by
  have hholds : t.holds m = s.holds m := funext fun b => by
    rw [Bool.eq_iff_iff, State.holds_iff, State.holds_iff]
    simp only [← State.useOf_eq_some, h]
  rw [State.heldCount, State.heldCount, hholds]

/-! What leaves a lane no more to do -/

/-- The lane of `m` has no more to do in `t` than in `s`. -/
structure State.Eased (m : Link) (s t : State) : Prop where
  jobs : (t.link m).jobWork ≤ (s.link m).jobWork
  wants : t.wantsBuffer m = true →
    s.wantsBuffer m = true ∧ s.heldCount m ≤ t.heldCount m ∧ (m ∈ s.waitList → m ∈ t.waitList)
  starts : t.mayStart m = true → s.mayStart m = true

theorem State.Eased.refl (m : Link) (s : State) : s.Eased m s := ⟨Nat.le_refl _, fun h => ⟨h, Nat.le_refl _, id⟩, id⟩

theorem State.Eased.trans (h : s.Eased m t) (k : t.Eased m u) : s.Eased m u where
  jobs := k.jobs.trans h.jobs
  wants hu := by
    obtain ⟨ht, hheld, hwait⟩ := k.wants hu
    obtain ⟨hs, hheld', hwait'⟩ := h.wants ht
    exact ⟨hs, hheld'.trans hheld, hwait ∘ hwait'⟩
  starts := h.starts ∘ k.starts

theorem State.Eased.askWork_le (h : s.Eased m t) : t.askWork m ≤ s.askWork m := by
  by_cases hw : t.wantsBuffer m = true
  · obtain ⟨hs, hheld, hwait⟩ := h.wants hw
    rw [State.askWork, State.askWork, if_pos hw, if_pos hs]
    refine Nat.add_le_add (Nat.sub_le_sub_left hheld _) ?_
    by_cases hin : m ∈ s.waitList
    · rw [if_pos hin, if_pos (hwait hin)]
    · rw [if_neg hin]
      split <;> omega
  · rw [State.askWork, if_neg hw]
    exact Nat.zero_le _

theorem State.Eased.start_le (h : s.Eased m t) : (if t.mayStart m then 1 else 0) ≤ (if s.mayStart m then 1 else 0 : Nat) := by
  by_cases ht : t.mayStart m = true
  · rw [if_pos ht, if_pos (h.starts ht)]
  · rw [if_neg ht]
    exact Nat.zero_le _

theorem State.Eased.laneWork_le (h : s.Eased m t) : t.laneWork m ≤ s.laneWork m :=
  Nat.add_le_add (Nat.add_le_add h.jobs h.askWork_le) h.start_le

theorem State.Eased.laneWork_lt (h : s.Eased m t)
    (hlt : (t.link m).jobWork < (s.link m).jobWork ∨ t.askWork m < s.askWork m ∨ (s.mayStart m = true ∧ t.mayStart m = false)) :
    t.laneWork m < s.laneWork m := by
  have hjobs := h.jobs
  have hask := h.askWork_le
  have hstart := h.start_le
  rw [State.laneWork, State.laneWork]
  rcases hlt with hlt | hlt | ⟨hs, ht⟩
  · omega
  · omega
  · simp only [hs, ht, if_true, Bool.false_eq_true, if_false]
    omega

/-- Nothing of the lane has changed, but that it may have come to wait or to be busy at the bus. -/
theorem State.Eased.of_same (hlink : t.link m = s.link m) (huse : ∀ b, t.useOf m b = s.useOf m b)
    (hwait : s.wantsBuffer m = true → m ∈ s.waitList → m ∈ t.waitList) (hfree : t.laneFree m = true → s.laneFree m = true) :
    s.Eased m t where
  jobs := by rw [hlink]
  wants ht := by
    have hs : s.wantsBuffer m = true := (State.wantsBuffer_congr hlink huse).symm.trans ht
    exact ⟨hs, (State.heldCount_congr huse).ge, hwait hs⟩
  starts ht := by
    obtain ⟨hrun, hf⟩ := Bool.and_eq_true_iff.mp ht
    exact Bool.and_eq_true_iff.mpr ⟨(State.running_congr hlink).symm.trans hrun, hfree hf⟩

theorem State.Eased.of_aside (h : s.Aside m t) (hwait : s.wantsBuffer m = true → m ∈ s.waitList → m ∈ t.waitList)
    (hbus : t.bus = s.bus) : s.Eased m t :=
  .of_same h.link h.use hwait (State.laneFree_congr hbus m ▸ id)

theorem State.Eased.onLink (hm : m ≠ l) (s : State) (f : LinkState → LinkState) : s.Eased m (s.onLink l f) :=
  .of_aside (.onLink hm s f) (fun _ h => by rw [State.onLink_waitList]; exact h) (State.onLink_bus s l f)

theorem State.Eased.setHolder (hb : s.useOf m b = none) {a : Holder} (ha : ∀ u, a ≠ .lane m u) : s.Eased m (s.setHolder b a) :=
  .of_aside (.setHolder hb ha) (fun _ h => h) rfl

theorem State.Eased.joinWait (hm : m ≠ l) (s : State) : s.Eased m (s.joinWait l) :=
  .of_aside (.joinWait hm s) (fun _ h => by
    rw [State.joinWait_waitList]
    split
    next => exact h
    next => exact List.mem_append_left _ h) (State.joinWait_bus s l)

theorem State.Eased.withdrawWait (hm : m ≠ l) (s : State) : s.Eased m (s.withdrawWait l) :=
  .of_aside (.withdrawWait s l) (fun _ h => List.mem_filter.mpr ⟨h, by simpa using hm⟩) rfl

theorem State.Eased.grantCredit (hm : m ≠ l) (s : State) : s.Eased m (s.grantCredit l) :=
  .of_aside (.grantCredit hm s) (fun _ h => by rw [State.grantCredit_waitList]; exact h) (State.grantCredit_bus s l)

theorem State.Eased.dropIdleWait (hm : m ≠ l) (s : State) : s.Eased m (s.dropIdleWait l) := by
  unfold State.dropIdleWait
  split
  next => exact .refl m s
  next =>
    split
    next => exact .withdrawWait hm s
    next => exact .refl m s

theorem State.Eased.assign (hm : m ≠ l) (hb : s.useOf m b = none) : s.Eased m (s.assign l b) :=
  .of_aside (.assign hm hb) (fun _ h => by rw [State.assign_waitList]; exact h) (State.assign_bus s l b)

/-! A buffer given to the lane itself (R34, R38, R40, R46, R48) -/

/-- The jobs of the lane call for the same as before. -/
structure State.SameJobs (m : Link) (s t : State) : Prop where
  work : (t.link m).jobWork = (s.link m).jobWork
  running : t.running m = s.running m

theorem State.SameJobs.of_link (h : t.link m = s.link m) : s.SameJobs m t := ⟨by rw [h], State.running_congr h⟩

theorem State.SameJobs.trans (h : s.SameJobs m t) (k : t.SameJobs m u) : s.SameJobs m u :=
  ⟨k.work.trans h.work, k.running.trans h.running⟩

theorem State.SameJobs.grantCredit (s : State) (m : Link) : s.SameJobs m (s.grantCredit m) := by
  cases hj : s.activeJob m with
  | none => exact .of_link (by rw [State.grantCredit, hj])
  | some j =>
    obtain ⟨js, hx, hs⟩ := State.activeJob_eq_some.mp hj
    have hlive : ((s.grantCredit m).link m).live = j.moreCredit (s.link m).timeout :: js := by
      rw [State.grantCredit_eq hj, State.onLink_link, LinkState.credited_live, State.onJob, State.onLink_link,
        LinkState.onHead_of_cons hx]
    refine ⟨?_, ?_⟩
    · rw [LinkState.jobWork_of_cons hlive, LinkState.jobWork_of_cons hx]
      rfl
    · rw [State.running_of_active (State.activeJob_of_live hlive hs), State.running_of_active hj]
      rfl

theorem State.SameJobs.assign (s : State) (m : Link) (b : BufId) : s.SameJobs m (s.assign m b) := by
  unfold State.assign
  split
  next => exact .of_link rfl
  next =>
    split
    next => exact .of_link (State.setHolder_link _ _ _ _)
    next => exact .of_link (State.setHolder_link _ _ _ _)
    next => exact .of_link ((State.setBytes_link _ _ _ _).trans (State.setHolder_link _ _ _ _))
    next => exact (State.SameJobs.of_link (State.setHolder_link _ _ _ _)).trans (.grantCredit _ m)

/-- A buffer more is held. -/
theorem State.heldCount_assign (hw : s.wantsBuffer m = true) (hb : s.useOf m b = none) :
    (s.assign m b).heldCount m = s.heldCount m + 1 := by
  have hchange := countP_change (b := b) (p := s.holds m) (q := (s.assign m b).holds m) fun c hc =>
    State.holds_congr (State.assign_get_ne s m hc) m
  have hbefore : s.holds m b = false := by
    rw [Bool.eq_false_iff, Ne, State.holds_iff]
    rintro ⟨v, hv⟩
    rw [State.useOf_eq_some.mpr hv] at hb
    cases hb
  rw [hbefore, State.holds_iff.mpr (State.assign_holder hw b)] at hchange
  exact hchange

/-- A change that leaves the jobs calling for the same. -/
theorem State.Eased.of_jobs (h : s.SameJobs m t) (hwants : t.wantsBuffer m = true →
    s.wantsBuffer m = true ∧ s.heldCount m ≤ t.heldCount m ∧ (m ∈ s.waitList → m ∈ t.waitList)) (hbus : t.bus = s.bus) :
    s.Eased m t :=
  ⟨h.work.le, hwants, fun ht => by rwa [State.mayStart, h.running, State.laneFree_congr hbus] at ht⟩

theorem State.Eased.giveBuffer (hb : s.useOf m b = none) (hw : s.wantsBuffer m = true → m ∈ s.waitList → m ∈ w) :
    s.Eased m (giveBuffer w b s) := by
  induction w generalizing s with
  | nil => exact .of_same (State.withWaitList_link _ _ _) (fun _ => rfl) hw (State.laneFree_congr rfl m ▸ id)
  | cons l rest ih =>
    have hwants := State.wantsBuffer_withWaitList s rest
    obtain ⟨t, ht⟩ : ∃ t : State, t = { s with waitList := rest } := ⟨_, rfl⟩
    have hlink : t.link m = s.link m := by rw [ht]; exact State.withWaitList_link _ _ _
    have huse : ∀ c, t.useOf m c = s.useOf m c := fun c => by rw [ht]; rfl
    have hbus : t.bus = s.bus := by rw [ht]
    unfold Machine.giveBuffer
    simp only [← ht] at hwants ⊢
    by_cases hm : m = l
    · subst hm
      split
      next hyes =>
        have hjobs := (State.SameJobs.of_link hlink).trans (.assign t m b)
        have hheld : s.heldCount m ≤ (t.assign m b).heldCount m := by
          rw [State.heldCount_assign hyes ((huse b).trans hb), State.heldCount_congr huse]
          exact Nat.le_succ _
        have hs : s.wantsBuffer m = true := (hwants m).symm.trans hyes
        split
        next =>
          refine .of_jobs (hjobs.trans (.of_link (State.joinWait_link _ _ _))) (fun _ => ⟨hs, ?_, fun _ => ?_⟩)
            ((State.joinWait_bus _ m).trans ((State.assign_bus t m b).trans hbus))
          · rw [State.heldCount_congr (State.useOf_link_congr (State.joinWait_buffers _ m) m)]
            exact hheld
          · rw [State.joinWait_waitList]
            split
            next hin => exact hin
            next => exact List.mem_append_right _ (List.mem_singleton_self m)
        next hno => exact .of_jobs hjobs (fun h => absurd h hno) ((State.assign_bus t m b).trans hbus)
      next hno =>
        refine State.Eased.trans (t := t) (.of_same hlink huse (fun h => ?_) (State.laneFree_congr hbus m ▸ id))
          (ih ((huse b).trans hb) fun h => absurd h hno)
        exact absurd ((hwants m).trans h) hno
    · have hrest : s.Eased m t := .of_same hlink huse (fun h hin => by
        rw [ht]
        exact (List.mem_cons.mp (hw h hin)).resolve_left hm) (State.laneFree_congr hbus m ▸ id)
      split
      next =>
        have hassign := hrest.trans (.assign hm ((huse b).trans hb))
        split
        next => exact hassign.trans (.joinWait hm _)
        next => exact hassign
      next =>
        refine hrest.trans (ih ((huse b).trans hb) fun _ hin => ?_)
        rw [ht] at hin
        exact hin

theorem State.Eased.freeBuf (hb : s.useOf m b = none) : s.Eased m (s.freeBuf b) := by
  have hfree : ∀ v, Holder.free ≠ .lane m v := fun v h => by cases h
  exact (State.Eased.setHolder hb hfree).trans (.giveBuffer (State.useOf_setHolder_free s b m) fun _ h => h)

theorem State.Eased.freeBufs (hn : bs.Nodup) (hb : ∀ b ∈ bs, s.useOf m b = none) : s.Eased m (s.freeBufs bs) := by
  induction bs generalizing s with
  | nil => exact .refl m s
  | cons b bs ih =>
    obtain ⟨hnot, hrest⟩ := List.nodup_cons.mp hn
    refine (State.Eased.freeBuf (hb b List.mem_cons_self)).trans (ih hrest fun c hc => ?_)
    have hne : c ≠ b := fun h => hnot (h ▸ hc)
    rw [State.useOf_congr (congrArg Buffer.holder (State.freeBuf_get_ne s hne)) m]
    exact hb c (List.mem_cons_of_mem _ hc)

theorem State.Eased.emptyWriteBuffer (hm : m ≠ l) (hb : s.useOf m b = none) : s.Eased m (s.emptyWriteBuffer l b) := by
  unfold State.emptyWriteBuffer
  split
  next => exact .freeBuf hb
  next =>
    split
    next => exact ((State.Eased.setHolder hb (Holder.lane_ne hm _)).trans (.grantCredit hm _)).trans (.dropIdleWait hm _)
    next => exact .freeBuf hb

theorem State.Eased.emptyAll (hm : m ≠ l) (hn : bs.Nodup) (hb : ∀ b ∈ bs, s.useOf m b = none) :
    s.Eased m (bs.foldl (fun t b => t.emptyWriteBuffer l b) s) := by
  induction bs generalizing s with
  | nil => exact .refl m s
  | cons b bs ih =>
    obtain ⟨hnot, hrest⟩ := List.nodup_cons.mp hn
    refine (State.Eased.emptyWriteBuffer hm (hb b List.mem_cons_self)).trans (ih hrest fun c hc => ?_)
    have hne : c ≠ b := fun h => hnot (h ▸ hc)
    rw [State.useOf_congr (congrArg Buffer.holder (State.emptyWriteBuffer_get_ne s l hne)) m]
    exact hb c (List.mem_cons_of_mem _ hc)

/-! The bus (R127, R128) -/

/-- What is free for the lane when the arbiter has decided was so before. -/
theorem State.laneFree_of_decide (h : (s.onBus Bus.decide).laneFree m = true) : s.laneFree m = true := by
  rw [State.laneFree_iff] at h ⊢
  obtain ⟨hflight, hrequest, hgranted⟩ := h
  change s.bus.decide.laneInFlight m = false at hflight
  change s.bus.decide.request m = none at hrequest
  change s.bus.decide.laneGranted m = false at hgranted
  by_cases hfree : s.bus.state = .free
  · refine ⟨by rw [Bus.laneInFlight, hfree], ?_, by rw [Bus.laneGranted, hfree]⟩
    have hgrant : ∀ l r, s.bus.decide = s.bus.grantLane l r → s.bus.request m = none := fun l r hd => by
      rw [hd] at hrequest hgranted
      have hm : m ≠ l := fun hm => by
        rw [Bus.laneGranted, Bus.grantLane] at hgranted
        simp [hm] at hgranted
      rwa [Bus.grantLane, Bus.withState_request, Bus.setRequest_request_ne hm] at hrequest
    cases hi : s.bus.requestIdentify with
    | some i =>
      rw [Bus.decide_of_identify hfree hi] at hrequest
      cases m <;> exact hrequest
    | none =>
      have hd := Bus.decide_of_lanes hfree hi
      cases hp : s.bus.request s.bus.pointer with
      | some r => exact hgrant _ r (hd.trans (by rw [hp]))
      | none =>
        cases ho : s.bus.request s.bus.pointer.other with
        | some r => exact hgrant _ r (hd.trans (by rw [hp, ho]))
        | none =>
          have hsame : s.bus.decide = s.bus := hd.trans (by rw [hp, ho])
          rwa [hsame] at hrequest
  · rw [Bus.decide_of_busy hfree] at hflight hrequest hgranted
    exact ⟨hflight, hrequest, hgranted⟩

theorem State.not_laneFree_of_request (h : s.bus.request m ≠ none) : s.laneFree m = false := by
  rw [Bool.eq_false_iff, Ne, State.laneFree_iff]
  exact fun hf => h hf.2.1

/-- A lane that has asked for the bus has a request or a grant to wait for. -/
theorem State.laneFree_ask (s : State) (m : Link) (r : BusRequest) : (s.onBus (fun b => b.ask m r)).laneFree m = false := by
  have hset : (s.onBus (fun b => b.setRequest m (some r))).laneFree m = false :=
    State.not_laneFree_of_request (by
      change (s.bus.setRequest m (some r)).request m ≠ none
      rw [Bus.setRequest_request]
      exact Option.some_ne_none r)
  rw [Bool.eq_false_iff] at hset ⊢
  exact fun h => hset (State.laneFree_of_decide h)

theorem State.laneFree_setRequest (hm : m ≠ l) (s : State) (r : Option BusRequest) :
    (s.onBus (fun b => b.setRequest l r)).laneFree m = s.laneFree m := by
  have hstate := Bus.setRequest_state s.bus l r
  change (!(s.bus.setRequest l r).laneInFlight m && ((s.bus.setRequest l r).request m).isNone &&
    !(s.bus.setRequest l r).laneGranted m) = _
  rw [Bus.setRequest_request_ne hm, Bus.laneInFlight, Bus.laneGranted, hstate]
  rfl

theorem State.Eased.ask (hm : m ≠ l) (s : State) (r : BusRequest) : s.Eased m (s.onBus (fun b => b.ask l r)) :=
  .of_same (State.onBus_link s _ m) (fun _ => rfl) (fun _ h => h) fun h =>
    (State.laneFree_setRequest hm s (some r)).symm.trans (State.laneFree_of_decide h)

theorem State.laneFree_withdraw (hm : m ≠ l) (s : State) : (s.onBus (fun b => b.withdraw l)).laneFree m = s.laneFree m := by
  have hgranted : (s.bus.withdraw l).laneGranted m = s.bus.laneGranted m := by
    unfold Bus.withdraw
    simp only [Bus.setRequest_state]
    cases hs : s.bus.state with
    | free => simp [Bus.laneGranted, Bus.setRequest_state, hs]
    | inFlight y => simp [Bus.laneGranted, Bus.setRequest_state, hs]
    | granted g =>
      cases g with
      | identify n => simp [Bus.laneGranted, Bus.setRequest_state, hs]
      | lane n r y =>
        simp only
        split <;> simp [Bus.laneGranted, Bus.setRequest_state, hs]
  have hflight : (s.bus.withdraw l).laneInFlight m = s.bus.laneInFlight m :=
    Bus.laneInFlight_congr (Bus.withdraw_flight s.bus l) m
  change (!(s.bus.withdraw l).laneInFlight m && ((s.bus.withdraw l).request m).isNone && !(s.bus.withdraw l).laneGranted m) = _
  rw [hflight, hgranted, Bus.withdraw_request, Bus.setRequest_request_ne hm]
  rfl

theorem State.Eased.withdrawAll (hm : m ≠ l) (s : State) : s.Eased m (s.withdrawAll l) :=
  (State.Eased.withdrawWait hm s).trans (.of_same (State.onBus_link _ _ m) (fun _ => rfl) (fun _ h => h)
    (State.laneFree_withdraw hm (s.withdrawWait l)).symm.trans)

/-! What the other lane does (R11, R15 to R20, R23, R33, R37) -/

theorem State.Eased.offers (hm : m ≠ l) (s : State) (ns : List Notice) : s.Eased m (s.offers l ns) := by
  rw [State.offers_eq]
  exact .onLink hm s _

theorem State.Eased.endJob (hm : m ≠ l) (s : State) (o : JobOutcome) : s.Eased m (s.endJob l o) := by
  cases h : s.activeJob l with
  | none =>
    rw [State.endJob, h]
    exact .refl m s
  | some j =>
    rw [State.endJob_eq h]
    exact ((State.Eased.withdrawAll hm s).trans (.onLink hm _ _)).trans
      (.freeBufs (State.allUses_nodup _ _ _) fun b hb => State.useOf_of_mem_allUses hm hb)

theorem State.Eased.discardSkipped (hm : m ≠ l) (s : State) (j : Job) : s.Eased m (s.discardSkipped l j) := by
  unfold State.discardSkipped
  split
  next => exact .refl m s
  next => exact .refl m s
  next =>
    unfold State.unloadCopy
    split
    next => exact .refl m s
    next b hb =>
      obtain ⟨v, hv, -⟩ := State.useOf_of_findUse hb
      exact .setHolder (State.useOf_other hv hm) (Holder.lane_ne hm _)
  next => exact .emptyAll hm (State.allUses_nodup _ _ _) fun b hb => State.useOf_of_mem_allUses hm hb

theorem State.Eased.segmentError (hm : m ≠ l) (s : State) (i : ListId) (e : ErrorKind) : s.Eased m (s.segmentError l i e) := by
  unfold State.segmentError
  split
  next => exact .refl m s
  next =>
    split
    next => exact (State.Eased.onLink hm s _).trans (.endJob hm _ .failed)
    next =>
      unfold State.abandonSegment
      simp only
      split
      next => exact ((State.Eased.onLink hm s _).trans (.offers hm _ _)).trans (.endJob hm _ _)
      next => exact ((State.Eased.onLink hm s _).trans (.offers hm _ _)).trans (.discardSkipped hm _ _)

theorem State.Eased.startBlock (hm : m ≠ l) (s : State) (j : Job) (i : ListId) (y : Binding) : s.Eased m (s.startBlock l j i y) := by
  unfold State.startBlock
  split
  next => exact .segmentError hm s i _
  next => exact .ask hm s _

theorem State.Eased.startTransfer (hm : m ≠ l) (s : State) (j : Job) (i : ListId) : s.Eased m (s.startTransfer l j i) := by
  unfold State.startTransfer
  split
  next => exact .startBlock hm s j i _
  next =>
    split
    next => exact .refl m s
    next =>
      split
      next => exact .segmentError hm s i _
      next => exact (State.Eased.onLink hm s _).trans (.startBlock hm _ j i _)

theorem State.Eased.askBuffer (hm : m ≠ l) (s : State) : s.Eased m (s.askBuffer l) := by
  unfold State.askBuffer
  split
  next b hb => exact .assign hm (State.useOf_of_free hb)
  next => exact .joinWait hm s

/-- A step of one lane gives the other no more to do. -/
theorem State.Eased.laneStep (hm : m ≠ l) (h : s.laneStep l = some t) : s.Eased m t := by
  rcases State.laneStep_cases h with ⟨-, rfl⟩ | ⟨j, -, -, -, ⟨-, -, rfl⟩ | ⟨-, -, -, i, -, rfl⟩⟩
  · exact .onLink hm s _
  · exact .askBuffer hm s
  · exact .startTransfer hm s j i

/-! What the lane itself does (R11, R33, R34, R37, R40, R44) -/

theorem State.Eased.emptyOwn (hk : ∀ j, s.activeJob m = some j → j.kind = .write) (b : BufId) :
    s.Eased m (s.emptyWriteBuffer m b) := by
  have hfreed : (∀ j, s.activeJob m = some j → ¬ (j.state = .running ∧ 0 < (s.link m).creditRoom j)) →
      s.Eased m (s.freeBuf b) := fun hroom => by
    have hlink := State.setHolder_link s b .free m
    have hno : (s.setHolder b .free).wantsBuffer m = false := by
      rw [Bool.eq_false_iff]
      intro hw
      obtain ⟨-, j, hj, hr, hn⟩ := State.activeJob_of_wantsBuffer hw
      rw [State.activeJob, hlink] at hj
      simp only [State.jobNeedsBuffer, hk j hj, hlink, decide_eq_true_eq] at hn
      exact hroom j hj ⟨hr, hn⟩
    have haside : (s.setHolder b .free).Aside m (s.freeBuf b) :=
      .giveBuffer hno (State.useOf_setHolder_free s b m) id
    refine .of_jobs (.of_link (haside.link.trans hlink)) (fun hw => ?_) (State.freeBuf_bus s b)
    rw [haside.wantsBuffer, hno] at hw
    cases hw
  unfold State.emptyWriteBuffer
  split
  next hnone => exact hfreed fun j hj => by rw [hnone] at hj; cases hj
  next j hj =>
    split
    next hroom =>
      obtain ⟨u, hu⟩ : ∃ u, u = (s.setHolder b (.lane m .reserved)).grantCredit m := ⟨_, rfl⟩
      have hbuffers : (u.dropIdleWait m).buffers = (s.setHolder b (.lane m .reserved)).buffers := by
        rw [State.dropIdleWait_buffers, hu, State.grantCredit_buffers]
      have hheld : s.heldCount m ≤ (u.dropIdleWait m).heldCount m := State.heldCount_le fun c hc => by
        rw [State.holds_congr (congrArg (Vector.get · c) hbuffers)]
        by_cases hcb : c = b
        · rw [hcb]
          exact State.holds_iff.mpr ⟨_, State.setHolder_holder s b _⟩
        · rw [State.holds_congr (State.setHolder_ne s hcb _)]
          exact hc
      have hlink := State.dropIdleWait_link u m m
      rw [← hu]
      refine .of_jobs ?_ (fun hw => ⟨?_, hheld, fun hin => ?_⟩) ?_
      · have hgranted := State.SameJobs.grantCredit (s.setHolder b (.lane m .reserved)) m
        rw [← hu] at hgranted
        exact ((State.SameJobs.of_link (State.setHolder_link _ _ _ _)).trans hgranted).trans (.of_link hlink)
      · obtain ⟨hcap, -⟩ := State.activeJob_of_wantsBuffer hw
        refine State.wantsBuffer_of_active hj hroom.1 ?_ (hheld.trans_lt hcap)
        simp only [State.jobNeedsBuffer, hk j hj]
        exact decide_eq_true hroom.2
      · have hstay : u.dropIdleWait m = u := by
          obtain ⟨-, k, hk', -, hn⟩ := State.activeJob_of_wantsBuffer hw
          rw [State.activeJob, hlink] at hk'
          have hk' : u.activeJob m = some k := hk'
          rw [State.dropIdleWait, hk']
          refine if_neg fun hzero => ?_
          simp only [State.jobNeedsBuffer, hzero.1, hlink, hzero.2, Nat.lt_irrefl, decide_false, Bool.false_eq_true] at hn
        rw [hstay, hu, State.grantCredit_waitList]
        exact hin
      · rw [State.dropIdleWait_bus, hu, State.grantCredit_bus]
        rfl
    next hroom =>
      refine hfreed fun k hk' => ?_
      rw [hj] at hk'
      cases hk'
      exact hroom

theorem State.Eased.emptyAllOwn (hk : ∀ j, s.activeJob m = some j → j.kind = .write) (bs : List BufId) :
    s.Eased m (bs.foldl (fun t b => t.emptyWriteBuffer m b) s) := by
  induction bs generalizing s with
  | nil => exact .refl m s
  | cons b bs ih => exact (State.Eased.emptyOwn hk b).trans (ih (State.emptyWriteBuffer_activeKind hk m b))

/-- A COPY whose LOADED buffer is STAGED again still has its buffer. -/
theorem State.Eased.unloadCopy (hj : s.activeJob m = some j) (hk : j.kind = .copy) : s.Eased m (s.unloadCopy m) := by
  unfold State.unloadCopy
  split
  next => exact .refl m s
  next b _ =>
    have hlink := State.setHolder_link s b (.lane m .staged) m
    refine .of_jobs (.of_link hlink) (fun hw => ?_) rfl
    obtain ⟨-, k, hk', -, hn⟩ := State.activeJob_of_wantsBuffer hw
    rw [State.activeJob, hlink] at hk'
    obtain rfl : j = k := Option.some.inj (hj.symm.trans hk')
    have hfound : ((s.setHolder b (.lane m .staged)).findUse m (fun v => v.isStaged || v.isInTransfer || v.isLoaded)).isSome = true :=
      State.isSome_findUse ⟨b, .staged, State.useOf_setHolder_lane s b m .staged, rfl⟩
    simp only [State.jobNeedsBuffer, hk, ← Option.not_isSome, hfound, Bool.not_true, Bool.false_eq_true] at hn

theorem State.Eased.discardOwn (hj : s.activeJob m = some j) : s.Eased m (s.discardSkipped m j) := by
  unfold State.discardSkipped
  split
  next => exact .refl m s
  next => exact .refl m s
  next hk => exact .unloadCopy hj hk
  next hk =>
    refine .emptyAllOwn (fun k hk' => ?_) _
    rw [hj] at hk'
    cases hk'
    exact hk

/-! The segments that an abandonment leaves (R19, R20) -/

/-- The other list's position never goes back. -/
theorem Job.abandon_segment_le (hi : i = .destination → j.kind = .copy) (o : ListId) (e : ErrorKind) (skip : Nat) :
    (j.position i).segment ≤ ((j.abandon o e skip).position i).segment := by
  rw [Job.abandon_position hi]
  exact advanceFrom_segment_le _ _ _ _ _

/-- A job that abandons a segment has one fewer to abandon. -/
theorem Job.work_abandon (hp : j.placeLaw = true) (hs : j.state ≠ .queued) (hi : i = .destination → j.kind = .copy) {g : Segment}
    (hg : (j.segments i)[(j.position i).segment]? = some g) (e : ErrorKind) :
    (j.abandon i e (g.blocks - (j.position i).block)).work < j.work := by
  obtain ⟨hpos, -, -⟩ := Job.list_stands hp hi
  obtain ⟨k, hk⟩ : ∃ k, k = j.abandon i e (g.blocks - (j.position i).block) := ⟨_, rfl⟩
  have hlen := (List.getElem?_eq_some_iff.mp hg).1
  have hnext : (k.position i).segment = (j.position i).segment + 1 := by
    rw [hk, Job.abandon_position hi, Position.advance_rest hpos hg]
  have hother : ∀ o : ListId, (j.position o).segment ≤ (k.position o).segment := fun o => by
    rw [hk]
    cases o with
    | primary => exact Job.abandon_segment_le (fun h => by cases h) i e _
    | destination =>
      by_cases hcopy : j.kind = .copy
      · exact Job.abandon_segment_le (fun _ => hcopy) i e _
      · rw [Job.abandon_eq]
        exact (congrArg Position.segment (if_neg hcopy)).ge
  have hstate : k.state = j.state := by rw [hk, Job.abandon_eq]
  have hprimary : k.primary = j.primary := by rw [hk, Job.abandon_eq]
  have hdestination : k.destination = j.destination := by rw [hk, Job.abandon_eq]
  have hp1 : j.posPrimary.segment ≤ k.posPrimary.segment := hother .primary
  have hp2 : j.posDestination.segment ≤ k.posDestination.segment := hother .destination
  rw [← hk, Job.work, Job.work, hstate, if_neg hs, if_neg hs, hprimary, hdestination]
  cases i with
  | primary =>
    change k.posPrimary.segment = j.posPrimary.segment + 1 at hnext
    change j.posPrimary.segment < j.primary.length at hlen
    omega
  | destination =>
    change k.posDestination.segment = j.posDestination.segment + 1 at hnext
    change j.posDestination.segment < j.destination.length at hlen
    omega

theorem LinkState.offers_lane (ns : List Notice) (x : LinkState) : (LinkState.offers ns x).lane = x.lane := by
  induction ns generalizing x with
  | nil => rfl
  | cons n ns ih => exact (ih (x.offer n)).trans (LinkState.offer_lane n x)

/-- The job in a later place of its lists, or with another binding: it calls for no more than before. -/
structure Job.Later (j k : Job) : Prop where
  kind : k.kind = j.kind
  state : k.state = j.state
  credits : k.credits = j.credits
  total : k.total = j.total
  nextBlock : j.nextBlock ≤ k.nextBlock
  work : k.work ≤ j.work

theorem Job.later_setBinding (j : Job) (i : ListId) (y : Option Binding) : j.Later (j.setBinding i y) := by
  cases i <;> exact ⟨rfl, rfl, rfl, rfl, Nat.le_refl _, Nat.le_refl _⟩

/-- A job in a later place needs no buffer that it did not need before. -/
theorem State.Eased.later (hx : (s.link m).live = j :: js) (hs : j.state ≠ .queued) (h : j.Later k) (ns : List Notice) :
    s.Eased m (s.onLink m (fun x => LinkState.offers ns { x with live := k :: js })) := by
  obtain ⟨u, hu⟩ : ∃ u, u = s.onLink m (fun x => LinkState.offers ns { x with live := k :: js }) := ⟨_, rfl⟩
  have hlive : (u.link m).live = k :: js := by rw [hu, State.onLink_link, LinkState.offers_live]
  have hlane : (u.link m).lane = (s.link m).lane := by rw [hu, State.onLink_link, LinkState.offers_lane]
  have hbuffers : u.buffers = s.buffers := by rw [hu, State.onLink_buffers]
  have hwait : u.waitList = s.waitList := by rw [hu, State.onLink_waitList]
  have hbus : u.bus = s.bus := by rw [hu, State.onLink_bus]
  have hj := State.activeJob_of_live hx hs
  have hk := State.activeJob_of_live hlive (h.state ▸ hs)
  have hfind : ∀ p, u.findUse m p = s.findUse m p := State.findUse_congr hbuffers m
  have hheld := State.heldCount_congr (State.useOf_link_congr hbuffers m)
  have hroom : (u.link m).creditRoom k = (s.link m).creditRoom j := by
    rw [LinkState.creditRoom, LinkState.creditRoom, hlane, h.credits, h.total]
  rw [← hu]
  refine ⟨?_, fun hw => ⟨?_, hheld.ge, fun hin => hwait ▸ hin⟩, fun hstart => ?_⟩
  · rw [LinkState.jobWork_of_cons hlive, LinkState.jobWork_of_cons hx]
    exact Nat.add_le_add_right h.work _
  · obtain ⟨hcap, k', hk', hr, hn⟩ := State.activeJob_of_wantsBuffer hw
    obtain rfl : k = k' := Option.some.inj (hk.symm.trans hk')
    refine State.wantsBuffer_of_active hj (h.state ▸ hr) ?_ (hheld ▸ hcap)
    have hnext := h.nextBlock
    rw [State.jobNeedsBuffer, h.kind, h.total, hroom] at hn
    rw [State.jobNeedsBuffer]
    simp only [hfind] at hn
    cases hkind : j.kind with
    | read =>
      simp only [hkind, Bool.and_eq_true, decide_eq_true_eq] at hn ⊢
      exact ⟨hnext.trans_lt hn.1, hn.2⟩
    | write => simpa only [hkind] using hn
    | fill => simpa only [hkind] using hn
    | copy => simpa only [hkind] using hn
  · rw [State.mayStart, State.running_of_active hk, State.laneFree_congr hbus, h.state] at hstart
    rw [State.mayStart, State.running_of_active hj]
    exact hstart

/-! Each step of a lane (R11, R15 to R20, R23, R33, R37) -/

theorem State.jobWork_le_laneWork (s : State) (m : Link) : (s.link m).jobWork ≤ s.laneWork m :=
  (Nat.le_add_right _ _).trans (Nat.le_add_right _ _)

theorem State.laneWork_of_inactive (h : s.activeJob m = none) : s.laneWork m = (s.link m).jobWork := by
  have hrun : s.mayStart m = false := by rw [State.mayStart, State.running, h]; rfl
  rw [State.laneWork, State.askWork, State.wantsBuffer_idle h, hrun]
  rfl

/-- Behind the end of a job, what is left is to do the QUEUED ones. -/
theorem State.laneWork_endJob (hx : (s.link m).live = j :: js) (hs : j.state ≠ .queued) (hq : ∀ k ∈ js, k.state = .queued)
    (o : JobOutcome) : (s.endJob m o).laneWork m = (js.map Job.work).sum := by
  have hlive : ((s.endJob m o).link m).live = js := by
    rw [(State.endJob_jobEnded hx hs hq o).link, LinkState.ending_live hx]
  have hnone : (s.endJob m o).activeJob m = none := LinkState.activeJob_of_queued (by rw [hlive]; exact hq)
  rw [State.laneWork_of_inactive hnone, LinkState.jobWork, hlive]

theorem State.laneWork_segmentError (hx : (s.link m).live = j :: js) (hs : j.state ≠ .queued) (hq : ∀ k ∈ js, k.state = .queued)
    (hp : j.placeLaw = true) (hi : i = .destination → j.kind = .copy) (e : ErrorKind) :
    (s.segmentError m i e).laneWork m < s.laneWork m := by
  have hbehind : (js.map Job.work).sum < s.laneWork m := by
    have hjobs := s.jobWork_le_laneWork m
    have hwork := (Job.work_of_active hp hs).1
    rw [LinkState.jobWork_of_cons hx] at hjobs
    omega
  have hended : ∀ (u : State) (k : Job) (o : JobOutcome), (u.link m).live = k :: js → k.state = j.state →
      (u.endJob m o).laneWork m < s.laneWork m := fun u k o hu hk => by
    rw [State.laneWork_endJob hu (hk ▸ hs) hq]
    exact hbehind
  cases hstop : j.stopOnError with
  | true =>
    rw [State.segmentError_of_stop hx hs hstop]
    exact hended _ { j with failed := 1, firstError := _ } _ (by rw [State.onLink_link]) rfl
  | false =>
    obtain ⟨-, hstands, -⟩ := Job.list_stands hp hi
    obtain ⟨g, hg, -⟩ := (Position.standsAt_iff _ _ _).mp hstands
    obtain ⟨k, hk⟩ : ∃ k, k = j.abandon i e (g.blocks - (j.position i).block) := ⟨_, rfl⟩
    have hwork : k.work < j.work := by rw [hk]; exact Job.work_abandon hp hs hi hg e
    have hlater : j.Later k := ⟨by rw [hk, Job.abandon_eq], by rw [hk, Job.abandon_eq], by rw [hk, Job.abandon_eq],
      by rw [hk, Job.abandon_eq], by rw [hk, Job.abandon_eq]; exact Nat.le_add_right _ _, hwork.le⟩
    obtain ⟨u, hu⟩ : ∃ u, u = s.onLink m (fun x =>
      LinkState.offers (j.abandonNotices i e (g.blocks - (j.position i).block)) { x with live := k :: js }) := ⟨_, rfl⟩
    have hlive : (u.link m).live = k :: js := by rw [hu, State.onLink_link, LinkState.offers_live]
    rw [State.segmentError_of_go_on hx hs hstop hg rfl e (hk ▸ hu)]
    split
    next => exact hended u k _ hlive hlater.state
    next =>
      have heased := hu ▸ State.Eased.later hx hs hlater (j.abandonNotices i e (g.blocks - (j.position i).block))
      have hfewer : (u.link m).jobWork < (s.link m).jobWork := by
        rw [LinkState.jobWork_of_cons hlive, LinkState.jobWork_of_cons hx]
        exact Nat.add_lt_add_right hwork _
      have hdiscard := State.Eased.discardOwn (State.activeJob_of_live hlive (hlater.state ▸ hs))
      rw [← hk]
      exact hdiscard.laneWork_le.trans_lt (heased.laneWork_lt (.inl hfewer))

theorem State.laneWork_request (h : s.Eased m u) (hs : s.mayStart m = true) (r : BusRequest) :
    (u.onBus (fun b => b.ask m r)).laneWork m < s.laneWork m := by
  have hask : u.Eased m (u.onBus (fun b => b.ask m r)) := .of_same (State.onBus_link u _ m) (fun _ => rfl) (fun _ h => h)
    fun h => by
      rw [State.laneFree_ask] at h
      cases h
  exact (h.trans hask).laneWork_lt (.inr (.inr ⟨hs, by rw [State.mayStart, State.laneFree_ask, Bool.and_false]⟩))

theorem State.list_of_readyList (h : s.readyList m j = some i) : i = .destination → j.kind = .copy := by
  rintro rfl
  unfold State.readyList at h
  split at h
  next => split at h <;> cases h
  next => split at h <;> cases h
  next => split at h <;> cases h
  next hk => exact hk

theorem State.laneWork_startTransfer (hx : (s.link m).live = j :: js) (hs : j.state ≠ .queued)
    (hq : ∀ k ∈ js, k.state = .queued) (hp : j.placeLaw = true) (hi : i = .destination → j.kind = .copy)
    (hstart : s.mayStart m = true) : (s.startTransfer m j i).laneWork m < s.laneWork m := by
  have herror := State.laneWork_segmentError hx hs hq hp hi
  cases hb : j.binding i with
  | some y =>
    rw [State.startTransfer_of_binding hb]
    cases hc : (s.slot y.slot).blockCheck y with
    | some e =>
      rw [State.startBlock_of_error hc]
      exact herror e
    | none =>
      rw [State.startBlock_of_ready hc]
      exact State.laneWork_request (.refl m s) hstart _
  | none =>
    obtain ⟨-, hstands, -⟩ := Job.list_stands hp hi
    obtain ⟨g, hg, -⟩ := (Position.standsAt_iff _ _ _).mp hstands
    cases hd : s.decode m (j.kind.direction i) g.address (g.blocks * j.blockSize) with
    | error e =>
      rw [State.startTransfer_of_decode_error hb hg hd]
      exact herror e
    | ok y =>
      rw [State.startTransfer_of_decode hx hb hg hd]
      exact State.laneWork_request (State.Eased.later hx hs (Job.later_setBinding j i (some y)) []) hstart _

/-- A lane that asks for a buffer takes one, or joins the wait list. -/
theorem State.laneWork_askBuffer (hw : s.wantsBuffer m = true) (hl : m ∉ s.waitList) :
    (s.askBuffer m).laneWork m < s.laneWork m := by
  obtain ⟨hcap, -⟩ := State.activeJob_of_wantsBuffer hw
  have hbefore : s.askWork m = Config.laneCap - s.heldCount m + 1 := by rw [State.askWork, if_pos hw, if_neg hl]
  unfold State.askBuffer
  split
  next b hb =>
    have hheld := State.heldCount_assign hw (State.useOf_of_free hb)
    refine (State.Eased.of_jobs (.assign s m b) (fun _ => ⟨hw, by rw [hheld]; exact Nat.le_succ _, fun h => absurd h hl⟩)
      (State.assign_bus s m b)).laneWork_lt (.inr (.inl ?_))
    rw [hbefore, State.askWork, hheld]
    split
    next => split <;> omega
    next => exact Nat.succ_pos _
  next =>
    have hbuffers := State.joinWait_buffers s m
    have hin : m ∈ (s.joinWait m).waitList := by
      rw [State.joinWait_waitList, if_neg hl]
      exact List.mem_append_right _ (List.mem_singleton_self m)
    have hheld := State.heldCount_congr (State.useOf_link_congr hbuffers m)
    refine (State.Eased.of_jobs (.of_link (State.joinWait_link s m m)) (fun _ => ⟨hw, hheld.ge, fun _ => hin⟩)
      (State.joinWait_bus s m)).laneWork_lt (.inr (.inl ?_))
    rw [hbefore, State.askWork, hheld, if_pos hin]
    split
    next => exact Nat.lt_succ_self _
    next => exact Nat.succ_pos _

theorem State.askWork_le (s : State) (m : Link) : s.askWork m ≤ 9 := by
  have hcap : Config.laneCap = 8 := rfl
  rw [State.askWork, hcap]
  split
  next => split <;> omega
  next => exact Nat.zero_le _

/-- What a lane has to do but for its jobs. -/
theorem State.laneWork_le (s : State) (m : Link) : s.laneWork m ≤ (s.link m).jobWork + 10 := by
  have hask := s.askWork_le m
  rw [State.laneWork]
  split <;> omega

theorem State.laneWork_startJob (hx : (s.link m).live = j :: js) (hs : j.state = .queued) (hp : j.placeLaw = true) :
    (s.startJob m).laneWork m < s.laneWork m := by
  obtain ⟨k, hk⟩ : ∃ k : Job, k = { j with state := .running } := ⟨_, rfl⟩
  have hlive : ((s.startJob m).link m).live = k :: js := by
    rw [State.startJob, State.onLink_link, LinkState.onHead_of_cons hx, hk]
  have hplace : k.placeLaw = true := by rw [hk]; exact hp
  have hstarted := (Job.work_of_active hplace (by simp [hk])).2
  have hqueued : j.work = 43 := if_pos hs
  have hafter := (s.startJob m).laneWork_le m
  have hbefore := s.jobWork_le_laneWork m
  rw [LinkState.jobWork_of_cons hlive] at hafter
  rw [LinkState.jobWork_of_cons hx] at hbefore
  omega

/-- Each step of a lane leaves it less to do. -/
theorem State.laneWork_laneStep (hlists : (s.link m).Lists) (hplaces : ∀ j ∈ (s.link m).live, j.placeLaw = true)
    (h : s.laneStep m = some t) : t.laneWork m < s.laneWork m := by
  rcases State.laneStep_cases h with ⟨hc, rfl⟩ | ⟨j, hj, hr, -, ⟨hw, hl, rfl⟩ | ⟨-, hfree, -, i, hi, rfl⟩⟩
  · obtain ⟨-, -, j, js, hx, hs⟩ := State.startCheck_iff.mp hc
    exact State.laneWork_startJob hx hs (hplaces j (hx ▸ List.mem_cons_self))
  · exact State.laneWork_askBuffer hw hl
  · obtain ⟨js, hx, hs⟩ := State.activeJob_eq_some.mp hj
    have hstart : s.mayStart m = true := by
      rw [State.mayStart, State.running_of_active hj, hfree, Bool.and_true]
      exact decide_eq_true hr
    have htail := hlists.tail
    rw [hx] at htail
    exact State.laneWork_startTransfer hx hs htail (hplaces j (hx ▸ List.mem_cons_self)) (State.list_of_readyList hi) hstart

/-! The lanes going on (R11, log entry 17) -/

theorem Link_eq_or_other (l m : Link) : m = l ∨ m = l.other := by
  cases l <;> cases m <;> decide

/-- What both lanes have to do. -/
def State.work (s : State) : Nat := s.laneWork .A + s.laneWork .B

theorem State.work_eq (s : State) (l : Link) : s.work = s.laneWork l + s.laneWork l.other := by
  cases l
  · rfl
  · exact Nat.add_comm _ _

/-- The laws on which the lanes' coming to rest stands: every link keeps its lists, its jobs at their places. -/
def State.Ordered (s : State) : Prop := ∀ m, (s.link m).Lists ∧ ∀ j ∈ (s.link m).live, j.placeLaw = true

theorem State.Ordered.laneStep (h : s.Ordered) (ht : s.laneStep l = some t) : t.Ordered := fun m =>
  ⟨LinkMoves.keeps LinkMove.lists ((LaneRuns.laneStep ht).moves m) (h m).1,
    LinkMoves.keeps LinkMove.places ((LaneRuns.laneStep ht).moves m) (h m).2⟩

theorem State.Ordered.work_lt (h : s.Ordered) (ht : s.laneStep l = some t) : t.work < s.work := by
  rw [State.work_eq t l, State.work_eq s l]
  exact Nat.add_lt_add_of_lt_of_le (State.laneWork_laneStep (h l).1 (h l).2 ht)
    (State.Eased.laneStep (Link_other_ne l) ht).laneWork_le

theorem LinkState.jobWork_le (hlists : x.Lists) (hplaces : ∀ j ∈ x.live, j.placeLaw = true) : x.jobWork ≤ 344 := by
  have hsum : x.jobWork ≤ (x.live.map Job.work).length * 43 := List.sum_le_card_nsmul _ 43 fun n hn => by
    obtain ⟨j, hj, rfl⟩ := List.mem_map.mp hn
    exact Job.work_le (hplaces j hj)
  have hmax : Config.liveMax = 8 := rfl
  have hlen := hlists.live
  rw [List.length_map] at hsum
  omega

theorem State.Ordered.work_le (h : s.Ordered) : s.work ≤ 708 := by
  have hlane : ∀ m, s.laneWork m ≤ 354 := fun m =>
    (s.laneWork_le m).trans (Nat.add_le_add_right (LinkState.jobWork_le (h m).1 (h m).2) 10)
  exact Nat.add_le_add (hlane .A) (hlane .B)

/-- With as many steps as the lanes have to do, they come to rest. -/
theorem State.Ordered.rests (h : s.Ordered) (l : Link) {n : Nat} (hn : s.work ≤ n) :
    ∀ m, (settleFrom l n s).laneStep m = none := by
  induction n generalizing s with
  | zero =>
    intro m
    rw [Option.eq_none_iff_forall_ne_some]
    intro t ht
    exact Nat.not_lt_zero _ ((h.work_lt ht).trans_le hn)
  | succ n ih =>
    have hgo : ∀ {m t}, s.laneStep m = some t → ∀ k, (settleFrom l n t).laneStep k = none := fun ht =>
      ih (h.laneStep ht) (Nat.le_of_lt_succ ((h.work_lt ht).trans_le hn))
    cases hl : s.laneStep l with
    | some t =>
      rw [settleFrom_of_step hl]
      exact hgo hl
    | none =>
      cases ho : s.laneStep l.other with
      | some t =>
        rw [settleFrom_of_other hl ho]
        exact hgo ho
      | none =>
        rw [settleFrom_of_rest hl ho]
        intro m
        rcases Link_eq_or_other l m with rfl | rfl
        · exact hl
        · exact ho

/-- Steps more than the lanes have to do change nothing. -/
theorem State.Ordered.settleFrom_succ (h : s.Ordered) (l : Link) {n : Nat} (hn : s.work ≤ n) :
    settleFrom l (n + 1) s = settleFrom l n s := by
  induction n generalizing s with
  | zero =>
    have hrest := h.rests l hn
    exact settleFrom_of_rest (hrest l) (hrest l.other) 1
  | succ n ih =>
    have hgo : ∀ {m t}, s.laneStep m = some t → settleFrom l (n + 1) t = settleFrom l n t := fun ht =>
      ih (h.laneStep ht) (Nat.le_of_lt_succ ((h.work_lt ht).trans_le hn))
    cases hl : s.laneStep l with
    | some t => rw [settleFrom_of_step hl, settleFrom_of_step hl, hgo hl]
    | none =>
      cases ho : s.laneStep l.other with
      | some t => rw [settleFrom_of_other hl ho, settleFrom_of_other hl ho, hgo ho]
      | none => rw [settleFrom_of_rest hl ho, settleFrom_of_rest hl ho]

end

/-- Settles O39: what the lanes have to do falls with each of their steps, and is less than the bound of the model. -/
theorem lanesGoOnUntilTheyRest : Obligations.LanesGoOnUntilTheyRest := by
  intro l s hlists hplaces
  have h : s.Ordered := fun m => ⟨State.listsKept_iff.mp hlists m, State.placesKept_iff.mp hplaces m⟩
  have hfuel : settleFuel = 999 + 1 := rfl
  have hstable : ∀ {m t}, s.laneStep m = some t → settleFrom l 999 t = t.settle l := fun ht =>
    ((h.laneStep ht).settleFrom_succ l ((h.laneStep ht).work_le.trans (by decide))).symm
  refine ⟨fun t ht => ?_, fun hrest => ⟨fun t ht => ?_, fun ho => settleFrom_of_rest hrest ho settleFuel⟩, ?_⟩
  · rw [State.settle, hfuel, settleFrom_of_step ht, hstable ht]
  · rw [State.settle, hfuel, settleFrom_of_other hrest ht, hstable ht]
  · exact h.rests l (h.work_le.trans (by decide))

end Sys2Proof.Machine
end
